-- ==== Sys2Proof/Word.lean ====
section
/-! DEFINITION. The word types of the block: bytes and register words (00 R4, R6). -/

namespace Sys2Proof

/-- One byte of a host-visible structure (00 R4). -/
abbrev Byte := BitVec 8

/-- Replicated state: values keyed by an entry number, keys strictly rising. An entry that is not listed
holds the default its reader names. -/
abbrev Tbl (α : Type) := List (Nat × α)

end Sys2Proof
end

