-- ==== Sys2Proof/Syntax.lean ====
section
/-! DEFINITION. The commands of the block: one constructor per row of spec/opcode_table.json, with the operands that
carry what the outside parts answer and what firmware or an arbiter chooses (log 3). -/

namespace Sys2Proof

/-- Outcome of a host DMA read (02 R35). Bytes past the end of `data` count as 0 (log 3). -/
inductive DmaRes where
  | data (bytes : List Byte)
  | ur | ca | poison
  deriving DecidableEq, Repr

/-- A codeword as a decode finds it (11 R318, R320): whether the decode converged, whether MCRC matched, and the
metadata field. The LDPC matrix is not published (log 13). -/
structure CwMeta where
  conv : Bool := true
  mcrcOk : Bool := true
  ver : Nat := 1
  epoch : Nat := 0
  lba : Nat := 0
  nsid : Nat := 0
  btag : Nat := 0
  kslot : Nat := 0
  kgen : Nat := 0
  kind : Nat := 0
  /-- the codeword is the slice at this position of the unit's reconstruct (09 R248) -/
  slice : Option Nat := none
  deriving DecidableEq, Repr

/-- Straps and mode balls as sampled (02 R32, 17 R462, R472). -/
structure Straps where
  lgrp : Nat := 0
  profile : Nat := 0
  jtagEn : Bool := false
  /-- TEST is driven high: the factory mode (17 R462) -/
  test : Bool := false
  deriving DecidableEq, Repr

/-- The DIMMs of a channel as SPD and training show them (13 R371, R372): physical ranks fitted, 32 Gb devices, the rate
it supports (0 DDR5-6400, 1 DDR5-5600, 2 DDR5-4800), and the DIMM serial number of each physical rank. -/
structure Dimm where
  ch : Nat
  ranks : Nat
  dev32 : Bool := false
  rate : Nat := 0
  serials : List Nat := []
  deriving DecidableEq, Repr

/-- What the tests and reads of a start find (15 R418, 11 R322, R328, 09 R263): images by slot 0 A, 1 B, 2 rescue
whose digest and signature verify now; lanes that fail the known-answer test; hard and soft decoders that fail their test; dump extents
that cannot be rebuilt (namespace and LBA). -/
structure BootFacts where
  lanesFail : List Nat := []
  decodersFail : Nat := 0
  softDecodersFail : Nat := 0
  lostBlocks : List (Nat × Nat) := []
  /-- channels whose exit from self-refresh does not train (13 R378) -/
  chansFail : List Nat := []
  dimms : List Dimm := []
  /-- erase blocks found bad at first format, by block key (09 R240) -/
  firstBad : List Nat := []
  deriving DecidableEq, Repr

/-- What the steep sampler reads of a hub that answers: indices 0x20 to 0x28 in °C, and the ALERT register (16 R447). -/
structure HubSteep where
  link : Nat
  temps : List Int
  alert : Nat := 0
  deriving DecidableEq, Repr

/-- What the steep sampler reads of a PMBus device: READ_VOUT, VOUT_COMMAND and STATUS_WORD (16 R447). -/
structure RailSteep where
  dev : Nat
  vout : Nat
  cmd : Nat
  status : Nat
  deriving DecidableEq, Repr

/-- A request that an engine sends to DRAM (13 R388); `bytes` is empty for a read. -/
structure DramReq where
  port : Nat
  addr : Nat
  isWrite : Bool
  bytes : List Byte := []
  deriving DecidableEq, Repr

/-- Symbols of a DRAM line that changed by themselves since the line was written (13 R375): codeword × 20 + symbol, and
the difference (log 3). -/
abbrev Flips := List (Nat × Nat)

/-- A hazard search key as an operation names it (14 R393, R404). -/
structure SearchKey where
  lo : Nat := 0
  last : Nat := 0
  nsid : Nat := 0
  w : Bool := false
  value : Nat := 0
  dontCare : Nat := 0
  deriving DecidableEq, Repr

/-- Who sent a mailbox request: a function, or none for the MCTP endpoint (06 R163, R192). -/
abbrev Sender := Option Nat

/-- The commands (opcode_table.json). -/
inductive Instr where
  -- task registers and I/O commands (03, 04)
  | taskWrite (gfn qid : Nat) (bytes : List (Nat × Byte))
  | seal (gfn qid : Nat) (bytes : List (Nat × Byte))
  | landingMove (gfn qid : Nat)
  | landingArbiter
  | dispatch (slot : Nat)
  | read (slot : Nat)
  | write (slot : Nat)
  | zoneAppend (slot : Nat)
  | flush (slot : Nat)
  | zoneMgmtOpen (slot : Nat)
  | zoneMgmtClose (slot : Nat)
  | zoneMgmtFinish (slot : Nat)
  | zoneMgmtReset (slot : Nat)
  | zoneMgmtOffline (slot : Nat)
  | zoneReport (slot : Nat)
  | deallocate (slot : Nat)
  | verify (slot : Nat)
  | copy (slot : Nat)
  | writeZeroes (slot : Nat)
  | nop (slot : Nat)
  | zoneSequenceHead (slot : Nat)
  | appendStage (slot : Nat)
  | listFetchDone (slot : Nat) (res : DmaRes)
  | dmaCompletion (slot : Nat) (res : DmaRes)
  | dmaTimeout (slot : Nat)
  | cipherUnitDone (lane slot idx : Nat) (ok : Bool)
  | mirrorWriteAck (slot piece chA chB : Nat) (ok : Bool)
  | completionCollectorEntry
  | completionEntryWrite (slot : Nat)
  -- interrupts and registers (02, 03)
  | coalescingTimerExpiry (gfn qid : Nat)
  | irqGapExpiry (gfn vec : Nat)
  | msixUnmask (gfn : Nat) (vec : Option Nat)
  | crHeadWrite (gfn qid value : Nat)
  | tqResetWrite (gfn qid value : Nat)
  | fnAbortWrite (gfn value : Nat)
  | mbxDoorbellRing (gfn value : Nat)
  | registerWrite (gfn bar off width value : Nat)
  | pwrXstatRead (gfn : Nat)
  | bar4StaleRead (gfn off : Nat)
  -- mailbox messages and their events (06, 07, 08, 12, 15)
  | identify (src : Sender)
  | getParam (src : Sender)
  | setParam (src : Sender)
  | createQueue (src : Sender)
  | deleteQueue (src : Sender)
  | queueReset (src : Sender)
  | nsCreate (src : Sender)
  | nsDelete (src : Sender)
  | nsFormat (src : Sender)
  | nsAttachAttach (src : Sender)
  | nsAttachDetach (src : Sender)
  | keyLoad (src : Sender)
  | kekInstall (src : Sender)
  | keyDestroy (src : Sender)
  | fwDownload (src : Sender) (ok : Bool)
  | fwCommit (src : Sender)
  | fwActivate (src : Sender)
  | fwActivateReady
  | fwActivateTimeout
  | profileSelect (src : Sender)
  | holdDrainDone
  | profileSave (src : Sender) (ok : Bool)
  | logRead (src : Sender)
  | ledgerRead (src : Sender)
  | ledgerFreeze (src : Sender)
  | ledgerUnfreeze (src : Sender)
  | ledgerFreezeExpiry
  | ledgerClearNonce (src : Sender) (nonce : List Byte)
  | ledgerClear (src : Sender)
  | nonceExpiry
  | attestQuote (src : Sender)
  | powerState (src : Sender)
  | loopTarget (src : Sender)
  | loopTune (src : Sender)
  | loopInject (src : Sender)
  | loopCaptureArm (src : Sender)
  | loopCaptureRead (src : Sender)
  | loopCaptureDisarm (src : Sender)
  | vfEnableProvision (src : Sender)
  | vfEnableRelease (src : Sender)
  | functionQuiesce (src : Sender)
  | quiesceDrainDone (gfn : Nat)
  | quiesceWaitTimeout (gfn : Nat)
  | functionResume (src : Sender)
  | functionStateGet (src : Sender)
  | functionStateSet (src : Sender)
  | relayFetch (src : Sender)
  | relayRespond (src : Sender)
  | relayTimeout (gfn : Nat)
  | dirtyLogStart (src : Sender)
  | dirtyLogHarvest (src : Sender)
  | dirtyLogStop (src : Sender)
  | functionAbort (src : Sender)
  | controllerReset (src : Sender)
  | controllerResetSequence (facts : BootFacts)
  | resetRingTimeout (slot : Nat)
  | watchdogExpiry
  | sanitizeCryptoErase (src : Sender)
  | sanitizeBlockErase (src : Sender)
  | sanitizeDone
  | hseSearch (src : Sender)
  | dlIdleTimeout
  -- out of band, DOE, SPDM, IDE (02, 06)
  | mctpMessage (bytes : List Byte)
  | setEndpointId (eid : Nat)
  | getEndpointId
  | getMctpVersionSupport
  | getMessageTypeSupport
  | doeDiscovery (pf dwords index : Nat)
  | doeAbort (pf : Nat)
  | getVersion (pf dwords : Nat)
  | getCapabilities (pf dwords : Nat)
  | negotiateAlgorithms (pf dwords : Nat)
  | getDigests (pf dwords : Nat)
  | getCertificate (pf dwords slot : Nat)
  | challenge (pf dwords slot : Nat)
  | getMeasurements (pf dwords index : Nat)
  | keyExchange (pf dwords session : Nat)
  | finish (pf session : Nat) (ok : Bool)
  | heartbeatSpdm (pf session : Nat)
  | keyUpdate (pf session : Nat)
  | endSession (pf session : Nat)
  | ideKmKeyProg (pf session stream : Nat)
  | ideKmKSetGo (pf session stream : Nat)
  | ideKmKSetStop (pf session stream : Nat)
  | ideIntegrityFailure (stream : Nat)
  -- host link and functions (02, 07, 08)
  | poisonedTlp (gfn : Nat)
  | linkRetrain (grp : Nat) (degraded : Bool)
  | linkDown (grp : Nat)
  | dlUp (grp : Nat)
  | perstAssert
  | perstDeassert (straps : Straps) (facts : BootFacts)
  | flrInitiate (gfn : Nat)
  | flrEnd (gfn : Nat)
  | vfEnableSet (pf numVfs : Nat)
  | vfEnableClear (pf numVfs : Nat)
  -- power, clocks, board (16, 17)
  | pfD3hot (pf : Nat) (l12 : Bool)
  | pfD0Return (pf : Nat)
  | ps2IdleGate
  | dormantEntry
  | dormantCommit
  | wakeEvent (code : Nat)
  | dormantBarAccess (gfn bar off : Nat) (isWrite : Bool)
  | dormantExit (tagOk retOk : Bool) (facts : BootFacts)
  | wakePowerGoodTimeout (cause id : Nat)
  | wakeRetry
  | steepPatrol (hubs : List HubSteep) (rails : List RailSteep)
  | pfailSampled (complete : Bool)
  | dumpEnd
  | pfailReturnHigh
  | pfailHighHoldExpiry
  | pwrgdRise (straps : Straps)
  | pwrgdFall
  | resetRelease (facts : BootFacts)
  | dramFillDone
  | firmwareReady (success : Bool)
  | thermtrip
  | clockLoss (domain : Nat) (relock : Bool)
  | crossingFence (xid : Nat)
  | pmbAlert (status : List (Nat × Nat))
  | avsCorrection (rail mv : Nat) (ack : Bool)
  -- media (09, 11)
  | quireVerified (ream quire : Nat)
  | sheetProgramIssue (ream quire pos encFaults : Nat)
  | admissionTokenRequest (link queue : Nat)
  | linkQueueServe (link : Nat)
  | busyDieDecision (link chan est remain progress : Nat)
  | decodeDone (slot idx : Nat) (cw : CwMeta)
  | blockReplacement (blk cause : Nat)
  | reamFormation (deckle kind grp nsid zone : Nat)
  | eraseDone (blk : Nat) (ok : Bool)
  | relocationSwitch (src : Nat)
  | gcStart (grp : Nat)
  | gcBundleMove (nsid bundle : Nat)
  | stagingEviction (deckle : Nat)
  | stagingDrainDone
  | dumpReamReady (deckle : Nat)
  | mapCheckpoint (deckle : Nat)
  | journalProgram (deckle : Nat)
  | intentBatch (deckle : Nat)
  -- Jetar link (10)
  | flitReceive (link : Nat) (bytes : List Byte)
  | replayTimerExpiry (link : Nat)
  | linkSilenceTimeout (link : Nat)
  | jts1Receive (link preset request : Nat) (eqDone : Bool)
  | jts2Receive (link : Nat)
  | eiosReceive (link : Nat)
  | alignReceive (link : Nat) (bytes : List Byte)
  | alignAckReceive (link : Nat) (bytes : List Byte)
  | linkStateTimeout (link : Nat)
  | heartbeatSend (link : Nat)
  | heartbeat (link : Nat)
  | heartbeatWindowExpiry (link : Nat)
  | cmpl (link : Nat)
  | dataRd (link : Nat)
  | dieTimerExpiry (link die : Nat)
  | dieFail (link : Nat)
  | temp (link : Nat)
  | power (link : Nat)
  | hubReset (link : Nat)
  | eraseInt (link : Nat)
  | chanFault (link : Nat)
  | telemetry (link : Nat)
  | parkReply (link : Nat)
  | unparkReply (link : Nat)
  | hubCfgReply (link : Nat)
  | hubFwReply (link : Nat)
  | hubCfgTimeout (link : Nat)
  | hubLost (link : Nat)
  | hubSidebandReset (link : Nat) (acked : Bool)
  | bringupTimeout (link : Nat)
  | faultHoldExpiry (link : Nat)
  | hubIbi (link code arg : Nat)
  -- vat (11)
  | bufferRequest (owner size : Nat) (plain readPath : Bool)
  | free (owner handle : Nat)
  | give (owner handle newOwner : Nat)
  -- hazard engine (14)
  | search (requester : Nat) (key : SearchKey) (mask : Nat) (ceiling : Option Nat)
  | searchInsert (requester : Nat) (key : SearchKey) (staging : Bool)
  | step (requester : Nat)
  | modify (index lo last : Nat)
  | remove (index : Nat)
  -- calender (12)
  | loopSample (loop : Nat) (late : Nat × Nat)
  -- DRAM (13)
  | dramSchedule (ch : Nat) (arrive : List DramReq) (flips : Flips)
  | narrowWrite (port addr : Nat) (bytes : List Byte) (flips : Flips)
  | mergeEntryTimeout (entry : Nat) (flips : Flips)
  | scrubLine (ch : Nat) (flips : Flips)
  | rankMigrationLine (ch : Nat) (flips : Flips)
  | rankMigrationDone (ch : Nat)
  | caparError (ch rank : Nat) (again : Bool)
  | dramRetrain (ch : Nat) (ok : Bool)
  | dramRetrainRetry (ch : Nat) (ok : Bool)
  | rhWindowClear (ch : Nat)
  | rfmRequest (ch : Nat)
  -- firmware store and ledger (15)
  | fstVddMeasure (centivolts : Nat)
  | fstBrownout
  | fstReadRequest (sector : Nat)
  | fstEraseDone
  | ledgerEvent (code : Nat) (arg : List Byte)
  | ledgerProgramDone (ok : Bool)
  | ledgerTokenRefill (cls : Nat)
  -- refreshes and late rows (12, 15, 16, 17)
  | calenderInputRefresh (input : Nat) (value : Option Int)
  | reconstructBucketCredit (cls : Nat)
  | hubSidebandTemperatureRead (link : Nat) (answer : Option (List Int))
  | fstEraseResume
  | vddAonInRegulation
  | vddAonFall
  deriving DecidableEq, Repr

end Sys2Proof
end

