-- ==== Sys2Proof/Config.lean ====
section
/-! DEFINITION. What the spec leaves to an implementation or to another standard: opaque functions and free values. -/

namespace Sys2Proof

/-- A free 64-bit value: what a buffer or field holds where the spec calls it undefined or does not state it (log 11).
It is applied to the counter `freeCtr` of State. -/
opaque Config.freeValue : Nat → BitVec 64

/-- A free byte string of the given length, for reply contents the spec does not give (06 R167 IDENTIFY, 02 R55; log 11). -/
opaque Config.freeBytes : Nat → Nat → List Byte

/-- SHA-384 (15 R414, R420). The spec names the algorithm of another standard; its value stays opaque (log 13). -/
opaque Config.sha384 : List Byte → List Byte

/-- ECDSA P-384 verification: key, digest, signature (15 R415, R432; log 13). -/
opaque Config.ecdsaVerify : List Byte → List Byte → List Byte → Bool

/-- ECDSA P-384 signature by the device identity key over a message (15 R425, R434; log 13). -/
opaque Config.deviceSign : List Byte → List Byte

/-- AES key unwrap of a 72-byte blob under a 32-byte KEK (11 R334): the 64 key bytes, or none where its check fails
(log 13). -/
opaque Config.aesUnwrap : List Byte → List Byte → Option (List Byte)

/-- Whether AMPLITUDE times the sine of a phase in Q0.32 is rounded up (12 R367). The spec states no rounding (log 31). -/
opaque Config.sineUp : BitVec 32 → Int → Bool

/-- LDPC parity of 4,160 bytes, by byte (11 R318: the matrix is not published; log 13). -/
opaque Config.ldpcParity : List Byte → Nat → Byte

/-- A byte of the XTS-AES-256 ciphertext of a block: key slot, generation, tweak LBA, plaintext, place (11 R326; log 13). -/
opaque Config.cipherByte : Nat → Nat → Nat → List Byte → Nat → Byte

/-- A byte of a record wrapped under the key that the security core derives from the device secret: record, place (11 R333,
R336; log 13). -/
opaque Config.wrapByte : List Byte → Nat → Byte

/-- A level offset in DAC steps: level set, level (10 R288 SET_LEVELS). The spec gives no values (log 59). -/
opaque Config.levelOffset : Nat → Nat → Byte

/-- The KH12 image inside a firmware image (15 R433, 10 R303). The spec does not give its place (log 11). -/
opaque Config.hubImageOf : List Byte → List Byte

/-- The version of a KH12 image (10 R303). The spec does not give its place (log 11). -/
opaque Config.hubVersionOf : List Byte → BitVec 16

/-- The bytes of a profile copy without generation and CRC (15 R433). The spec does not give the layout (log 11). -/
opaque Config.profileBytes : List (Nat × Nat) → List Byte

/-- Silicon stepping shown by FN_ID.STEP (02 R41). It is the part's own (log 11). -/
opaque Config.stepping : BitVec 8

/-- A byte of what the factory programs and the spec does not give: item 0 and 1 the key hashes, 2 the serial number, 3 the
owner's public key (15 R416, R421, R432; log 14). -/
opaque Config.factoryByte : Nat → Nat → Byte

/-- The device certificate chain in the factory area (02 R55; log 14). -/
opaque Config.factoryCert : List Byte

/-- The boot ROM (15 R418, R433; log 14). -/
opaque Config.romCode : List Byte

/-- The rescue image, which only the factory programs (15 R406; log 14). -/
opaque Config.rescueImage : List Byte

/-- The block group of an erase block of a die, for the level table (09 R249). The spec does not say how blocks are grouped
(log 59). -/
opaque Config.blockGroup : Nat → Nat

/-- The Horlis vendor ID (02 R33; 06 R191), which the spec does not give. -/
opaque Config.vendorId : BitVec 16

end Sys2Proof
end

