-- ==== Sys2Proof/Machine/Tbl.lean ====
section
/-! DEFINITION. Reading and writing replicated state (tables keyed by entry). -/

namespace Sys2Proof

/-- The value listed for `k`. -/
def tfind {α : Type} (t : Tbl α) (k : Nat) : Option α :=
  match t with
  | [] => none
  | (j, v) :: r => if j = k then some v else tfind r k

/-- The value of entry `k`, or its default `d` when nothing is listed. -/
def tget {α : Type} (t : Tbl α) (k : Nat) (d : α) : α := (tfind t k).getD d

/-- Set entry `k`; keys stay strictly rising. -/
def tset {α : Type} (t : Tbl α) (k : Nat) (v : α) : Tbl α :=
  match t with
  | [] => [(k, v)]
  | (j, w) :: r => if k < j then (k, v) :: (j, w) :: r else if k = j then (k, v) :: r else (j, w) :: tset r k v

/-- Remove entry `k`. -/
def tdel {α : Type} (t : Tbl α) (k : Nat) : Tbl α := t.filter (fun p => p.1 ≠ k)

/-- Change entry `k`, which stands at `d` when nothing is listed. -/
def tmod {α : Type} (t : Tbl α) (k : Nat) (d : α) (f : α → α) : Tbl α := tset t k (f (tget t k d))

/-- Change every listed entry. -/
def tmap {α β : Type} (t : Tbl α) (f : Nat → α → β) : Tbl β := t.map (fun p => (p.1, f p.1 p.2))

/-- Keys strictly rising from a lower bound. -/
def tsorted {α : Type} : Tbl α → Bool
  | [] => true
  | [_] => true
  | a :: b :: r => decide (a.1 < b.1) && tsorted (b :: r)

/-- The smallest natural number, up to `n`, that is no key of the table: the lowest free entry. -/
def tfree {α : Type} (t : Tbl α) : Nat → Nat → Nat
  | 0, k => k
  | n + 1, k => match tfind t k with | none => k | some _ => tfree t n (k + 1)

end Sys2Proof
end

