-- ==== Sys2Proof/Machine/Mem.lean ====
section
/-! DEFINITION. Byte memories in one canonical form: addresses strictly rising, no entry equal to 0, the value of an
unlisted byte (log 9 for the mailbox buffers, 13 R378 for DRAM). -/

namespace Sys2Proof

/-- A byte memory. -/
abbrev Memory := List Host.Cell

/-- What an unlisted address reads as (13 R378; log 9). -/
def Memory.unlisted : Byte := 0#8

/-- The byte at an address. -/
def memByte (m : Memory) (a : Nat) : Byte := tget m a Memory.unlisted

/-- Every listed address is above `lo`, the addresses rise and no entry is 0. -/
def memWfFrom : Option Nat → Memory → Bool
  | _, [] => true
  | lo, (a, b) :: r => (match lo with | none => true | some l => decide (l < a)) && decide (b ≠ Memory.unlisted)
      && memWfFrom (some a) r

/-- The canonical form. -/
def Memory.wf (m : Memory) : Bool := memWfFrom none m

/-- Write one byte; writing the unlisted value removes the entry. -/
def memSet : Memory → Nat → Byte → Memory
  | [], a, b => if b = Memory.unlisted then [] else [(a, b)]
  | (k, c) :: r, a, b =>
    if a < k then (if b = Memory.unlisted then (k, c) :: r else (a, b) :: (k, c) :: r)
    else if a = k then (if b = Memory.unlisted then r else (a, b) :: r)
    else (k, c) :: memSet r a b

/-- Write bytes from an address upward. -/
def memWrite (m : Memory) (a : Nat) : List Byte → Memory
  | [] => m
  | b :: r => memWrite (memSet m a b) (a + 1) r

/-- Read `n` bytes from an address. -/
def memRead (m : Memory) (a : Nat) : Nat → List Byte
  | 0 => []
  | n + 1 => memByte m a :: memRead m (a + 1) n

end Sys2Proof
end

