-- ==== Sys2Proof/Machine/Bits.lean ====
section
/-! DEFINITION. Byte-order, field, saturation and checksum helpers. -/

namespace Sys2Proof

/-- Little-endian value of a byte list (00 R4). -/
def leVal : List Byte → Nat
  | [] => 0
  | b :: r => b.toNat + 256 * leVal r

/-- `n` little-endian bytes of a value (00 R4). -/
def leBytes : Nat → Nat → List Byte
  | 0, _ => []
  | n + 1, v => BitVec.ofNat 8 v :: leBytes n (v / 256)

/-- Big-endian value of a byte list (the seal's r and s, 15 R425). -/
def beVal (l : List Byte) : Nat := leVal l.reverse

/-- `n` bytes of a payload at an offset. -/
def sliceB (l : List Byte) (off n : Nat) : List Byte := (l.drop off).take n

/-- Little-endian field of `n` bytes at an offset; bytes past the end count as 0. -/
def fieldLe (l : List Byte) (off n : Nat) : Nat := leVal (sliceB l off n)

/-- One byte of a list, 0 past its end. -/
def byteAt (l : List Byte) (i : Nat) : Nat := (l.getD i 0#8).toNat

/-- Bit `i` of a number. -/
def bitN (v i : Nat) : Bool := (v / 2 ^ i) % 2 == 1

/-- Bits [hi:lo] of a number. -/
def bitsN (v hi lo : Nat) : Nat := (v / 2 ^ lo) % 2 ^ (hi + 1 - lo)

/-- 1 for true. -/
def b2n (b : Bool) : Nat := if b then 1 else 0

/-- Zero bytes. -/
def zeros (n : Nat) : List Byte := List.replicate n 0#8

/-- `l` cut or padded with zero bytes to `n` bytes. -/
def padTo (n : Nat) (l : List Byte) : List Byte := l.take n ++ zeros (n - l.length)

/-- Fields of a register as (place of bit 0, value). -/
def fields (l : List (Nat × Nat)) : Nat := l.foldl (fun a p => a + p.2 * 2 ^ p.1) 0

/-- Saturating increment of a counter of width `w` (for example TQ_STATUS.REJCNT, 03 R68). -/
def satInc {w : Nat} (c : BitVec w) : BitVec w := if c = BitVec.allOnes w then c else c + 1#w

/-- Saturating addition to a counter of width `w`. -/
def satAdd {w : Nat} (c : BitVec w) (n : Nat) : BitVec w :=
  if c.toNat + n < 2 ^ w then BitVec.ofNat w (c.toNat + n) else BitVec.allOnes w

/-- Signed value of a 32-bit field. -/
def sx32 (v : Nat) : Int := (BitVec.ofNat 32 v).toInt

/-- Signed value of a byte. -/
def sx8 (v : Nat) : Int := (BitVec.ofNat 8 v).toInt

/-- Saturation to signed 32 bits (12 R362). -/
def sat32 (x : Int) : Int := if x < -2147483648 then -2147483648 else if x > 2147483647 then 2147483647 else x

/-- Saturation to signed 64 bits (12 R362). -/
def sat64 (x : Int) : Int :=
  if x < -9223372036854775808 then -9223372036854775808
  else if x > 9223372036854775807 then 9223372036854775807 else x

/-- A value held between two bounds. -/
def clampI (x lo hi : Int) : Int := if x < lo then lo else if x > hi then hi else x

/-- The low 32 bits of a signed value, as a register shows it. -/
def word32 (x : Int) : BitVec 32 := BitVec.ofInt 32 x

/-- One CRC step over one bit, most significant bit first. -/
def crcBit {w : Nat} (poly c : BitVec w) (b : Bool) : BitVec w :=
  if c.msb != b then (c <<< 1) ^^^ poly else c <<< 1

/-- One CRC step over one byte, most significant bit first, no reflection. -/
def crcByte {w : Nat} (poly : BitVec w) (c : BitVec w) (b : Byte) : BitVec w :=
  [7, 6, 5, 4, 3, 2, 1, 0].foldl (fun c i => crcBit poly c (b.getLsbD i)) c

/-- CRC-16: polynomial 0x1021, initial 0xFFFF, no reflection, no final XOR (03 R78). -/
def crc16 (l : List Byte) : BitVec 16 := l.foldl (crcByte 0x1021#16) 0xFFFF#16

/-- CRC-64 of a flit: polynomial 0x42F0_E1EB_A9EA_3693, initial all ones, final XOR all ones (10 R279). -/
def crc64 (l : List Byte) : BitVec 64 := ~~~(l.foldl (crcByte 0x42F0E1EBA9EA3693#64) (BitVec.allOnes 64))

/-- CRC-32C over one byte, reflected. PRESUMED (log 12): the Castagnoli polynomial with its usual reflection. -/
def crc32cByte (c : BitVec 32) (b : Byte) : BitVec 32 :=
  [0, 1, 2, 3, 4, 5, 6, 7].foldl
    (fun c _ => if c.getLsbD 0 then (c >>> 1) ^^^ 0x82F63B78#32 else c >>> 1) (c ^^^ b.zeroExtend 32)

/-- CRC-32C (09 R242, 11 R318). PRESUMED (log 12): initial and final XOR all ones. -/
def crc32c (l : List Byte) : BitVec 32 := ~~~(l.foldl crc32cByte (BitVec.allOnes 32))

/-- Integer square root by bisection on `n` bits, truncated (12 R361). -/
def isqrtAux : Nat → Nat → Nat → Nat
  | 0, _, acc => acc
  | n + 1, v, acc => let t := acc + 2 ^ n; isqrtAux n v (if t * t ≤ v then t else acc)

/-- Truncated square root of a number below 2^100. -/
def isqrt (v : Nat) : Nat := isqrtAux 50 v 0

/-- The number of set bits among the lowest `n` of `v`. -/
def popN (n v : Nat) : Nat := (List.range n).foldl (fun a i => a + b2n (bitN v i)) 0

/-- The elements of a list that are not yet in it, kept once. -/
def addOnce (l : List Nat) (x : Nat) : List Nat := if l.contains x then l else l ++ [x]

end Sys2Proof
end

