-- ==== Sys2Proof/Machine/Param.lean ====
section
/-! DEFINITION. The parameter catalogue: every parameter ID of the spec with its range, default, class and the reset
it waits for (00 R7, 06 R170–R173 and the rules R173 lists). -/

namespace Sys2Proof

/-- When a changed live value comes into force (06 R480): at once, at the next boot, or at power-on only. -/
inductive Effect where
  | live | boot | powerOn
  deriving DecidableEq, Repr

/-- One row of a parameter table. Values are the raw unsigned field as SET_PARAM carries it. -/
structure PInfo where
  /-- settings class: 0 V, 1 K, 2 P, 3 F, 4 A (06 R170) -/
  cls : Nat
  dflt : Nat
  ok : Nat → Bool
  eff : Effect := .live
  readOnly : Bool := false

/-- A value range, both ends included. -/
def inR (lo hi v : Nat) : Bool := decide (lo ≤ v) && decide (v ≤ hi)

/-- A power of two between two bounds. -/
def isPow2 (v : Nat) : Bool := (List.range 33).any (fun i => v == 2 ^ i)

/-- A P-class parameter with a plain range. -/
def pRange (lo hi d : Nat) (e : Effect := .live) : PInfo := { cls := 2, dflt := d, ok := inR lo hi, eff := e }

/-- Parameter ID from block, entry and index (00 R7). -/
def pid (blk inst idx : Nat) : Nat := blk * 2 ^ 24 + inst * 2 ^ 12 + idx

/-- A whole number as Q16.16 (12 R362). -/
def q16 (n : Nat) : Nat := n * 65536

/-- A whole number of thousandths as Q2.30, rounded to nearest, two's complement for negative ones. DEDUCED (log 25):
the spec gives the decimal defaults of R358 and two rounded examples. -/
def q30m (m : Int) : Nat := (BitVec.ofInt 32 ((m * 1073741824 * 2 + 1000) / 2000)).toNat

/-- Default row of a calender slot (12 R358). -/
structure LoopDflt where
  input : Nat
  act : Nat
  dir : Nat
  period : Nat
  target : Nat
  ymin : Nat
  ymax : Nat
  ystart : Nat
  kp : Int
  ki : Int
  vmax : Nat
  amax : Nat
  enable : Nat

/-- The table of R358; Kp and Ki in thousandths. -/
def loopDflt (n : Nat) : LoopDflt :=
  if n = 0 then ⟨0x0001, 0x0001, 0, 1000, q16 165, q16 1, q16 128, q16 32, 400, 50, q16 4, q16 1, 1⟩
  else if n ≤ 3 then
    ⟨0x0003 + (n - 1) * 256, 0x0002 + (n - 1) * 256, 1, 10000, q16 80, 0, q16 7, 0, 250, 20, q16 1, 16384, 1⟩
  else if n = 4 then ⟨0xFF06, 0x0003, 0, 50000, q16 12, q16 3, q16 75, q16 10, 1000, 100, q16 1, 16384, 1⟩
  else if n = 5 then ⟨0x000B, 0x0004, 0, 10000, q16 250, q16 10, q16 100, q16 100, 200, 20, q16 50, q16 10, 1⟩
  else ⟨0, 0, 1, 10000, 0, 0, q16 8, q16 1, 20, 2, q16 1000, q16 100, 0⟩

/-- A measurement source and its entry exist (12 R350). -/
def inputOk (v : Nat) : Bool :=
  let src := v % 256
  let i := v / 256
  decide (v < 65536) &&
  match src with
  | 0x00 | 0x01 | 0x05 | 0x0A | 0x0B => i == 0
  | 0x02 | 0x03 | 0x04 => decide (i < 3)
  | 0x06 | 0x07 => decide (i < 16) || i == 0xFF
  | 0x08 | 0x09 => decide (i < 64)
  | _ => false

/-- An actuator kind and its entry exist (12 R353). -/
def actOk (v : Nat) : Bool :=
  let k := v % 256
  let i := v / 256
  decide (v < 65536) &&
  match k with
  | 0x00 | 0x01 | 0x03 | 0x04 => i == 0
  | 0x02 => decide (i < 3)
  | 0x05 => decide (i < 64)
  | _ => false

/-- A Q16.16 value that is not negative. -/
def qNonNeg (v : Nat) : Bool := decide (v < 2 ^ 31)

/-- Parameters of one calender slot (06 R173, 12 R370). -/
def loopInfo (n idx : Nat) : Option PInfo :=
  let d := loopDflt n
  let full : Nat → Bool := fun v => decide (v < 2 ^ 32)
  let p (dv : Nat) (ok : Nat → Bool) : Option PInfo := some { cls := 2, dflt := dv, ok := ok }
  match idx with
  | 0x001 => p d.enable (inR 0 1)
  | 0x002 => p d.period (inR 1 65535)
  | 0x003 => p d.target full
  | 0x004 => p d.input inputOk
  | 0x005 => p d.act actOk
  | 0x006 => p d.dir (inR 0 1)
  | 0x007 => p 0x7FFFFFFF (fun v => qNonNeg v && decide (v ≠ 0))
  | 0x008 => p d.ymin full
  | 0x009 => p d.ymax full
  | 0x00A => p 8 (inR 1 64)
  | 0x00B => p d.ystart full
  | 0x010 => p d.vmax qNonNeg
  | 0x011 => p d.amax qNonNeg
  | 0x012 => p d.amax qNonNeg
  | 0x013 => p 1 (inR 0 2)
  | 0x020 => p (q30m (d.kp + d.ki)) full
  | 0x021 => p (q30m (-d.kp)) full
  | 0x022 | 0x023 | 0x025 | 0x026 => p 0 full
  | 0x024 => p (q30m (-1000)) full
  | 0x030 => some { cls := 0, dflt := 0, ok := fun v => decide (v < 65536) }
  | _ => none

/-- Default latency targets of the DRAM ports, in ns (13 R388). -/
def portTarget (p : Nat) : Nat :=
  [400, 600, 500, 400, 800, 300, 250, 600, 100000, 20000, 1000, 10000].getD p 1000

/-- Parameters of the zns block (05 R152, R154, R158; 06 R173). -/
def znsInfo (i x : Nat) : Option PInfo :=
  if x = 0x020 then (if i = 0 then some (pRange 0 16777216 4194304 .boot) else none)
  else if x = 0x100 then (if i < 16 then some (pRange 0 7 (if i = 0 then 7 else 0)) else none)
  else if x = 0x101 then (if i < 16 then some (pRange 0 1 0) else none)
  else if 0x200 ≤ x ∧ x ≤ 0x209 then
    if i < 64 then
      match x with
      | 0x200 => some (pRange 0 1 (if i = 0 then 1 else 0))
      | 0x201 => some (pRange 1 65535 100)
      | 0x202 => some (pRange 0 1000000 0)
      | 0x203 => some (pRange 0 2 1)
      | 0x204 => some (pRange 0 15 0)
      | 0x205 => some (pRange 0 65535 1)
      | 0x206 => some { cls := 2, dflt := 0xFF, ok := fun v => inR 8 31 v || v == 0xFF }
      | 0x207 => some (pRange 0 255 0)
      | 0x208 => some (pRange 0 256 (if i = 0 then 256 else 0))
      | _ => some (pRange 0 1024 0)
    else none
  else if 0x401 ≤ x ∧ x ≤ 0x43F ∧ i < 1024 then
    some { cls := 1, dflt := 0xFF, ok := fun v => inR 0 15 v || v == 0xFF }
  else none

/-- The catalogue row of a parameter ID, or none for an unknown ID (06 R172, R173). -/
def paramInfo (id : Nat) : Option PInfo :=
  let b := id / 2 ^ 24
  let i := (id / 2 ^ 12) % 4096
  let x := id % 4096
  let one (y : Nat) (p : PInfo) (k : Option PInfo) : Option PInfo := if x = y ∧ i = 0 then some p else k
  match b with
  | 0x01 => one 1 { cls := 2, dflt := 0xFF, ok := fun v => inR 0 3 v || v == 0xFF } (one 2 (pRange 0 7 0) none)
  | 0x02 =>
    one 1 (pRange 0 2 0 .boot) <|
    if i < 8 then
      match x with
      | 0x010 => some (pRange 0 1016 127 .boot)
      | 0x011 => some { cls := 2, dflt := 16, ok := fun v => inR 1 256 v && isPow2 v, eff := .boot }
      | 0x012 => some { cls := 2, dflt := 16, ok := fun v => inR 1 4096 v && isPow2 v, eff := .boot }
      | _ => none
    else none
  | 0x03 => if x = 1 ∧ i < 1024 then some (pRange 0 65536 64) else none
  | 0x04 =>
    if x = 1 ∧ i < 1024 then some { cls := 1, dflt := 0, ok := inR 0 63 }
    else one 2 (pRange 10 60000 1000) (one 3 (pRange 10 60000 1000) none)
  | 0x05 => znsInfo i x
  | 0x06 =>
    one 0x001 (pRange 50 10000 300) <| one 0x002 (pRange 0 2 2) <| one 0x010 (pRange 1024 262144 32768 .boot) <|
    one 0x011 (pRange 1 50 8) <| one 0x012 (pRange 1 25 2) <| one 0x013 (pRange 10 3600 60) <|
    one 0x014 (pRange 1 15 7) <| one 0x015 (pRange 2 4 3) <| one 0x016 (pRange 100 1000 1000) none
  | 0x07 =>
    if x = 4 ∧ i < 96 then some (pRange 0 1 1 .boot)
    else one 1 (pRange 1 20 2) <| one 2 (pRange 100 10000 1000) <| one 3 (pRange 0 600000 10000) none
  | 0x08 =>
    one 1 (pRange 1 40 20) <| one 2 (pRange 5 100 60) <| one 3 (pRange 1 31 14) <| one 4 (pRange 0 31 3) <|
    one 5 (pRange 0 7 1) none
  | 0x09 =>
    if x = 1 ∧ i < 256 then some { cls := 1, dflt := 0xFFFF, ok := fun v => inR 0 1023 v || v == 0xFFFF }
    else one 2 (pRange 1 32 24) none
  | 0x0A =>
    if 4 ≤ i ∧ i ≤ 7 ∧ x = 1 then
      some { cls := 2, dflt := [4, 64, 256, 2048].getD (i - 4) 0,
             ok := fun v => v == 0 || (inR 4 2048 v && isPow2 v), eff := .boot }
    else if 4 ≤ i ∧ i ≤ 7 ∧ x = 2 then some (pRange 0 2097152 ([262144, 16384, 4096, 256].getD (i - 4) 0) .boot)
    else one 3 (pRange 0 4096 1024 .boot) none
  | 0x0B =>
    one 0x100 (pRange 1 65535 256) <| one 0x101 (pRange 0 524288 131072) <| one 0x102 (pRange 40 165 80) <|
    one 0x103 (pRange 80 110 100) <| if i < 32 then loopInfo i x else none
  | 0x0C =>
    if x = 0x010 ∧ i < 8 then
      some { cls := 2, dflt := 0xFF, ok := fun v => inR 0 3 v || v == 0xFF, eff := .powerOn }
    else if x = 0x020 ∧ i < 12 then some (pRange 50 1000000 (portTarget i))
    else
      one 1 (pRange 1 168 24) <| one 2 (pRange 1 65535 64) <| one 3 (pRange 1 255 8) <| one 4 (pRange 16 1024 128) <|
      one 5 (pRange 500 16000 4000) <| one 6 (pRange 256 4096 1024) none
  | 0x0D => one 1 { cls := 2, dflt := 262144, ok := fun v => inR 64 16777216 v && isPow2 v, eff := .boot } none
  | 0x0E => one 1 (pRange 0 2 2) (one 2 (pRange 10 3600 120) none)
  | 0x0F =>
    if i < 16 ∧ x = 1 then some (pRange 1 1000 10) else if i < 16 ∧ x = 2 then some (pRange 1 1024 32) else none
  | 0x10 =>
    if x = 0x013 ∧ i < 8 then some { cls := 2, dflt := 0xFF, ok := fun v => inR 0 127 v || v == 0xFF }
    else if x = 0x020 ∧ i < 2 then
      some { cls := 2, dflt := if i = 0 then 0x40 else 0x41, ok := fun v => inR 0 127 v || v == 0xFF, eff := .boot }
    else
      one 1 (pRange 0 1 0) <| one 2 (pRange 0 1000 0) <| one 3 (pRange 40 165 165) <| one 0x010 (pRange 1 3600 60) <|
      one 0x011 (pRange 50 110 85) <| one 0x012 (pRange 1 20 5) <| one 0x014 (pRange 10 10000 50) none
  | 0x11 =>
    one 1 { cls := 0, dflt := 0, ok := fun _ => false, readOnly := true } <|
    one 2 { cls := 0, dflt := 100, ok := fun _ => false, readOnly := true } <|
    one 3 { cls := 0, dflt := 0, ok := fun _ => false, readOnly := true } none
  | _ => none

/-- The default of a parameter, 0 for an unknown ID. -/
def paramDflt (id : Nat) : Nat := ((paramInfo id).map PInfo.dflt).getD 0

/-- The class of a parameter (06 R170). -/
def paramCls (id : Nat) : Nat := ((paramInfo id).map PInfo.cls).getD 0

/-- The effect point of a parameter (06 R480). -/
def paramEff (id : Nat) : Effect := ((paramInfo id).map PInfo.eff).getD .live

/-- The live value of a parameter in a value table. -/
def pval (t : Tbl Nat) (id : Nat) : Nat := tget t id (paramDflt id)

/-- A value as a signed Q16.16 or Q2.30 number. -/
def pvalS (t : Tbl Nat) (id : Nat) : Int := sx32 (pval t id)

/-! IDs by name. -/
def pProfileLock : Nat := pid 1 0 1
def pMgmtPf : Nat := pid 1 0 2
def pLinkGroup : Nat := pid 2 0 1
def pTotalVfs (p : Nat) : Nat := pid 2 p 0x010
def pVfQueues (p : Nat) : Nat := pid 2 p 0x011
def pPfQueues (p : Nat) : Nat := pid 2 p 0x012
def pQuota (g : Nat) : Nat := pid 3 g 1
def pTclass (g : Nat) : Nat := pid 4 g 1
def pRelayTimeout : Nat := pid 4 0 2
def pQuiesceWait : Nat := pid 4 0 3
def pSplitCap : Nat := pid 5 0 0x020
def pPgDeckles (g : Nat) : Nat := pid 5 g 0x100
def pPgExcl (g : Nat) : Nat := pid 5 g 0x101
def pCls (c f : Nat) : Nat := pid 5 c (0x200 + f)
def pPlh (g h : Nat) : Nat := pid 5 g (0x400 + h)
def pWlSpread : Nat := pid 6 0 1
def pMedPfail : Nat := pid 6 0 2
def pStagingMax : Nat := pid 6 0 0x010
def pGcStart : Nat := pid 6 0 0x011
def pGcUrgent : Nat := pid 6 0 0x012
def pRetryMax : Nat := pid 6 0 0x014
def pRelocRung : Nat := pid 6 0 0x015
def pLinkEnable (k : Nat) : Nat := pid 7 k 4
def pLlrStrong : Nat := pid 8 0 3
def pLlrWeak : Nat := pid 8 0 4
def pPageOwner (p : Nat) : Nat := pid 9 p 1
def pQuorum : Nat := pid 9 0 2
def pPoolSize (n : Nat) : Nat := pid 10 n 1
def pPoolCount (n : Nat) : Nat := pid 10 n 2
def pReadReserve : Nat := pid 10 0 3
def pLoop (n f : Nat) : Nat := pid 11 n f
def pRbMax : Nat := pid 11 0 0x100
def pFixedP : Nat := pid 11 0 0x101
def pPs1W : Nat := pid 11 0 0x102
def pTempHard : Nat := pid 11 0 0x103
def pCeThreshold : Nat := pid 12 0 2
def pCaparLimit : Nat := pid 12 0 3
def pRhThreshold : Nat := pid 12 0 6
def pSpare (c : Nat) : Nat := pid 12 c 0x010
def pPortTarget (p : Nat) : Nat := pid 12 p 0x020
def pStgWindow : Nat := pid 13 0 1
def pFstPfail : Nat := pid 14 0 1
def pLedRate (f : Nat) : Nat := pid 15 f 1
def pLedBurst (f : Nat) : Nat := pid 15 f 2
def pPlp : Nat := pid 16 0 1
def pHoldup : Nat := pid 16 0 2
def pCapW : Nat := pid 16 0 3
def pSteepPeriod : Nat := pid 16 0 0x010
def pSteepHub : Nat := pid 16 0 0x011
def pSteepRail : Nat := pid 16 0 0x012
def pPmbus (i : Nat) : Nat := pid 16 i 0x013
def pAvs (r : Nat) : Nat := pid 16 r 0x020

end Sys2Proof
end

