-- ==== Sys2Proof/Machine/State.lean ====
section
/-! DEFINITION. The state of the block as plain data: everything the spec gives it (INVENTORY "State"), the queue of
waiting commands, and the model's own frame. -/

namespace Sys2Proof.Machine

/-- Why a step can stop with a fault. No meaning of this model raises one: the block answers wrong inputs with
statuses, sticky bits and counters (INVENTORY "Faults"). Safe: it is never raised. -/
inductive Fault where
  /-- Raised by nobody; kept because the host's core asks for the type. Safe. -/
  | unused
  deriving DecidableEq, Repr

/-- Why a step can refuse a command. -/
inductive Refusal where
  /-- Raised by an arm of Dispatch whose command has no meaning yet. Safe: the run stops. -/
  | notModelled (mnemonic : String)
  deriving DecidableEq, Repr

/-! ### What the block sends (log 8) -/

/-- One thing the block sends out of itself; the model's own record (log 8). -/
inductive Output where
  /-- a posted write under a function's routing ID, with its Relaxed Ordering attribute; ID-Based Ordering and No Snoop are
  never set (02 R34) -/
  | hostWrite (gfn addr : Nat) (bytes : List Byte) (relaxed : Bool)
  /-- a DMA read request (02 R35) -/
  | dmaRead (gfn addr len : Nat)
  /-- an MSI-X message (02 R51) -/
  | msix (gfn vec : Nat) (addr : BitVec 64) (data : BitVec 32)
  /-- an ordered set on media link k, or a message whose last flit has gone out (10); kind names it, fields as the message lays
  them out -/
  | link (k kind : Nat) (fields : List Nat)
  /-- the 128 bytes of a flit on media link k, and the LFSR as its first data block begins (10 R273, R278) -/
  | flit (k : Nat) (bytes : List Byte) (lfsr : BitVec 23)
  /-- a private transfer on a hub's sideband bus: bus, address, first index, the byte written, or none for a read of n bytes
  (10 R309, R314, R315) -/
  | sideband (bus addr index : Nat) (write : Option Nat) (n : Nat)
  /-- SETDASA on a sideband bus: static and dynamic address (10 R314) -/
  | setdasa (bus addr dyn : Nat)
  /-- one packet of an MCTP message, at most 64 bytes (06 R191, R192) -/
  | mctp (bytes : List Byte)
  /-- a DOE reply of a PF (02 R54, R55); error is the DOE Error bit -/
  | doe (pf : Nat) (error : Bool) (kind : Nat) (bytes : List Byte)
  /-- an AER uncorrectable error report on a PF (02 R57) -/
  | aer (pf : Nat)
  /-- a Link Bandwidth Notification of a link group (02 R58) -/
  | bandwidth (port : Nat)
  /-- a PMBus or AVS transaction (17 R463, R465) -/
  | pmbus (addr cmd val : Nat)
  deriving DecidableEq, Repr

/-! ### Host-facing state (02, 03, 06, 07) -/

/-- One MSI-X vector (02 R50–R53). `gap`: the class interval since its last message has not ended (R52; 05 R162); `delayed`: a message waits for its end. -/
structure Vec where
  addr : BitVec 64 := 0
  data : BitVec 32 := 0
  mask : Bool := true
  pba : Bool := false
  gap : Bool := false
  delayed : Bool := false
  deriving DecidableEq, Repr

/-- VF states of 07 R194; RESETTING is `flr` beside the state it interrupted. -/
inductive VfState where
  | absent | bare | active | quiesced
  deriving DecidableEq, Repr

/-- Who sent a mailbox request: a function, or the management controller over MCTP (06 R163, R192). -/
abbrev Src := Option Nat

/-- A mailbox request as captured when it was submitted (06 R163). -/
structure Req where
  typ : Nat
  seq : Nat
  len : Nat
  payload : List Byte
  /-- header bytes 8–15 as written (06 R164, R169) -/
  rest : List Byte := List.replicate 8 0
  deriving DecidableEq, Repr

/-- What a conversation whose reply comes later waits for. -/
inductive Wait where
  | queueReset (gfn qid : Nat)
  /-- a QUEUE_RESET that found a reset running: its count is 0 (08 R232) -/
  | queueResetMerged (gfn qid : Nat)
  | deleteQueue (gfn qid : Nat)
  | fnAbort (gfn : Nat)
  | flrEnd (gfn : Nat)
  | quiesce (gfn : Nat)
  | nsDelete (nsid : Nat)
  | nsFormat (nsid tagMode : Nat)
  | nsDetach (nsid gfn : Nat)
  | fwActivate (slot : Nat)
  | profileSelect (prof : Nat)
  | stagingDrain (values : List (Nat × Nat))
  | loopBoundary (slot : Nat)
  | storeErase (what : Nat)
  deriving DecidableEq, Repr

/-- One entry of the asynchronous event log (06 R186). -/
structure AsyncEntry where
  code : Nat
  count : BitVec 16
  nsid : Nat
  arg : Nat
  st : Nat
  time : Nat
  deriving DecidableEq, Repr

/-- One entry of an outcome log (06 R185). -/
structure OutEntry where
  tag : Nat
  qid : Nat
  status : Nat
  seq : Nat
  result : BitVec 64
  flags : Nat
  gfn : Nat
  /-- opcode, which the power-loss record holds beside what an entry shows (08 R233) -/
  opc : Nat := 0
  deriving DecidableEq, Repr

/-- One relay inbox entry of a PF (06 R169, 07 R202). -/
structure Relay where
  rid : Nat
  gfn : Nat
  fetched : Bool
  req : Req
  deriving DecidableEq, Repr

/-- Dirty-page logging of a VF (07 R214–R217). `cache`: bits of the active bitmap not yet written. -/
structure Dirty where
  base : Nat
  len : Nat
  gran : Nat
  bm0 : Nat
  bm1 : Nat
  active : Nat := 0
  cache : List Nat := []
  /-- a bitmap access failed: logging has stopped, and the next HARVEST or STOP says so (07 R217) -/
  failed : Bool := false
  deriving DecidableEq, Repr

/-- One SPDM session of a PF (02 R55). -/
structure Session where
  id : Nat
  established : Bool := false
  /-- key updates of the session (02 R55) -/
  keyGen : Nat := 0
  /-- the shared secret of the ECDHE exchange on P-384 (02 R55; log 43) -/
  secret : List Byte := []
  deriving DecidableEq, Repr

/-- One PCIe function with everything its window shows (02 R40–R53, 06, 07). -/
structure Fn where
  vf : VfState := .absent
  flr : Bool := false
  /-- the FLR comes with a PF FLR or a VF Enable change, and the VF then leaves (07 R201) -/
  leaving : Bool := false
  ctrl : BitVec 3 := 0
  abBusy : Bool := false
  abDone : Bool := false
  abOrigin : BitVec 2 := 0
  abTags : BitVec 16 := 0
  /-- abort entries written by the running abort -/
  abCount : Nat := 0
  mbBusy : Bool := false
  mbDone : Bool := false
  mbRelayed : Bool := false
  mbSeq : BitVec 16 := 0
  reqBuf : List Host.Cell := []
  respBuf : List Host.Cell := []
  /-- the request buffer was written while BUSY was 1 (02 R46) -/
  torn : Bool := false
  req : Option Req := none
  wait : Option Wait := none
  err : BitVec 10 := 0
  errOff : BitVec 24 := 0
  errBar : BitVec 3 := 0
  vecs : Tbl Vec := []
  fmask : Bool := false
  /-- MSI-X Enable of Message Control, 0 at reset (02 R51) -/
  msixEn : Bool := false
  alog : List AsyncEntry := []
  acount : BitVec 16 := 0
  log4 : List OutEntry := []
  log5 : List OutEntry := []
  log6 : List OutEntry := []
  /-- an action in progress that posts entries to a log and has not sent its event yet (08 R223): LOGIDs due -/
  evDue : List Nat := []
  inbox : List Relay := []
  rid : Nat := 1
  dirty : Option Dirty := none
  /-- completions since the doorbell cut (07 R205) -/
  quCount : Nat := 0
  /-- the VF at which the doorbell of the request in service made a cut (07 R205, R213) -/
  cutOf : Option Nat := none
  d3 : Bool := false
  l12 : Bool := false
  numVfs : Nat := 0
  vfEnable : Bool := false
  /-- bus numbers that system firmware assigned beyond the PF's own (02 R37; log 45) -/
  buses : Nat := 3
  /-- Device Control: Relaxed Ordering [4], maximum payload [7:5], maximum read request [14:12] (02 R33, R34; log 45) -/
  devCtl : BitVec 16 := 0x2810
  /-- the DOE Error bit (02 R54) -/
  doeErr : Bool := false
  spdmVersion : Bool := false
  spdmCaps : Bool := false
  spdmAlgs : Bool := false
  sessions : List Session := []
  deriving DecidableEq, Repr

/-- One link group: DL_Up, DMA fenced, trained below its width or speed (02 R58, R59). -/
structure Port where
  up : Bool := false
  fenced : Bool := false
  degraded : Bool := false
  /-- a link reset is in force for the group (08 R223) -/
  reset : Bool := false
  deriving DecidableEq, Repr

/-- One IDE stream (02 R56, R57). `rids`: its RID range association, as first and last offset from PF_RID; `addrs`: its
address association. None stands for the PF with all its VFs, and for every address (log 36). -/
structure Ide where
  port : Nat := 0
  rids : Option (Nat × Nat) := none
  addrs : Option (Nat × Nat) := none
  keyed : Bool := false
  secure : Bool := false
  failed : Bool := false
  deriving DecidableEq, Repr

/-- Host link complex: grouping in force (0 = 8×x4, 1 = 4×x8, 2 = 2×x16) and the layout in force (02 R31–R39). -/
structure Hif where
  grouping : Nat := 0
  ports : Tbl Port := []
  ide : Tbl Ide := []
  deriving DecidableEq, Repr

/-- A task queue with its ring (03 R63–R70). -/
structure Queue where
  depth : Nat
  base : Nat
  entries : Nat
  vector : Nat
  ccount : Nat
  ctime : Nat
  chken : Bool
  avail : Nat
  expseq : BitVec 16 := 0
  ovr : Bool := false
  torn : Bool := false
  chk : Bool := false
  seqf : Bool := false
  supp : Bool := false
  headf : Bool := false
  resetting : Bool := false
  deleting : Bool := false
  rejseq : BitVec 16 := 0
  rejcnt : BitVec 16 := 0
  dropcnt : BitVec 16 := 0
  head : Nat := 0
  tail : Nat := 0
  phase : Bool := true
  pend : Nat := 0
  /-- the age timer runs since this time (03 R90) -/
  timer : Option Nat := none
  /-- the age in µs that the timer had when it last stopped (07 R219) -/
  tbase : Nat := 0
  /-- 64 bytes of the task register with their presence bits (03 R71) -/
  task : List Byte := List.replicate 64 0#8
  presence : BitVec 64 := 0
  /-- the accepted command not yet in the landing FIFO (03 R84) -/
  held : Option Nat := none
  /-- entries written with 0x300 and 0x305 by the running reset or deletion (06 R177) -/
  cnt300 : Nat := 0
  cnt305 : Nat := 0
  deriving DecidableEq, Repr

/-- A location on media (09 R244): ream, quire, position, codeword; the flush area is the SLC area. -/
structure MediaLoc where
  ream : Nat
  quire : Nat := 0
  pos : Nat := 0
  cw : Nat := 0
  flushArea : Bool := false
  deriving DecidableEq, Repr

/-! ### Commands in flight (03, 04, 08) -/

/-- Where an accepted command is. -/
inductive Loc where
  | taskReg | landing | store
  deriving DecidableEq, Repr

/-- How far a command has come. -/
inductive Phase where
  /-- accepted and not dispatched (08 R221 S3) -/
  | waiting
  /-- its list fetch is outstanding (04 R109) -/
  | listFetch
  /-- validated, waiting for free in-flight entries (14 R400) -/
  | hazWait
  /-- waiting on an in-flight entry (14 R397) -/
  | blocked
  /-- may run its opcode's step -/
  | ready
  /-- a write to a zone that passed checks 9 and 10 (04 R117) -/
  | seqPassed
  /-- a block-tag list fetch is outstanding (04 R109) -/
  | tagFetch
  /-- host data is outstanding -/
  | dataFetch
  /-- it waits for the vat buffers of its write data (01 R18, R28) -/
  | vatWait
  /-- its units run: media reads, decodes, cipher lanes -/
  | units
  /-- an append whose data is ready (04 R118) -/
  | appendReady
  /-- its pieces are mirrored and made durable -/
  | mirror
  /-- a FLUSH that programs media (04 R120) -/
  | flushing
  /-- its result is fixed (08 R222) -/
  | fixed
  deriving DecidableEq, Repr

/-- Where one block of a read stands; `vat`: it waits for its vat buffer (01 R19). -/
inductive UnitSt where
  | vat | media | decode | cipher | posted | ok
  | failed (status : Nat)
  deriving DecidableEq, Repr

/-- One slice of a reconstruct (01 R25; 09 R248): its own rung, level set and sets tried, and how far it has come. -/
structure Slice where
  rung : Nat := 1
  lset : Nat := 0
  tries : Nat := 0
  /-- it waits for its vat buffer (01 R19) -/
  waits : Bool := false
  arrived : Bool := false
  done : Bool := false
  deriving DecidableEq, Repr

/-- One block of a command (04 R116, 11 R328). `staged`: served from staging; `rung` as 04 R116. -/
structure IoUnit where
  nsid : Nat
  lba : Nat
  st : UnitSt
  staged : Bool := false
  unwritten : Bool := false
  rung : Nat := 0
  rbusy : Bool := false
  susp : Bool := false
  /-- what the collector entry will record -/
  res : Nat := 0
  plain : List Byte := []
  tag : Nat := 0
  /-- a reconstruct serves it: its slices by position -/
  slices : Tbl Slice := []
  /-- a reconstruct serves it now -/
  recon : Bool := false
  /-- level set of its last read, and the sets tried at rung 2 (09 R249) -/
  lset : Nat := 0
  tries : Nat := 0
  /-- lane to which its host-side turn gave it (11 R329) -/
  lane : Option Nat := none
  deriving DecidableEq, Repr

/-- A command-store slot (03 R93, 04 R98, 08 R220). -/
structure Slot where
  cmd : List Byte
  gfn : Nat
  qid : Nat
  cls : Nat
  acceptAt : Nat
  /-- order in which its seal reached the link group (03 R93) -/
  arrived : Nat := 0
  /-- `med.retry_max` and `med.relocate_rung` as they stood at acceptance (01 R10) -/
  retryMax : Nat := 0
  relocRung : Nat := 0
  /-- its class's latency target at acceptance (01 R10) -/
  latTgt : Nat := 0
  loc : Loc := .taskReg
  phase : Phase := .waiting
  ordinal : Nat := 0
  /-- group resolved at check 3 (04 R103) -/
  grp : Nat := 0
  /-- check-3 faults known before its list arrives (04 R109, R114) -/
  bad : List Nat := []
  /-- key slot and generation fixed at check 7 (04 R104, 11 R337) -/
  kslot : Nat := 0
  kgen : Nat := 0
  keyed : Bool := false
  /-- its in-flight entries, by global index (14 R397) -/
  hz : List Nat := []
  /-- the dispatch wait for entries has been counted (14 R400) -/
  hzCounted : Bool := false
  /-- the staging wait for a window has been counted (14 R401) -/
  stgCounted : Bool := false
  /-- host buffer segments (04 R107, R108) -/
  segs : List (Nat × Nat) := []
  /-- COPY source ranges: index, LBA, count, NSID (04 R125) -/
  ranges : List (Nat × Nat × Nat × Nat) := []
  listKnown : Bool := false
  /-- the last DMA request of the command is outstanding -/
  dma : Bool := false
  units : Tbl IoUnit := []
  /-- tags given by the host, one 64-bit value per block (04 R110) -/
  tags : List Nat := []
  /-- plaintext of the blocks to write -/
  data : List (List Byte) := []
  /-- write units are being encrypted (the units are the command's own blocks) -/
  enc : Bool := false
  /-- handles of its vat buffers: 64 × block for a block's own, 64 × block + 1 + position for a slice (01 R18; 11 R343) -/
  bufs : Tbl Nat := []
  /-- staging bytes reserved and the deckle (01 R28) -/
  resv : Nat := 0
  resvDk : Nat := 0
  /-- the advance of the zone's expected pointer this command made (04 R117) -/
  adv : Nat := 0
  /-- an earlier WRITE that it was validated against did not apply all its blocks: the pointer after those that it did
  (04 R117, 08 R226) -/
  cut : Option Nat := none
  /-- pieces mirrored and pieces durable (08 R220) -/
  mirrored : BitVec 8 := 0
  /-- places of each piece's two copies, as 32·A + B; a place is DRAM channel + 8·logical rank (01 R21) -/
  chans : Tbl Nat := []
  pieces : BitVec 8 := 0
  landing : Nat := 0
  /-- zones or bundles that a ZONE_MGMT with ALL or a DEALLOCATE has still to change, once it has begun, and how many it
  has changed (04 R121, R123; 05 R142) -/
  todo : Option (List Nat) := none
  changed : Nat := 0
  /-- what stood before a FLUSH with MEDIA began: the staging order, and each deckle's journal records (04 R119, R120) -/
  flushOrder : Nat := 0
  flushJrnl : List (Nat × Nat) := []
  /-- places on media of its blocks, for a random namespace (09 R258) -/
  locs : List MediaLoc := []
  /-- stop status of the action that reached it (08 R221) -/
  stop : Option Nat := none
  status : Nat := 0
  result : BitVec 64 := 0
  /-- order in which it became ready for its entry (03 R88) -/
  readyAt : Nat := 0
  /-- the governing destination: none = ring, else a LOGID (08 R223) -/
  logTo : Option Nat := none
  /-- namespaces it still finds, because a format, deletion, detach or sanitize began after its acceptance (06 R178) -/
  early : List Nat := []
  deriving DecidableEq, Repr

/-- Front end, command store and collector (03 R84, R85, R93; 11 R347). -/
structure Sub where
  landing : Tbl (List Nat) := []
  arbLast : Nat := 7
  nextOrd : BitVec 32 := 0
  /-- commands accepted so far (03 R93) -/
  accepts : Nat := 0
  /-- posted writes of each link group that wait behind TASK bytes, oldest first (03 R84) -/
  stalled : Tbl (List Instr) := []
  /-- each class's share of dispatch used so far, and the share at which dispatch stands (05 R160) -/
  share : Tbl Nat := []
  shareNow : Nat := 0
  slots : Tbl Slot := []
  nextReady : Nat := 0
  /-- collector source queues: (slot, unit index) -/
  ccq : Tbl (List (Nat × Nat)) := []
  /-- sources of a slice that stall on its full queue, with the entries that they hold (11 R347) -/
  ccWait : Tbl (List (Nat × Nat)) := []
  ccLast : Nat := 95
  ccStall : Tbl (BitVec 32) := []
  deriving DecidableEq, Repr

/-! ### Hazard engine (14) -/

/-- An entry: range (R2) or ternary, with its side record (14 R391, R392). -/
structure HzEntry where
  lo : Nat := 0
  last : Nat := 0
  nsid : Nat := 0
  w : Bool := false
  value : Nat := 0
  care : Nat := 0
  iseq : Nat := 0
  owner : Option Nat := none
  readers : Nat := 0
  waiters : List Nat := []
  deriving DecidableEq, Repr

/-- A search key: a range key or a ternary key (14 R393, R404). -/
structure HzKey where
  lo : Nat := 0
  last : Nat := 0
  nsid : Nat := 0
  w : Bool := false
  value : Nat := 0
  dontCare : Nat := 0
  deriving DecidableEq, Repr

/-- A requester's handle (14 R395). -/
structure HzHandle where
  key : HzKey
  mask : Nat
  ceiling : Option Nat
  last : Nat
  deriving DecidableEq, Repr

/-- What a search answers (14 R395). -/
structure HzResult where
  isMatch : Bool := false
  index : Nat := 0xFFFF
  multi : Bool := false
  count : Nat := 0
  deriving DecidableEq, Repr

/-- The engine (14 R391–R405). -/
structure Hz where
  entries : Tbl HzEntry := []
  nextIseq : Nat := 0
  handles : Tbl HzHandle := []
  lastResult : HzResult := {}
  full0 : BitVec 16 := 0
  full8 : BitVec 16 := 0
  searches : BitVec 32 := 0
  wakes : BitVec 32 := 0
  kcnt : BitVec 17 := 0
  widthsSet : Bool := false
  deriving DecidableEq, Repr

/-! ### Namespaces, zones, blocks (05, 04 R104, R110) -/

/-- A namespace (05 R135, R136, R481). Tag mode: 0 OFF, 1 NONE, 2 LBA. -/
structure Ns where
  zoned : Bool
  size : Nat
  home : Nat
  tagMode : Nat
  kslot : Nat
  op : Nat := 12
  mar : Nat := 0
  mor : Nat := 0
  fns : List Nat := []
  /-- reservation charges per deckle, and how many of them are formed -/
  charged : List Nat := [0, 0, 0]
  formed : List Nat := [0, 0, 0]
  /-- 0 none, 1 delete, 2 format, 3 made inaccessible by sanitize (06 R178, R190) -/
  busy : Nat := 0
  deriving DecidableEq, Repr

/-- A zone's state codes (05 R140). -/
inductive ZState where
  | empty | implicitOpen | explicitOpen | closed | full | readOnly | offline
  deriving DecidableEq, Repr

/-- A zone (05 R137–R149). `pend`: the validated advance not yet applied (04 R117); the parity accumulator is held
exactly while the zone is active (05 R143), `accSheets` counts the data sheets of the open quire XORed into it. -/
structure Zone where
  st : ZState := .empty
  /-- write pointer, relative to ZSLBA -/
  wp : Nat := 0
  zcap : Nat := 507904
  ream : Option Nat := none
  pgroup : Nat := 0xFFFF
  lastWrite : Nat := 0
  pend : Nat := 0
  accSheets : Nat := 0
  deriving DecidableEq, Repr

/-- A ciphertext block: it opens under key slot, generation and tweak LBA (04 R104, 11 R326). Symbolic (log 13). -/
structure Sealed where
  slot : Nat
  gen : Nat
  lba : Nat
  plain : List Byte
  deriving DecidableEq, Repr

/-- A record of the key-blob region, wrapped under the device secret (11 R333, R336): what unwrapping it gives. What stands in the
store is `Wrapped.bytes`. -/
structure Wrapped where
  record : List Byte
  deriving DecidableEq, Repr

/-- One version of a block: ciphertext and tag (04 R104, R110). -/
structure BlkVer where
  data : Sealed
  tag : Nat := 0
  /-- both copies were lost or the last rung failed: it reads 0x200 (04 R133, 09 R250) -/
  lost : Bool := false
  deriving DecidableEq, Repr

/-- A staged copy pair (01 R21, 09 R259). Each copy's place is its DRAM channel + 8 × its logical rank. -/
structure Staged where
  ver : BlkVer
  chA : Nat
  chB : Nat
  dumpListed : Bool := true
  deckle : Nat := 0
  order : Nat := 0
  /-- number of the piece that made it durable (04 R130) -/
  piece : Nat := 0
  /-- a quire or flush-area program of it is under way -/
  programming : Bool := false
  /-- the place on media its program will take (09 R239, R258) -/
  loc : MediaLoc := { ream := 0 }
  /-- the place in the flush area that a program of it will take or has taken (09 R261) -/
  flush : Option MediaLoc := none
  /-- order of the oldest version staged since the block last stood on media alone, and the pieces whose staged versions it
  replaced since then (04 R119, R130) -/
  first : Nat := 0
  laidOver : List Nat := []
  deriving DecidableEq, Repr

/-- One block of a namespace. -/
structure Blk where
  staged : Option Staged := none
  media : Option (BlkVer × MediaLoc) := none
  /-- the native place of a block that stands in the flush area (09 R261) -/
  native : Option MediaLoc := none
  /-- piece of the version on media (04 R130) -/
  mpiece : Nat := 0
  deriving DecidableEq, Repr

/-- A bundle of a random namespace (05 R151): 0 unmapped, 1 whole, 2 split. -/
structure Bun where
  st : Nat := 0
  loc : MediaLoc := { ream := 0 }
  /-- its split-table index (09 R244) -/
  split : Nat := 0
  deriving DecidableEq, Repr


/-! ### Media layout (09) -/

/-- One quire of a ream: sheets reported programmed, verified (09 R251). -/
structure Quire where
  issued : BitVec 32 := 0
  programmed : BitVec 32 := 0
  verified : Bool := false
  /-- staged bytes of its parity and pad sheets (05 R143, 09 R247) -/
  extra : Nat := 0
  deriving DecidableEq, Repr

/-- A ream (09 R242, R244). Kind: 1 zone, 2 random run, 3 journal, 4 flush area, 5 dump. An entry is a block key
(`blockKey`), or none where no block was found. -/
structure Ream where
  deckle : Nat
  kind : Nat
  grp : Nat
  nsid : Nat := 0
  zslba : Nat := 0
  epoch : Nat := 0
  entries : List (Option Nat) := []
  ownerDone : Bool := false
  closed : Bool := false
  quires : Tbl Quire := []
  /-- bundles or blocks placed so far, in blocks -/
  fill : Nat := 0
  /-- namespace whose reservation it uses, 0 for an unreserved use (05 R481) -/
  resvOf : Nat := 0
  /-- 0 normal, 1 relocation target not yet switched -/
  target : Bool := false
  /-- it was formed as a garbage-collection run (09 R258) -/
  gc : Bool := false
  lastWrite : Nat := 0
  /-- a run that lost a block without a replacement: collection empties it (09 R253) -/
  evac : Bool := false
  deriving DecidableEq, Repr

/-- States of an erase block (09 R240, R252–R254, R266). -/
inductive BlkSt where
  | free | inReam | waitErase | erasing | spare | system | retired
  deriving DecidableEq, Repr

/-- The OWNER record of an erase block's header page (09 R242). -/
structure Owner where
  ream : Nat
  pos : Nat
  kind : Nat
  grp : Nat
  nsid : Nat
  zslba : Nat
  epoch : Nat
  deriving DecidableEq, Repr

/-- An erase block's record, with the records of its header page (09 R242, R245). `stamped`: a valid STAMP, with `erases` and
`eseq`; `close`: ream, epoch and quires of a CLOSE. -/
structure MBlk where
  st : BlkSt
  erases : Nat := 0
  /-- what it is when no ream holds it: usable, spare or system (09 R240, R252) -/
  role : BlkSt := .free
  stamped : Bool := true
  /-- ERASES and ESEQ of its STAMP -/
  serases : Nat := 0
  eseq : Nat := 0
  owner : Option Owner := none
  close : Option (Nat × Nat × Nat) := none
  deriving DecidableEq, Repr

/-- The header page reads as stamped: a valid STAMP whose count is not below the block's, and the other codewords erased (09 R243,
R267). -/
def MBlk.asStamped (b : MBlk) : Bool := b.stamped && decide (b.erases ≤ b.serases) && b.owner.isNone && b.close.isNone

/-- A block's replacement under way (09 R252): its new block, the quires whose copy is not programmed yet, the quire that has to
verify on it, and the cause. -/
structure Repl where
  new : Nat
  todo : List Nat := []
  quire : Option Nat := none
  cause : Nat := 0
  deriving DecidableEq, Repr

/-- A relocation under way (09 R255). Cause: 0 refresh, 1 wear levelling. -/
structure Reloc where
  src : Nat
  tgt : Nat
  cause : Nat
  deriving DecidableEq, Repr

/-- A placement group's runs and collection (09 R258). -/
structure Grp where
  hostRun : Option Nat := none
  gcRun : Option Nat := none
  gcOn : Bool := false
  /-- the free fraction fell below `med.gc_urgent_pct` and is not back above `med.gc_start_pct`, and the bundles that
  collection has moved since then and no host write has used (09 R258) -/
  urgent : Bool := false
  moved : Nat := 0
  victim : Option Nat := none
  /-- wear moves go on until the spread is at most 80 % of `med.wl_spread` (09 R257) -/
  wlOn : Bool := false
  deriving DecidableEq, Repr

/-- A deckle's own media state (05 R481, 09 R246, R259–R266). -/
structure Deckle where
  unresv : Nat := 0
  /-- reams that its blocks can form (09 R240) -/
  capacity : Nat := 983040
  staged : Nat := 0
  jseq : Nat := 0
  /-- journal records in both buffer copies and not yet programmed (09 R246) -/
  jbuf : Nat := 0
  jprog : Nat := 0
  ckptSeq : Nat := 0
  ckpts : Nat := 0
  /-- blocks whose intent bit waits for the next batch, and blocks whose intent is programmed (09 R266) -/
  intentWait : List Nat := []
  intentSet : List Nat := []
  doneWait : List Nat := []
  reErase : List Nat := []
  dumpReady : Nat := 0
  dumpHeld : Nat := 0
  deriving DecidableEq, Repr

/-- Device-wide media state (09). -/
structure Media where
  blks : Tbl Blk := []
  buns : Tbl Bun := []
  reams : Tbl Ream := []
  mblks : Tbl MBlk := []
  grps : Tbl Grp := []
  deckles : Tbl Deckle := []
  relocs : List Reloc := []
  refresh : List Nat := []
  /-- blocks that failed the last rung, with the place where they failed: a relocation carries them as unreadable (09 R250) -/
  unread : List (Nat × MediaLoc) := []
  order : Nat := 0
  /-- host bytes staged and bytes programmed natively since the last refresh of calender inputs 0x0A and 0x0B, and the time
  of the last ream formation, erase or release (12 R350) -/
  hostBytes : Nat := 0
  progBytes : Nat := 0
  reamAt : Nat := 0
  /-- pieces made durable so far (04 R130) -/
  piece : Nat := 0
  /-- C0 and C of 09 R259, R264, in bytes -/
  cap0 : Nat := 34359738368
  cap : Nat := 34359738368
  /-- hold-up declaration in force: plp_present and holdup_ms (09 R260) -/
  plp : Bool := false
  holdup : Nat := 0
  draining : Bool := false
  /-- the lowered hold-up that a drain works to (09 R260) -/
  drainTo : Option Nat := none
  rdMerge : BitVec 32 := 0
  /-- times of the media reads and of the rung-3 decodes of the last hour (09 R268) -/
  mediaReads : List Nat := []
  softDecodes : List Nat := []
  rated : Nat := 3000
  erasesDone : Nat := 0
  /-- power-loss record: what the dump kept (08 R233) -/
  dump : Option (List OutEntry) := none
  /-- what the last power loss left to record: 1 no declaration in force, 2 the table is incomplete (08 R236, R237) -/
  loss : Nat := 0
  /-- blocks that need a replacement: 0 failed program, 1 suspect, 2 failed erase (09 R252) -/
  bad : Tbl Nat := []
  /-- replacements under way, by the old block (09 R252) -/
  repls : Tbl Repl := []
  /-- health thresholds now passed, as kind × 2^16 + threshold (09 R270) -/
  marks : List Nat := []
  /-- first format is done (09 R240; log 68) -/
  formatted : Bool := false
  deriving DecidableEq, Repr

/-! ### Media links (10) -/

/-- Whom a die operation serves. -/
inductive OpOwner where
  /-- a read unit of a command -/
  | unit (slot idx : Nat)
  /-- one slice of a reconstruct for a read unit, by its position -/
  | slice (slot idx pos : Nat)
  /-- a sheet program: ream, quire, position -/
  | sheet (ream quire pos : Nat)
  /-- the copy of a quire's sheet into the replacement of a block -/
  | copy (blk quire : Nat)
  /-- an erase of a block -/
  | erase (blk : Nat)
  /-- the die's own housekeeping: suspend, resume, status, reset, features, level sets -/
  | house
  deriving DecidableEq, Repr

/-- A die operation (10 R287). -/
structure LinkOp where
  opc : Nat
  die : Nat := 0
  mode : Nat := 0
  block : Nat := 0
  page : Nat := 0
  cwmask : Nat := 0
  lset : Nat := 0
  sstep : Nat := 0
  len : Nat := 0
  arg : Nat := 0
  value : Nat := 0
  owner : OpOwner := .house
  /-- it holds an admission token; the operation is a relocation's -/
  token : Bool := false
  reloc : Bool := false
  /-- the busy-die decision was to wait (01 R24) -/
  waits : Bool := false
  /-- it was reissued once after a length mismatch or a BUSY_SUSP (10 R306, R307) -/
  retried : Bool := false
  deriving DecidableEq, Repr

/-- An outstanding tag (10 R294, R292): `got` bytes of data received, `held` the CMPL's LEN when it came first. -/
structure Tag where
  gen : BitVec 2
  op : LinkOp
  got : Nat := 0
  /-- bytes received by DATA_RD, by their place (10 R292) -/
  data : List Byte := []
  cmplLen : Option Nat := none
  deriving DecidableEq, Repr

/-- A die as the controller sees it (10 R289–R291, R306). -/
structure Die where
  /-- DSTATE: 0 IDLE … 6 DEAD -/
  st : Nat := 0
  /-- tag slot of its running array operation -/
  op : Option Nat := none
  nsus : Nat := 0
  /-- remaining busy time of its operation as known at a time (01 R24; 10 R289, R302) -/
  remainUs : Nat := 0
  remainAt : Nat := 0
  progressUs : Nat := 0
  unknown : Bool := false
  restarted : Bool := false
  /-- times of its RESET_DIEs (10 R306) -/
  resetAt : List Nat := []
  retired : Bool := false
  /-- operations whose inconsistent CMPL ended their tag, and those refused with BUSY_SUSP: what becomes of them waits for
  STATUS or RESET_DIE (10 R306, R307) -/
  lostOps : List LinkOp := []
  busyOps : List LinkOp := []
  absent : List Nat := []
  /-- its level table: the level set that succeeded last, by block group (09 R249) -/
  levels : Tbl Nat := []
  deriving DecidableEq, Repr

/-- A message waiting for flits: VC, bytes, flits still to send, bulk data units, and its fields (10 R280, R284). -/
structure TxMsg where
  vc : Nat
  typ : Nat
  tag : Nat
  len : Nat
  units : Nat := 0
  /-- a part of it has been sent -/
  begun : Bool := false
  fields : List Nat := []
  /-- the data that follow its header -/
  data : List Byte := []
  deriving DecidableEq, Repr

/-- A replay-buffer entry: sequence number, payload, retransmissions (10 R282). -/
structure TxFlit where
  seq : BitVec 10
  payload : List Byte := []
  retx : Nat := 0
  deriving DecidableEq, Repr

/-- One media link with its hub conversation (10 R275–R316). -/
structure Link where
  st : BitVec 3 := 0
  lost : Bool := false
  xstate : BitVec 2 := 0
  retrains : BitVec 8 := 0
  session : BitVec 16 := 0
  hpark : BitVec 2 := 0
  /-- the hub's HPARK at the last ALIGN (10 R276) -/
  alignPark : BitVec 2 := 0
  /-- when the session began (10 R296) -/
  sessAt : Nat := 0
  bringfail : BitVec 2 := 0
  badflit : BitVec 16 := 0
  replays : BitVec 16 := 0
  discard : BitVec 16 := 0
  badstat : BitVec 16 := 0
  hbmiss : BitVec 16 := 0
  hubresets : BitVec 16 := 0
  idle : Bool := true
  jts1 : Nat := 0
  jts2 : Nat := 0
  eqReqs : Nat := 0
  preset : Nat := 7
  /-- presets asked of the peer, and JTS2 sent, in this TRAIN (10 R275) -/
  ownReqs : Nat := 0
  jts2Sent : Nat := 0
  gotAlign : Bool := false
  sentAck : Bool := false
  /-- the controller's own XSTATE: state lost since the last ALIGN (10 R276) -/
  stateLost : Bool := true
  peerExp : Nat := 0
  peerSession : BitVec 16 := 0
  txSeq : BitVec 10 := 0
  rxExp : BitVec 10 := 0
  nakPend : Bool := false
  replay : List TxFlit := []
  txq : List TxMsg := []
  lastNak : Option Nat := none
  /-- times of the retrains that brought no ACK progress (10 R282) -/
  stalled : List Nat := []
  /-- peer limits and credits consumed: VC0–VC3 headers, VC1 and VC2 units (10 R284) -/
  limits : List Nat := [0, 0, 0, 0, 0, 0]
  used : List Nat := [0, 0, 0, 0, 0, 0]
  /-- this side's own limits as advertised -/
  own : List Nat := [1024, 0, 256, 8, 0, 18432]
  /-- bytes of the message under way on each VC -/
  asm : Tbl (List Byte) := []
  /-- messages delivered and not yet acted on: VC and bytes -/
  rx : List (Nat × List Byte) := []
  tags : Tbl Tag := []
  gens : Tbl (BitVec 2) := []
  queues : Tbl (List LinkOp) := []
  nextChan : Nat := 0
  tokens : Nat := 0
  relocTokens : Nat := 0
  dies : Tbl Die := []
  hbseq : BitVec 16 := 0
  hbSeen : Bool := false
  hbRow : Nat := 0
  evseq : BitVec 16 := 0
  temp : Int := 0
  tempAt : Option Nat := none
  tempLeft : Bool := false
  currents : List Nat := List.replicate 8 0
  hottest : List Int := List.replicate 8 0
  rails : Nat := 0
  fwState : Nat := 0
  identOk : Bool := true
  /-- typical program, erase and array-read times of the hub's identity, in µs (10 R302) -/
  typUs : List Nat := [0, 0, 0]
  /-- data blocks sent since the last SKP or JTS2 (10 R274), and the scrambler's LFSR (10 R273) -/
  blocks : Nat := 0
  lfsr : BitVec 23 := 0x1DBFBC
  /-- request of HUB_CFG or HUB_FW outstanding: 0 none, 1 IDENTIFY, 2 SET, 3 a HUB_FW chunk -/
  reqOut : Nat := 0
  reqTries : Nat := 0
  fwNext : Nat := 0
  fwTries : Nat := 0
  /-- 0 no bring-up, else its stage: 1 link, 2 IDENTIFY, 3 HUB_FW, 4 SET, 5 UNPARK, 6 done -/
  bring : Nat := 0
  parkAsked : Nat := 0
  parkDone : Bool := false
  faultOver : Bool := false
  /-- the controller reset the hub, whose HUB_RESET event has not come yet (10 R297) -/
  ctlReset : Bool := false
  noncompliant : Bool := false
  deriving DecidableEq, Repr

/-! ### Device-wide state: modes, parameters, administration (01, 06) -/

/-- The causes of MODE (01 R13–R16). `hold`: 0 none, 1 firmware activation, 2 profile switch. -/
structure Mode where
  booting : Bool := true
  rescue : Bool := false
  dormant : Bool := false
  hold : Nat := 0
  /-- the hold's drain is over (08 R231) -/
  drained : Bool := false
  /-- a POWER_STATE request latched during a hold (01 R16) -/
  latchedPs : Option Nat := none
  /-- a controller reset runs: its tags are being written (08 R229) -/
  resetting : Bool := false
  bootAt : Nat := 0
  /-- work of a start not yet at READY: 1 PERST#, 2 power-on (09 R266; 15 R409) -/
  start : Nat := 0
  deriving DecidableEq, Repr

/-- GLB_LIMITED causes that are held (01 R17, 09 R269): decks and groups affected by SPARES, and the rest. CIPHER
follows from the fenced lanes. -/
structure Glb where
  sparesDeckles : BitVec 3 := 0
  sparesGroups : BitVec 16 := 0
  dram : Bool := false
  ledger : Bool := false
  thermal : Bool := false
  /-- CIPHER causes by deckle, kept until a PERST# or power-on restores enough lanes (11 R331) -/
  cipher : BitVec 3 := 0
  deriving DecidableEq, Repr

/-- One stored profile copy (06 R174–R176). -/
structure ProfCopy where
  valid : Bool := false
  gen : Nat := 0
  values : Tbl Nat := []
  deriving DecidableEq, Repr

/-- Parameters: live values, values in force, stored profiles (06 R170–R176, R480). -/
structure Par where
  live : Tbl Nat := []
  /-- values still in use of changed settings that name no point of effect, until the next command is accepted (01 R10) -/
  old : Tbl Nat := []
  inForce : Tbl Nat := []
  /-- key profile*2 + copy -/
  profiles : Tbl ProfCopy := []
  loaded : Nat := 0
  lock : Nat := 0xFF
  deriving DecidableEq, Repr

/-- A device-wide operation and a download conversation (06 R168, R180, R181). -/
structure Admin where
  /-- TYPE of the device-wide operation running, and the profile or slot it works on -/
  devOp : Option Nat := none
  devArg : Nat := 0
  dlSlot : Nat := 0
  dlTotal : Nat := 0
  dlNext : Nat := 0
  dlStored : Nat := 0
  dlActive : Bool := false
  /-- who sends the download conversation -/
  dlSrc : Src := none
  healthCount : Nat := 0
  /-- the GFN whose request the management core took last (06 R166) -/
  turn : Nat := 1023
  /-- the error log, oldest first, at most 1,024 entries (06 R184) -/
  errLog : List (List Byte) := []
  /-- sanitize: 0 none, 1 crypto-erase, 2 block erase; done flag of the last; progress -/
  sanitize : Nat := 0
  sanState : BitVec 16 := 0
  sanProgress : BitVec 16 := 0
  sanReams : List Nat := []
  /-- MCTP endpoint: its EID, the request in service (06 R191, R192) -/
  eid : BitVec 8 := 0
  oob : Option Req := none
  oobWait : Option Wait := none
  oobHeld : Option Req := none
  deriving DecidableEq, Repr

/-! ### Keys and lanes (11) -/

/-- A cipher lane (11 R328, R332, R339). `cache`: (slot, generation) of cached keys, newest last. -/
structure Lane where
  fenced : Bool := false
  katfail : Bool := false
  faults : BitVec 2 := 0
  badlen : BitVec 16 := 0
  units : BitVec 32 := 0
  cache : List (Nat × Nat) := []
  /-- units inside it, at most one per round core, and units queued for it, oldest first: slot and block (11 R327, R328;
  DESIGN CHOICE, log 81) -/
  inside : List (Nat × Nat) := []
  queue : List (Nat × Nat) := []
  deriving DecidableEq, Repr

/-- A key slot (11 R332–R335). -/
structure KeySlot where
  loaded : Bool := false
  gen : BitVec 32 := 0
  key : List Byte := []
  /-- its records are marked destroyed in both copies -/
  destroyed : Bool := false
  deriving DecidableEq, Repr

/-- Keys and lanes (11). -/
structure Cip where
  lanes : Tbl Lane := []
  keys : Tbl KeySlot := []
  keks : Tbl (List Byte) := []
  /-- the lane that each placement group's host-side turn took last; a group that took none starts with lane 0 (11 R329;
  DESIGN CHOICE, log 77) -/
  turns : Tbl Nat := []
  deriving DecidableEq, Repr

/-! ### Vat and LDPC (11) -/

/-- A vat buffer (11 R340, R343): its state, what landed in it, and in its side area. Owner 0x7F and not allocated at reset
(log 9). -/
structure Buf where
  alloc : Bool := false
  owner : Nat := 0x7F
  gen : BitVec 8 := 0
  data : List Byte := []
  side : List Byte := []
  deriving DecidableEq, Repr

/-- A waiting vat request (11 R345). -/
structure BufReq where
  size : Nat
  plain : Bool
  readPath : Bool
  /-- the command and the place in its `bufs` that the buffer is for (01 R18) -/
  use : Option (Nat × Nat) := none
  deriving DecidableEq, Repr

/-- The vat (11 R340–R346). Buffer key: pool × 2^22 + index. -/
structure Vat where
  bufs : Tbl Buf := []
  /-- sizes in KiB and counts of P4–P7 as built, by pool number -/
  sizes : Tbl Nat := []
  counts : Tbl Nat := []
  fifos : Tbl (List BufReq) := []
  /-- requests of commands whose requester's FIFO is full: the requester stalls with them (11 R345) -/
  stalled : Tbl (List BufReq) := []
  last : Nat := 0x69
  double : BitVec 16 := 0
  nonowner : BitVec 16 := 0
  stale : BitVec 16 := 0
  toobig : BitVec 16 := 0
  lastHandle : BitVec 32 := 0
  lastReq : BitVec 7 := 0
  lastKind : BitVec 2 := 0
  rejected : Bool := false
  /-- handle of the last buffer given to a requester -/
  granted : Tbl Nat := []
  deriving DecidableEq, Repr

/-- A codeword that waits for a decoder or is in one: a command's block, or a slice of its reconstruct (11 R321, R323). -/
structure DecJob where
  slot : Nat
  idx : Nat
  slice : Option Nat := none
  soft : Bool := false
  deriving DecidableEq, Repr

/-- The LDPC engine (11 R321–R325). -/
structure Ldp where
  hardFail : BitVec 32 := 0
  softRun : BitVec 32 := 0
  softFail : BitVec 32 := 0
  mdFail : BitVec 16 := 0
  encFence : BitVec 8 := 0
  decOff : BitVec 8 := 0
  encFenced : List Nat := []
  /-- decoders of each kind that failed the test (11 R322) -/
  hardOff : Nat := 0
  softOff : Nat := 0
  /-- codewords at the decoders, in arrival order (11 R323) -/
  jobs : List DecJob := []
  deriving DecidableEq, Repr

/-! ### Calender (12) -/

/-- A test signal at one point of a slot (12 R367); `n` samples since it began, `reg` the PRBS register. -/
structure Inject where
  point : Nat := 0
  signal : Nat := 0
  amp : Int := 0
  p1 : Nat := 0
  p2 : Nat := 0
  n : Nat := 0
  reg : Nat := 0
  deriving DecidableEq, Repr

/-- The settings of a calender slot as its last sample boundary applied them (12 R349): the class it is bound to with its
latency target and percentile (12 R359), else its own fields. -/
structure LoopCfg where
  cls : Option Nat := none
  on : Bool := false
  input : Nat := 0
  act : Nat := 0
  dir : Nat := 0
  emax : Int := 0
  ymin : Int := 0
  ymax : Int := 0
  window : Nat := 8
  period : Nat := 10000
  mode : Nat := 0
  vmax : Int := 0
  amax : Int := 0
  jmax : Int := 0
  b : List Int := [0, 0, 0, 0]
  a : List Int := [0, 0, 0]
  tgt : Int := 0
  clsTgt : Nat := 0
  pct : Nat := 1
  deriving DecidableEq, Repr

/-- One calender slot (12 R348–R369). Signals are Q16.16 numbers. `flags` holds the sticky bits at their CAL_STAT
places; `snaps` the cumulative class histograms at the ends of past samples, newest first. -/
structure Loop where
  /-- the settings in force (12 R349 step 2) -/
  cfg : LoopCfg := {}
  enabled : Bool := false
  sp : Int := 0
  v : Int := 0
  a : Int := 0
  tgt : Int := 0
  x : Int := 0
  e : Int := 0
  yr : Int := 0
  y : Int := 0
  u : Int := 0
  eh : List Int := [0, 0, 0]
  yh : List Int := [0, 0, 0]
  flags : Nat := 0
  late : BitVec 16 := 0
  skip : BitVec 16 := 0
  /-- samples still held after a QUIESCE (12 R365) -/
  holdLeft : Nat := 0
  inj : Option Inject := none
  /-- a LOOP_INJECT that waits for the boundary -/
  injPend : Option Inject := none
  injVal : Int := 0
  /-- pending `flags_clr` bits -/
  clr : Nat := 0
  /-- input code of the last sample, whose class histogram `snaps` follows -/
  inp : Nat := 0
  snaps : List (List Nat) := []
  deriving DecidableEq, Repr

/-- LOOP_CAPTURE (12 R368): selectors, trigger, samples oldest first. -/
structure Capture where
  armed : Bool := false
  trig : Bool := false
  done : Bool := false
  sel : List Nat := [0, 0, 0, 0]
  mode : Nat := 0
  pre : Nat := 0
  buf : List (List Int) := []
  deriving DecidableEq, Repr

/-- The calender (12). `acts`: actuator values by kind + 256 × entry; `inputs`: last delivered value of a source and
its time; `inStale`: sources whose last arrival carried the STALE flag (12 R351); `buckets`: reconstruct tokens in units of
1 ÷ (8 × 65,536 × 1,000); `kept`: latency target, percentile and loop of a class that a change does not move before the next
sample boundary (05 R162); `bootP`: `cal.fixed_p` at the last restart (12 R356); `halted`: PFAIL# was sampled since (12 R365);
`prog10`: bytes programmed natively in each of the last 10 ms, newest first (12 R350). -/
structure Cal where
  kept : Tbl (Nat × Nat × Nat) := []
  loops : Tbl Loop := []
  acts : Tbl Int := []
  inputs : Tbl (Int × Nat) := []
  inStale : List Nat := []
  buckets : Tbl Nat := []
  cap : Capture := {}
  bootP : Int := 131072
  halted : Bool := false
  prog10 : List Nat := []
  deriving DecidableEq, Repr

/-! ### DRAM (13) -/

/-- A request queued at a channel (13 R386, R388). -/
structure DReq where
  port : Nat
  addr : Nat
  isWrite : Bool
  bytes : List Byte := []
  at_ : Nat
  /-- it has reached urgency 3 and was counted -/
  u3 : Bool := false
  deriving DecidableEq, Repr

/-- A merge-buffer entry: line address, bytes by offset in the line, order of first write (13 R379). -/
structure Merge where
  line : Nat
  bytes : Tbl Byte
  since : Nat
  port : Nat
  deriving DecidableEq, Repr

/-- A DRAM channel (13 R371–R390). `st`: 0 absent, 1 in service, 2 fenced, 3 training. `dev`: corrected lines of each
(rank × 32 + device) in the current pass. `rows`: row-hammer tables by rank × 32 + bank, as (row, count). -/
structure Chan where
  st : Nat := 0
  speed : Nat := 0
  dev32 : Bool := false
  present : BitVec 4 := 0
  insvc : BitVec 4 := 0
  spare : Nat := 0
  spareOk : Bool := false
  migr : Bool := false
  migRank : Nat := 0
  edev : Nat := 0
  emark : Bool := false
  markRank : Nat := 0
  rtfail : BitVec 2 := 0
  ptr : BitVec 32 := 0
  poisoned : BitVec 16 := 0
  ue : BitVec 16 := 0
  capar : BitVec 16 := 0
  rhref : BitVec 16 := 0
  rfm : BitVec 16 := 0
  ce : Tbl (BitVec 32) := []
  dev : Tbl Nat := []
  /-- lines counted for a device in the current pass, as line index × 128 + rank × 32 + device (13 R380) -/
  ceSeen : List Nat := []
  /-- parity errors of each rank in the running second, with the second's start -/
  caparWin : Tbl (Nat × Nat) := []
  rankMap : Tbl Nat := []
  scrub : Nat := 0
  rows : Tbl (List (Nat × Nat)) := []
  openRow : Tbl Nat := []
  reqs : List DReq := []
  retryAt : Option Nat := none
  /-- DIMM serial number of each physical rank (13 R384) -/
  serials : List Nat := []
  deriving DecidableEq, Repr

/-- The DRAM subsystem (13). `mem`: data bytes by PA; `errs`: by line address, the symbols of a line that
differ from its codewords (13 R375), as codeword × 20 + symbol and the difference. -/
structure Drc where
  chans : Tbl Chan := []
  mem : Memory := []
  errs : Tbl (Tbl Nat) := []
  merge : Tbl Merge := []
  /-- ranks recorded as out of service: channel, physical rank, DIMM serial number (13 R384) -/
  failed : List (Nat × Nat × Nat) := []
  u3 : Tbl (BitVec 32) := []
  maxlat : Tbl (BitVec 16) := []
  fill : Bool := false
  fillPct : BitVec 7 := 0
  nextTrain : Nat := 0
  /-- fixed need of 09 R245 in bytes, set at boot -/
  need : Nat := 0
  lastRead : List Byte := []
  lastPoison : Bool := false
  deriving DecidableEq, Repr

/-! ### Firmware store, boot, ledger (15) -/

/-- The fuses and the factory area (15 R415–R417, R432; 02 R49; log 14). -/
structure Fuses where
  key0 : List Byte := (List.range 48).map (Config.factoryByte 0)
  key1 : List Byte := (List.range 48).map (Config.factoryByte 1)
  krev : BitVec 2 := 0
  arb : Nat := 0
  dbgLock : Bool := false
  /-- the factory area holds a debug authorisation (02 R49) -/
  dbgAuth : Bool := false
  serial : List Byte := (List.range 16).map (Config.factoryByte 2)
  owner : List Byte := (List.range 96).map (Config.factoryByte 3)
  rom : List Byte := Config.romCode
  cert : List Byte := Config.factoryCert
  deriving DecidableEq, Repr

/-- An image slot: 0 A, 1 B, 2 rescue (15 R414, R418). -/
structure Image where
  bytes : List Byte := []
  /-- TOTAL of the download that filled it (06 R180) -/
  total : Nat := 0
  committed : Bool := false
  /-- attempt cells since the last success cell -/
  attempts : Nat := 0
  deriving DecidableEq, Repr

/-- The firmware store and boot record (15 R406–R419, R435). -/
structure Fst where
  imgs : Tbl Image := [(2, { bytes := Config.rescueImage, committed := true })]
  pref : Nat := 0
  freezeCell : Bool := false
  fuses : Fuses := {}
  slot : Nat := 3
  fallback : Bool := false
  failA : Nat := 0
  failB : Nat := 0
  failR : Nat := 0
  halt : Bool := false
  running : List Byte := []
  wait : Nat := 15
  clk : Nat := 3
  vdd : Nat := 0
  brown : Bool := false
  /-- VDD_FST is below 1.60 V now (15 R407, R409) -/
  low : Bool := false
  vddSince : Nat := 0
  /-- the sector under erase, and what happens when it ends -/
  erasing : Option Nat := none
  susp : Bool := false
  /-- time of the last resume or start of the erase -/
  erResume : Nat := 0
  /-- the erase was resumed after a suspension -/
  resumed : Bool := false
  /-- sectors of the reads that wait (15 R408) -/
  reads : List Nat := []
  reerased : BitVec 16 := 0
  /-- flag cells in order of use: sector and STATE byte (15 R410) -/
  cells : List (Nat × Nat) := []
  flagGen : Nat := 0
  /-- sectors erased and verified since power-on (15 R411) -/
  verified : List Nat := []
  eraseQ : List Nat := []
  /-- key-blob log: 64-byte records written since the sector was erased (15 R413) -/
  blobUsed : Nat := 0
  /-- the two copies of each slot's record, by slot, and of KEK n's, by 4,096 + n (11 R333, R336) -/
  blobs : Tbl (Wrapped × Wrapped) := []
  bcOlderErased : Bool := true
  deriving DecidableEq, Repr

/-- An event staged for the ledger (15 R428, R430): code, ARG and tally of identical ones. -/
structure LedEv where
  code : Nat
  arg : List Byte
  tally : Nat := 1
  /-- its token was taken when it was staged during a freeze (15 R430) -/
  paid : Bool := false
  deriving DecidableEq, Repr

/-- The Camrek ledger (15 R420–R432). `slots`: every committed slot since the last clear as stored, newest first. -/
structure Led where
  slots : List (List Byte) := []
  /-- slots of before the last clear still in the ring count here -/
  boot : Nat := 0
  seq : Nat := 0
  any : Bool := false
  link : List Byte := []
  reps : Nat := 0
  code : Nat := 0
  arg : List Byte := []
  sealed : Bool := true
  /-- LOSTSTAGE of the next BOOT record (15 R429) -/
  lost : Bool := false
  /-- the record or repeat bit being programmed -/
  prog : Option LedEv := none
  torn : Nat := 0
  stage : List LedEv := []
  frozen : Bool := false
  fstage : List LedEv := []
  fail : Bool := false
  full : Bool := false
  tokens : Tbl Nat := []
  drops : Tbl Nat := []
  dropTotal : Nat := 0
  dropSrc : Nat := 0
  fdrops : Tbl Nat := []
  fdropTotal : Nat := 0
  dropCnt : BitVec 16 := 0
  nonce : Option (List Byte) := none
  health : Nat := 0
  bootSealed : Bool := false
  deriving DecidableEq, Repr

/-! ### Power, clocks, board (16, 17) -/

/-- Power controller, PD_AON registers and the dump (16 R436–R460, 09 R262). `phase`: 0 steady, 1 entry, 2 committed,
3 exit. `entryStep`: step of R439 reached. -/
structure Pwr where
  gated : Bool := false
  target : BitVec 3 := 0
  cur : BitVec 3 := 0
  next : Option (BitVec 3) := none
  phase : BitVec 2 := 0
  run1 : Bool := false
  /-- the dormant state of the entry or exit under way -/
  goal : BitVec 3 := 0
  entryStep : Nat := 0
  first : BitVec 4 := 0
  seen : BitVec 8 := 0
  ewin : Bool := false
  from_ : BitVec 3 := 0
  wtime : BitVec 48 := 0
  fault : Bool := false
  fstate : BitVec 3 := 0
  fcause : Bool := false
  retries : BitVec 2 := 0
  fid : BitVec 8 := 0
  ftime : BitVec 48 := 0
  /-- the exit waits 10 ms before its retry -/
  retryWait : Bool := false
  stuck : Bool := false
  period : BitVec 12 := 60
  patrols : BitVec 32 := 0
  breach : BitVec 4 := 0
  bidx : BitVec 8 := 0
  /-- time of the first oscillation of RTCX_IN (17 R471) -/
  rtc0 : Nat := 0
  alarm : BitVec 48 := 0
  armed : Bool := false
  xfenced : List Nat := []
  xover : List Nat := []
  stale : Bool := false
  xid : BitVec 8 := 0
  ovrcnt : BitVec 16 := 0
  staleOff : BitVec 24 := 0
  /-- a wake event or request held as a level (16 R440, R445) -/
  heldWake : Option Nat := none
  /-- the start that runs: kind of the BOOT record (15 R426) -/
  kind : Nat := 0
  /-- a dump runs; PFAIL# is low; the controller holds itself in reset after it -/
  dumping : Bool := false
  pfailLow : Bool := false
  afterDump : Bool := false
  /-- power-on, as opposed to PERST#, is the start to come -/
  powerOn : Bool := true
  deriving DecidableEq, Repr

/-- The board's pins and parts (17). -/
structure Board where
  pwrgd : Bool := false
  perstLow : Bool := false
  perstHeld : Bool := false
  straps : Straps := {}
  jtag : Bool := false
  faultN : Bool := false
  thermtrip : Bool := false
  pwrEn : BitVec 4 := 0
  aonUp : Bool := false
  released : Bool := false
  avsMv : Tbl Nat := []
  avsTries : Tbl Nat := []
  /-- no crystal and no square wave: RTCX_IN never oscillates (17 R471; log 78) -/
  noRtc : Bool := false
  deriving DecidableEq, Repr


/-! ### The whole block -/

/-- The state of the block (INVENTORY "State"). -/
structure State where
  /-- commands waiting, first in, first out (log 4) -/
  pending : List Instr := []
  /-- ticks of 100 ns since reset (log 1) -/
  now : Nat := 0
  /-- number of free values drawn (log 11) -/
  freeCtr : Nat := 0
  out : List Output := []
  lastRead : BitVec 64 := 0
  mode : Mode := {}
  glb : Glb := {}
  par : Par := {}
  adm : Admin := {}
  hif : Hif := {}
  fns : Tbl Fn := []
  qs : Tbl Queue := []
  sub : Sub := {}
  hz : Hz := {}
  nss : Tbl Ns := []
  zones : Tbl Zone := []
  media : Media := {}
  links : Tbl Link := []
  cip : Cip := {}
  vat : Vat := {}
  ldp : Ldp := {}
  hist : Tbl Nat := []
  cal : Cal := {}
  drc : Drc := {}
  fst : Fst := {}
  led : Led := {}
  pwr : Pwr := {}
  brd : Board := {}
  deriving DecidableEq, Repr

/-- The block right after reset (log 14): MODE is BOOT, every register at its reset value, nothing listed. -/
def State.reset : State := {}

end Sys2Proof.Machine
end

