-- ==== Sys2Proof/Machine/Ops.lean ====
section
/-! DEFINITION. The named operations over the state that every family uses: the function layout, the operating mode,
sticky errors, MSI-X, the asynchronous log, posted writes, and mailbox replies. -/

namespace Sys2Proof.Machine

/-- The table key of a queue. -/
def qkey (gfn qid : Nat) : Nat := gfn * 4096 + qid

/-- The table key of a block of a namespace. -/
def bkey (nsid lba : Nat) : Nat := nsid * 2 ^ 40 + lba

/-- The table key of a zone. -/
def zkey (nsid z : Nat) : Nat := nsid * 2 ^ 21 + z

/-- The live value of a parameter (06 R170). -/
def State.pv (s : State) (id : Nat) : Nat := pval s.par.live id

/-- The latency target of a class (05 R158, R162). -/
def State.clsTarget (s : State) (c : Nat) : Nat :=
  match tfind s.cal.kept c with | some k => k.1 | none => s.pv (pCls c 2)

/-- Settings whose description names no point from which a change counts (01 R10). -/
def nextAccept : List Nat :=
  [pGcStart, pGcUrgent, pWlSpread, pCeThreshold, pCaparLimit, pRhThreshold, pTempHard, pRbMax, pMedPfail, pFstPfail,
   pSteepRail, pSteepHub, pFixedP]

/-- Value of a setting in use by the other subsystems: a change counts from the next command accepted on (01 R10). -/
def State.pvA (s : State) (id : Nat) : Nat := (tfind s.par.old id).getD (s.pv id)

/-- From s to t settings changed: one that names no point of effect keeps the value in use (01 R10). -/
def State.keepOld (s t : State) : State :=
  { t with par := { t.par with old := nextAccept.foldl (fun o id =>
      if s.pvA id = t.pv id then tdel o id else tset o id (s.pvA id)) t.par.old } }

/-- The value in force of a parameter with a boot-time effect (06 R480). -/
def State.pf (s : State) (id : Nat) : Nat := pval s.par.inForce id

/-! ### Functions and their layout (02 R31–R39) -/

/-- Number of link groups, each with one PF (02 R31). -/
def portCount (grouping : Nat) : Nat := if grouping = 0 then 8 else if grouping = 1 then 4 else 2

/-- Number of PFs in the grouping in force. -/
def State.nPf (s : State) : Nat := portCount s.hif.grouping

/-- TotalVFs of PF p in the grouping in force (02 R39). -/
def State.totalVfs (s : State) (p : Nat) : Nat := if p < s.nPf then s.pf (pTotalVfs p) else 0

/-- First VF GFN of PF p (02 R36). -/
def State.vfBase (s : State) (p : Nat) : Nat := (List.range p).foldl (fun a q => a + s.totalVfs q) 8

/-- A GFN is a PF (02 R36). -/
def State.isPf (s : State) (g : Nat) : Bool := decide (g < s.nPf)

/-- The PF that owns a function (02 R36, R41). -/
def State.pfOf (s : State) (g : Nat) : Option Nat :=
  if g < s.nPf then some g
  else (List.range s.nPf).find? (fun p => decide (s.vfBase p ≤ g ∧ g < s.vfBase p + s.totalVfs p))

/-- The VF index k of a VF, from 1 (02 R37). -/
def State.vfIndex (s : State) (g : Nat) : Nat :=
  match s.pfOf g with
  | some p => if s.isPf g then 0 else g - s.vfBase p + 1
  | none => 0

/-- The link group that serves a function. -/
def State.portOf (s : State) (g : Nat) : Nat := (s.pfOf g).getD 0

/-- A function that nothing is listed for: a PF is in service, a VF is ABSENT (07 R194). -/
def State.fnDflt (s : State) (g : Nat) : Fn := { vf := if s.isPf g then .active else .absent }

/-- A function's state. -/
def State.fn (s : State) (g : Nat) : Fn := tget s.fns g (s.fnDflt g)

/-- Change a function's state. -/
def State.modFn (s : State) (g : Nat) (f : Fn → Fn) : State := { s with fns := tset s.fns g (f (s.fn g)) }

/-- A port's state. -/
def State.port (s : State) (p : Nat) : Port := tget s.hif.ports p {}

/-- Change a port's state. -/
def State.modPort (s : State) (p : Nat) (f : Port → Port) : State :=
  { s with hif := { s.hif with ports := tset s.hif.ports p (f (s.port p)) } }

/-- The routing ID of a function lies in the bus range assigned to its port: First VF Offset and VF Stride are 1, so VF k has
PF_RID + k and stands on further bus k / 256 (02 R37). -/
def State.onBus (s : State) (g : Nat) : Bool := decide (s.vfIndex g / 256 ≤ (s.fn (s.portOf g)).buses)

/-- A function that exists and answers: its group is up, it is not ABSENT, and its routing ID lies in the assigned bus
range (02 R37, R59; 07 R194). -/
def State.reach (s : State) (g : Nat) : Bool :=
  (s.pfOf g).isSome && (s.port (s.portOf g)).up && decide ((s.fn g).vf ≠ .absent) && s.onBus g

/-- The functions in being: the PFs and the VFs that are not ABSENT. -/
def State.liveFns (s : State) : List Nat :=
  List.range s.nPf ++ ((s.fns.filter (fun p => decide (8 ≤ p.1) && decide (p.2.vf ≠ .absent))).map Prod.fst)

/-- Queues a function may own (02 R42). -/
def State.queuesMax (s : State) (g : Nat) : Nat :=
  if s.isPf g then s.pf (pPfQueues g) else s.pf (pVfQueues (s.portOf g))

/-- FN_CAP.VECTORS: MSI-X table size minus 1 (02 R50). -/
def State.vectors (s : State) (g : Nat) : Nat := if s.isPf g then min (s.queuesMax g) 1023 else s.queuesMax g

/-- The tenant class a function is bound to (01 R11). -/
def State.tclass (s : State) (g : Nat) : Nat := s.pv (pTclass g)

/-- A key-slot page's owner, 0xFFFF for none (07 R195). -/
def State.pageOwner (s : State) (p : Nat) : Nat := s.pv (pPageOwner p)

/-- The management PF (06 R168, R173). -/
def State.mgmtPf (s : State) : Nat := let p := s.pv pMgmtPf; if p < s.nPf then p else 0

/-- Set a live parameter value. -/
def State.setPv (s : State) (id v : Nat) : State := { s with par := { s.par with live := tset s.par.live id v } }

/-- A queue. -/
def State.q (s : State) (g qid : Nat) : Option Queue := tfind s.qs (qkey g qid)

/-- Change a queue that exists. -/
def State.modQ (s : State) (g qid : Nat) (f : Queue → Queue) : State :=
  match s.q g qid with
  | some q => { s with qs := tset s.qs (qkey g qid) (f q) }
  | none => s

/-- A command in flight. -/
def State.slot (s : State) (i : Nat) : Option Slot := tfind s.sub.slots i

/-- Put a command's slot. -/
def State.setSlot (s : State) (i : Nat) (x : Slot) : State :=
  { s with sub := { s.sub with slots := tset s.sub.slots i x } }

/-- The commands in flight of a queue. -/
def State.slotsOf (s : State) (g qid : Nat) : List (Nat × Slot) :=
  s.sub.slots.filter (fun p => decide (p.2.gfn = g ∧ p.2.qid = qid))

/-- The commands in flight of a function. -/
def State.slotsOfFn (s : State) (g : Nat) : List (Nat × Slot) := s.sub.slots.filter (fun p => decide (p.2.gfn = g))

/-- Draw a free value (log 11). -/
def State.fresh (s : State) : BitVec 64 × State := (Config.freeValue s.freeCtr, { s with freeCtr := s.freeCtr + 1 })

/-- Send something out (log 8). -/
def State.emit (s : State) (o : Output) : State := { s with out := s.out ++ [o] }

/-! ### Operating mode and LIMITED (01 R13–R17) -/

/-- Deckle d is a member of placement group g (05 R154). -/
def State.inGroup (s : State) (g d : Nat) : Bool := bitN (s.pv (pPgDeckles g)) d

/-- Placement groups affected by SPARES (09 R269). -/
def State.sparesMask (s : State) (g : Nat) : Bool :=
  s.glb.sparesGroups.getLsbD g ||
  [0, 1, 2].any (fun d => s.glb.sparesDeckles.getLsbD d && s.inGroup g d)

/-- Placement groups affected by CIPHER (11 R331). -/
def State.cipherMask (s : State) (g : Nat) : Bool := [0, 1, 2].any (fun d => s.glb.cipher.getLsbD d && s.inGroup g d)

/-- The groups of GMASK, lowest first (01 R17). -/
def State.gmask (s : State) : List Nat := (List.range 16).filter (fun g => s.sparesMask g || s.cipherMask g)

/-- GLB_LIMITED (01 R17). -/
def State.limited (s : State) : Nat :=
  let m := s.gmask
  let spares := decide (s.glb.sparesDeckles ≠ 0 ∨ s.glb.sparesGroups ≠ 0)
  let grp := match m with | [] => 0 | [g] => g | _ => 0xFF
  b2n spares + 2 * b2n s.glb.dram + 4 * b2n s.glb.ledger + 8 * b2n s.glb.thermal
    + 16 * b2n (decide (s.glb.cipher ≠ 0)) + 2 ^ 8 * grp + 2 ^ 16 * m.foldl (fun a g => a + 2 ^ g) 0

/-- Some reason bit of GLB_LIMITED is set. -/
def State.isLimited (s : State) : Bool := decide (s.limited % 32 ≠ 0)

/-- MODE, by the order of 01 R15. -/
def State.modeOf (s : State) : Nat :=
  if s.mode.rescue then 4 else if s.mode.booting then 0 else if s.mode.dormant then 5
  else if s.mode.hold ≠ 0 then 3 else if s.isLimited then 2 else 1

/-- FN_STATUS.READY (01 R13). -/
def State.ready (s : State) : Bool := decide (s.modeOf ≠ 0) && decide (s.modeOf ≠ 5)

/-- BAR2/3 writes are dropped in BOOT, RESCUE and DORMANT (01 R13). -/
def State.intakeMode (s : State) : Bool := decide (s.modeOf ∈ [1, 2, 3])

/-- A dormant entry is in the steps in which commands accepted earlier still run (16 R439 steps 1 and 2). -/
def State.entering (s : State) : Bool := !s.mode.booting && s.pwr.phase == 1 && decide (s.pwr.entryStep ≤ 2)

/-- No step of a command starts once PFAIL# is sampled (08 R233). -/
def State.unlessPfail (s t : State) : State := if s.pwr.pfailLow then s else t

/-- Microseconds since the boot began (06 R186). -/
def State.bootUs (s : State) : Nat := (s.now - s.mode.bootAt) / 10

/-! ### DMA, MSI-X, sticky errors, the asynchronous log -/

/-- DMA of a function passes: it is reachable, its group is not fenced and no FLR runs (02 R59, 07 R210). -/
def State.dmaOk (s : State) (g : Nat) : Bool :=
  s.reach g && !(s.port (s.portOf g)).fenced && !(s.fn g).flr

/-- Dirty-log bits that a posted write touches (07 R215). -/
def dirtyBits (d : Dirty) (addr len : Nat) : List Nat :=
  let lo := max addr d.base
  let hi := min (addr + len) (d.base + d.len)
  if lo < hi then
    let i0 := (lo - d.base) / d.gran
    let i1 := (hi - 1 - d.base) / d.gran
    (List.range (i1 + 1 - i0)).map (· + i0)
  else []

/-- Log a write in the dirty log of its function (07 R215). -/
def dirtyAdd (d : Dirty) (addr len : Nat) : Dirty :=
  { d with cache := (dirtyBits d addr len).foldl addOnce d.cache }

/-- A posted memory write under a function's routing ID: dropped behind a fence, else sent and logged (02 R34, R59;
07 R215). -/
def State.hostPost (s : State) (g addr : Nat) (bytes : List Byte) (relaxed : Bool) : State :=
  if s.dmaOk g then
    let s := s.emit (.hostWrite g addr bytes relaxed)
    match (s.fn g).dirty with
    | none => s
    | some d => if d.failed then s else s.modFn g (fun f => { f with dirty := some (dirtyAdd d addr bytes.length) })
  else s

/-- A completion entry or a bitmap write: never with Relaxed Ordering (02 R34; 07 R216). -/
def State.hostWrite (s : State) (g addr : Nat) (bytes : List Byte) : State := s.hostPost g addr bytes false

/-- A data write: with Relaxed Ordering where the function's Device Control enables it (02 R34; log 45). -/
def State.hostData (s : State) (g addr : Nat) (bytes : List Byte) : State :=
  s.hostPost g addr bytes ((s.fn g).devCtl.getLsbD 4)

/-- A vector's entry. -/
def Fn.vec (f : Fn) (v : Nat) : Vec := tget f.vecs v {}

/-- Change a vector's entry. -/
def Fn.modVec (f : Fn) (v : Nat) (h : Vec → Vec) : Fn := { f with vecs := tset f.vecs v (h (f.vec v)) }

/-- Every vector of the function is held: the function mask is set, or MSI-X is not enabled (02 R51; DESIGN CHOICE, log 45: what is due while
MSI-X is off is held as under the function mask). -/
def Fn.held (f : Fn) : Bool := f.fmask || !f.msixEn

/-- An interval of 02 R52 applies to the function's vectors. -/
def State.irqGap (s : State) (g : Nat) : Bool := decide (s.pv (pCls (s.tclass g) 9) ≠ 0)

/-- Send a message on a vector whose entry allows it; the class interval, whatever it is set to when the next message is due, runs from here
(02 R51, R52; 05 R162). -/
def State.msixSend (s : State) (g v : Nat) : State :=
  let e := (s.fn g).vec v
  let s := if s.dmaOk g then s.emit (.msix g v e.addr e.data) else s
  s.modFn g (fun f => f.modVec v (fun e => { e with pba := false, delayed := false, gap := true }))

/-- A message is due on a vector (02 R51–R53): held pending while masked, during an FLR or with address 0; delayed while
the interval runs; else sent. -/
def State.msixCore (s : State) (g v : Nat) : State :=
  let f := s.fn g
  let e := f.vec v
  if e.mask || f.held || f.flr || decide (e.addr = 0) then s.modFn g (fun f => f.modVec v (fun e => { e with pba := true }))
  else if e.gap && s.irqGap g then s.modFn g (fun f => f.modVec v (fun e => { e with delayed := true }))
  else s.msixSend g v

/-- The vector is unmasked and its address is 0 (02 R51). -/
def State.msixNoAddr (s : State) (g v : Nat) : Bool :=
  let f := s.fn g
  let e := f.vec v
  !(e.mask || f.held || f.flr) && decide (e.addr = 0)

/-- Set bits of FN_ERR; a bit that becomes 1 fires vector 0 with ERR_IRQ (02 R44, R47). `VEC` raised by that very
message fires nothing further on the same vector. -/
def State.errSet (s : State) (g bit : Nat) : State :=
  let f := s.fn g
  if f.err.getLsbD bit then s
  else
    let s := s.modFn g (fun f => { f with err := f.err ||| (1#10 <<< bit) })
    if f.ctrl.getLsbD 1 then
      let s := if s.msixNoAddr g 0 then s.modFn g (fun f => { f with err := f.err ||| 64#10 }) else s
      s.msixCore g 0
    else s

/-- A message is due on a vector, with FN_ERR.VEC where its address is 0 (02 R51). -/
def State.msixDue (s : State) (g v : Nat) : State :=
  let s := if s.msixNoAddr g v then s.errSet g 6 else s
  s.msixCore g v

/-- Capture the first access that sets NARROW, NOQ or BADWR while all three are 0 (02 R47), and set the bit. -/
def State.errAccess (s : State) (g bit bar off : Nat) : State :=
  let f := s.fn g
  let s := if f.err &&& 0x203#10 = 0 then
      s.modFn g (fun f => { f with errOff := BitVec.ofNat 24 off, errBar := BitVec.ofNat 3 bar })
    else s
  s.errSet g bit

/-- The asynchronous log after one more event (06 R186). -/
def asyncAdd (l : List AsyncEntry) (e : AsyncEntry) : List AsyncEntry :=
  match l.getLast? with
  | some n =>
    if n.code = 0xFF then l.dropLast ++ [{ n with arg := n.arg + 1 }]
    else if l.length + 2 ≤ 256 then l ++ [e]
    else l ++ [{ e with code := 0xFF, nsid := 0, arg := 1, st := 0 }]
  | none => [e]

/-- Post an event to a function's asynchronous log (06 R186). -/
def State.asyncPost (s : State) (g code nsid arg st : Nat) : State :=
  let f := s.fn g
  let e : AsyncEntry := { code := code, count := f.acount, nsid := nsid, arg := arg, st := st, time := s.bootUs }
  let s := s.modFn g (fun f => { f with alog := asyncAdd f.alog e, acount := f.acount + 1 })
  if f.ctrl.getLsbD 2 then s.msixDue g 0 else s

/-- Post an event to each of some functions. -/
def State.asyncAll (s : State) (l : List Nat) (code nsid arg st : Nat) : State :=
  l.foldl (fun s g => s.asyncPost g code nsid arg st) s

/-- The mode event of every function (06 R186, code 0x02). -/
def State.modeEvent (s : State) : State :=
  s.asyncAll s.liveFns 0x02 0 (s.modeOf + 2 ^ 16 * (s.limited % 2 ^ 32)) 0

/-- Run a change and post the mode event if MODE or GLB_LIMITED moved (06 R186; log 20). -/
def State.watching (s : State) (f : State → State) : State :=
  let t := f s
  if t.modeOf ≠ s.modeOf ∨ t.limited ≠ s.limited then t.modeEvent else t

/-- Post an event whose ARG the spec does not state to some functions: ARG is a free value (log 11). -/
def State.asyncFree (s : State) (l : List Nat) (code nsid : Nat) : State :=
  let (v, s) := s.fresh
  s.asyncAll l code nsid v.toNat 0

/-- A health event to every function (06 R186, code 0x04). -/
def State.healthEvent (s : State) : State := s.asyncFree s.liveFns 0x04 0

/-- RTC ticks of 1/32,768 s since the first oscillation, 0 before it (16 R460; 17 R471). -/
def State.rtc (s : State) : Nat := if s.brd.noRtc then 0 else (s.now - s.pwr.rtc0) * 32768 / 10000000 % 2 ^ 48

/-! ### Power rails and wake events (16 R440–R445; 17 R466) -/

/-- Drive the enables PWR_EN[2:0] (17 R466). -/
def State.railsSwitch (s : State) (on : Bool) : State :=
  { s with brd := { s.brd with pwrEn := (s.brd.pwrEn &&& 8#4) ||| (if on then 7#4 else 0#4) } }

/-- Drive the enable of the PCIe rails (17 R466). -/
def State.railPcie (s : State) (on : Bool) : State :=
  { s with brd := { s.brd with pwrEn := (s.brd.pwrEn &&& 7#4) ||| (if on then 8#4 else 0#4) } }

/-- An exit begins (16 R442, R443): the source is recorded and the rails are enabled. -/
def State.beginExit (s : State) (code : Nat) : State :=
  let s := { s with pwr := { s.pwr with
    phase := 3, first := BitVec.ofNat 4 code, seen := if inR 1 8 code then 1#8 <<< (code - 1) else 0
    from_ := if 3 ≤ s.pwr.cur.toNat then s.pwr.cur else s.pwr.goal
    goal := if 3 ≤ s.pwr.cur.toNat then s.pwr.cur else s.pwr.goal
    wtime := BitVec.ofNat 48 s.rtc, armed := s.pwr.armed && decide (code ≠ 1), heldWake := none, entryStep := 0, retries := 0 } }
  if 3 ≤ s.pwr.cur.toNat then (s.railPcie true).railsSwitch true else s

/-- Edge sources (16 R442). -/
def edgeWake (code : Nat) : Bool := code == 5 || code == 6

/-- A wake event acts on the state it meets (16 R440, R441, R445). -/
def State.wake (s : State) (code : Nat) : State :=
  if !s.mode.dormant then
    (if s.modeOf = 3 then { s with mode := { s.mode with latchedPs := none } } else s)
  else if s.pwr.phase = 1 then s.beginExit code
  else if s.pwr.phase = 2 then
    (if s.pwr.entryStep = 10 ∧ edgeWake code = true then { s with pwr := { s.pwr with ewin := true } }
     else { s with pwr := { s.pwr with heldWake := s.pwr.heldWake.or (some code) } })
  else if s.pwr.phase = 3 then
    { s with pwr := { s.pwr with next := none, seen := s.pwr.seen ||| (if inR 1 8 code then 1#8 <<< (code - 1) else 0) } }
  else if s.pwr.stuck then s
  else s.beginExit code

/-- A BAR access of a function while MODE is DORMANT is a wake event, and a write is dropped (01 R13; 02 R61). -/
def State.barWake (s : State) (g : Nat) (t : State) : State :=
  if s.reach g && decide (s.modeOf = 5) then s.wake 6 else t

/-! ### Mailbox replies (06 R163–R165) -/

/-- Header and payload of a reply (06 R164). -/
def replyBytes (r : Req) (flags status detail : Nat) (payload : List Byte) : List Byte :=
  leBytes 2 r.typ ++ leBytes 2 r.seq ++ leBytes 4 payload.length ++ leBytes 4 (1 + flags) ++ leBytes 2 status
    ++ leBytes 2 detail ++ payload

/-- The request a sender has in service. -/
def State.reqOf (s : State) (src : Src) : Option Req :=
  match src with
  | some g => if s.reach g then (s.fn g).req else none
  | none => s.adm.oob

/-- Packets of an MCTP message, at the baseline transmission unit of 64 bytes (06 R191). -/
def mctpPackets : Nat → List Byte → List (List Byte)
  | 0, _ => []
  | n + 1, l => if l.isEmpty then [] else l.take 64 :: mctpPackets n (l.drop 64)

/-- Send an MCTP message. -/
def State.mctpSend (s : State) (l : List Byte) : State := { s with out := s.out ++ (mctpPackets l.length l).map Output.mctp }

/-- What stands before the mailbox header in an MCTP message: type 0x7E and the vendor ID, high byte first (06 R191;
PRESUMED for the byte order, log 43). -/
def mctpHead : List Byte := leBytes 1 0x7E ++ (leBytes 2 Config.vendorId.toNat).reverse

/-- Write a reply and end the conversation: DONE, SEQ and BUSY in one update, vector 0 with MBX_IRQ (06 R163). -/
def State.replyWith (s : State) (src : Src) (r : Req) (flags status detail : Nat) (payload : List Byte) : State :=
  match src with
  | some g =>
    let f := s.fn g
    let s := s.modFn g (fun f => { f with
      respBuf := memWrite f.respBuf 0 (replyBytes r flags status detail payload),
      mbDone := true, mbSeq := BitVec.ofNat 16 r.seq, mbBusy := false, mbRelayed := false, req := none, wait := none,
      torn := false })
    if f.ctrl.getLsbD 0 then s.msixDue g 0 else s
  | none =>
    let s := s.mctpSend (mctpHead ++ replyBytes r (flags + 4) status detail payload)
    { s with adm := { s.adm with oob := none, oobWait := none } }

/-- Reply to a sender's request in service. -/
def State.reply (s : State) (src : Src) (status detail : Nat) (payload : List Byte) : State :=
  match s.reqOf src with
  | some r => s.replyWith src r 0 status detail payload
  | none => s

/-- The conversation a sender waits in. -/
def State.waitOf (s : State) (src : Src) : Option Wait :=
  match src with | some g => (s.fn g).wait | none => s.adm.oobWait

/-- Let a sender's conversation wait for a later event. -/
def State.setWait (s : State) (src : Src) (w : Wait) : State :=
  match src with
  | some g => s.modFn g (fun f => { f with wait := some w })
  | none => { s with adm := { s.adm with oobWait := some w } }

/-- The senders whose conversation waits for an event. -/
def State.waiters (s : State) (w : Wait) : List Src :=
  (if s.adm.oobWait = some w then [none] else []) ++
  ((s.fns.filter (fun p => decide (p.2.wait = some w))).map (fun p => some p.1))

/-- Reply to every conversation that waits for an event. -/
def State.replyWaiters (s : State) (w : Wait) (status detail : Nat) (payload : List Byte) : State :=
  (s.waiters w).foldl (fun s src => s.reply src status detail payload) s

/-- The ciphertext of a block, 4,096 bytes (11 R326; log 13). -/
def Sealed.cipher (d : Sealed) : List Byte := (List.range 4096).map (Config.cipherByte d.slot d.gen d.lba d.plain)

end Sys2Proof.Machine
end

