-- ==== Sys2Proof/Machine/Operands.lean ====
section
/-! DEFINITION. The operand forms of a command: its fields, data pointers, lists, pieces and key slot (04 R98–R113,
R125, R130). -/

namespace Sys2Proof.Machine

/-- The fields of a command by their byte offsets (04 R98, R105). -/
structure Cmd where
  opc : Nat
  flags : Nat
  tag : Nat
  nsid : Nat
  slba : Nat
  nlb : Nat
  plh : Nat
  tcovr : Nat
  kpage : Nat
  addr : Nat
  len : Nat
  dlh : Nat
  b40 : Nat
  b41 : Nat
  b44 : Nat
  tlptr : Nat
  seq : Nat
  deriving DecidableEq, Repr

/-- Decode the 64 bytes of a command (04 R98). -/
def cmdOf (l : List Byte) : Cmd :=
  { opc := byteAt l 0, flags := byteAt l 1, tag := fieldLe l 2 2, nsid := fieldLe l 4 4, slba := fieldLe l 8 8,
    nlb := fieldLe l 16 4, plh := fieldLe l 20 2, tcovr := byteAt l 22, kpage := byteAt l 23, addr := fieldLe l 24 8,
    len := fieldLe l 32 4, dlh := fieldLe l 40 4, b40 := byteAt l 40, b41 := byteAt l 41, b44 := byteAt l 44,
    tlptr := fieldLe l 48 8, seq := fieldLe l 56 2 }

/-- FLAGS.SGL (04 R99). -/
def Cmd.sgl (c : Cmd) : Bool := bitN c.flags 0
/-- FLAGS.BTAG (04 R99). -/
def Cmd.btag (c : Cmd) : Bool := bitN c.flags 1
/-- FLAGS.MEDIA (04 R99). -/
def Cmd.media (c : Cmd) : Bool := bitN c.flags 2
/-- ALL of ZONE_MGMT (04 R105). -/
def Cmd.all (c : Cmd) : Bool := bitN c.b41 0
/-- PARTIAL of ZONE_REPORT (04 R105). -/
def Cmd.partialF (c : Cmd) : Bool := bitN c.b41 0

/-- Defined opcodes (04 R113). -/
def opDefined (o : Nat) : Bool := inR 1 10 o || o == 15
/-- Opcodes that name a zoned namespace (04 R113). -/
def opZoned (o : Nat) : Bool := o == 3 || o == 5 || o == 6 || o == 9
/-- Opcodes that name a random namespace (04 R113). -/
def opRandom (o : Nat) : Bool := o == 7
/-- Write-type opcodes (04 R114). -/
def opWrite (o : Nat) : Bool := o == 2 || o == 3 || o == 9 || o == 10
/-- Opcodes that use a key slot and move user data (04 R101, R113). -/
def opKeyed (o : Nat) : Bool := o == 1 || o == 2 || o == 3 || o == 8 || o == 9 || o == 10
/-- Opcodes for which NLB = 0 completes at check 6 (04 R114). -/
def opZeroOk (o : Nat) : Bool := o == 1 || o == 2 || o == 7 || o == 8 || o == 10
/-- Opcodes with a data pointer that may take the scatter form (04 R99, R125). -/
def opSgl (o : Nat) : Bool := o == 1 || o == 2 || o == 3 || o == 6
/-- Opcodes that use FLAGS.BTAG (04 R99). -/
def opTags (o : Nat) : Bool := o == 1 || o == 2 || o == 3
/-- READ and VERIFY insert entries with W = 0 (14 R397). -/
def opReads (o : Nat) : Bool := o == 1 || o == 8
/-- The opcode uses PLH: the write types, and ZONE_MGMT OPEN (04 R113). -/
def Cmd.usesPlh (c : Cmd) : Bool := opWrite c.opc || (c.opc == 5 && c.b40 == 1)

/-- Blocks of a zone's span (05 R137). -/
def zspan : Nat := 524288

/-- The zone that holds an LBA. -/
def zoneOfLba (lba : Nat) : Nat := lba / zspan

/-- Pieces of a write-type command as block ranges (04 R130); `n` bounds the number of pieces. -/
def piecesFrom (zoned : Bool) : Nat → Nat → Nat → List (Nat × Nat)
  | 0, _, _ => []
  | n + 1, lba, stop =>
    if lba < stop then
      let e := if zoned then min (lba + 64) stop else min ((lba / 64 + 1) * 64) stop
      (lba, e) :: piecesFrom zoned n e stop
    else []

/-- The pieces of a command (04 R130). -/
def pieceSplit (zoned : Bool) (slba nlb : Nat) : List (Nat × Nat) := piecesFrom zoned (nlb / 64 + 2) slba (slba + nlb)

/-- The key slot a command names (04 R104). -/
def kslotOf (c : Cmd) (ns : Ns) : Nat := if bitN c.b44 7 then c.kpage * 16 + c.b44 % 16 else ns.kslot

/-- The current generation of a slot that a function may use: its page is owned and it holds a key (04 R104). -/
def State.keyUsable (s : State) (g k : Nat) : Option Nat :=
  let x := tget s.cip.keys k {}
  if decide (s.pageOwner (k / 16) = g) && x.loaded && decide (k < 4096) then some x.gen.toNat else none

/-- A namespace that is accessible to a function (04 R100). -/
def State.nsFor (s : State) (g nsid : Nat) : Option Ns :=
  match tfind s.nss nsid with
  | some n => if n.fns.contains g && decide (n.busy = 0) then some n else none
  | none => none

/-- A namespace that a command accepted before a format, delete, detach or sanitize still sees: it only has to exist
(06 R178, R190). -/
def State.nsAny (s : State) (nsid : Nat) : Option Ns := tfind s.nss nsid

/-- RESULT of 0x002: byte offset, and the index of a list element (04 R133). -/
def badField (off : Nat) (elem : Option Nat) : BitVec 64 :=
  match elem with
  | none => BitVec.ofNat 64 off
  | some i => BitVec.ofNat 64 (off + 2 ^ 8 + 2 ^ 16 * (i % 65536))

/-- RESULT of a COPY source's failure (04 R125). -/
def badEntry (i : Nat) : BitVec 64 := BitVec.ofNat 64 (2 ^ 8 + 2 ^ 16 * (i % 65536))

/-- RESULT of a block failure: first failed offset and number of failed blocks (04 R133). -/
def badBlocks (first count : Nat) : BitVec 64 := BitVec.ofNat 64 (first % 2 ^ 32 + 2 ^ 32 * (count % 2 ^ 32))

/-- The group a command's PLH resolves to under its class (04 R103, 05 R156 step 1), or none. -/
def State.resolveGroup (s : State) (gfn cls plh : Nat) : Option Nat :=
  let g := if plh = 0 then s.pv (pCls cls 4)
    else if plh < 64 then s.pv (pPlh gfn plh) else 0xFF
  if g < 16 && bitN (s.pv (pCls cls 5)) g then some g else none

/-- The required data length of an opcode: lower and upper bound (04 R113). -/
def needLen (c : Cmd) : Option (Nat × Nat) :=
  if c.opc = 1 ∨ c.opc = 2 ∨ c.opc = 3 then some (c.nlb * 4096, c.nlb * 4096)
  else if c.opc = 6 then some (64, 2097152)
  else if c.opc = 9 then some (c.b40 * 16, c.b40 * 16)
  else none

/-- A length fits what the opcode requires (04 R113). -/
def lenFits (c : Cmd) (n : Nat) : Bool :=
  match needLen c with
  | some (lo, hi) => inR lo hi n && (c.opc != 6 || n % 64 == 0)
  | none => true

/-- Offsets of invalid fields of check 3 that the command itself shows, in byte order (04 R114). TCOVR is checked
against the class table and PLH against the group resolved. A COPY of no entries has an NLB unlike their sum (04 R125). -/
def State.badFields (s : State) (g cls : Nat) (c : Cmd) (ns : Ns) : List Nat :=
  let tagged := decide (ns.tagMode ≠ 0)
  let one (b : Bool) (o : Nat) : List Nat := if b then [o] else []
  one ((c.opc == 9 && c.sgl) || (opTags c.opc && c.btag && !tagged)) 1
  ++ one ((opZoned c.opc && !ns.zoned) || (opRandom c.opc && ns.zoned)) 4
  ++ one ((c.opc == 3 || c.opc == 9 || (c.opc == 5 && !c.all)) && decide (c.slba % zspan ≠ 0)) 8
  ++ one (((c.opc == 3 || c.opc == 9) && c.nlb == 0) || (c.opc == 9 && c.b40 == 0)) 16
  ++ one (c.usesPlh && (s.resolveGroup g cls c.plh).isNone) 20
  ++ one (s.isPf g && bitN c.tcovr 7 && s.pv (pCls (c.tcovr % 64) 0) == 0) 22
  ++ (if (needLen c).isSome then
        (if opSgl c.opc && c.sgl then one (c.addr % 16 != 0) 24 ++ one (!inR 1 1024 c.len) 32
         else one (c.addr % 4 != 0) 24 ++ one (!lenFits c c.len) 32)
      else [])
  ++ one ((c.opc == 5 && !inR 1 5 c.b40) || (c.opc == 6 && decide (7 < c.b40)) || (c.opc == 9 && !inR 1 128 c.b40)) 40
  ++ one (opTags c.opc && c.btag && tagged && c.tlptr % 8 != 0) 48

/-- The first invalid field of FLUSH, which uses only NSID and, for a PF, TCOVR (04 R102, R113). -/
def State.badFlush (s : State) (g : Nat) (c : Cmd) : List Nat :=
  if s.isPf g && bitN c.tcovr 7 && s.pv (pCls (c.tcovr % 64) 0) == 0 then [22] else []

/-- The elements of a scatter list, `n` of them: index, address, length (04 R108). -/
def scatterElems (l : List Byte) (n : Nat) : List (Nat × Nat × Nat) :=
  (List.range n).map (fun i => (i, fieldLe l (16 * i) 8, fieldLe l (16 * i + 8) 4))

/-- First element at which the running sum exceeds a bound (04 R108). -/
def overAt (hi : Nat) : List (Nat × Nat × Nat) → Nat → Option Nat
  | [], _ => none
  | (i, _, n) :: r, sum => if hi < sum + n then some i else overAt hi r (sum + n)

/-- Check a scatter list: the faulty element, or the buffer segments (04 R108). R108 gives an index for each fault alone:
where a list has a misaligned element and a wrong sum, the misaligned element is reported; and a ZONE_REPORT whose sum stays within its
limit but is no multiple of 64 reports the last element, as for a sum that falls short (DESIGN CHOICE, log 54). -/
def checkScatter (c : Cmd) (l : List Byte) : Sum Nat (List (Nat × Nat)) :=
  let es := scatterElems l c.len
  let live := es.filter (fun e => e.2.2 != 0)
  match live.find? (fun e => decide (e.2.1 % 4 ≠ 0) || decide (e.2.2 % 4 ≠ 0)) with
  | some e => .inl e.1
  | none =>
    let sum := live.foldl (fun a e => a + e.2.2) 0
    let hi := ((needLen c).getD (0, 0)).2
    if lenFits c sum then .inr (live.map (fun e => (e.2.1, e.2.2)))
    else match overAt hi es 0 with
      | some i => .inl i
      | none => .inl (c.len - 1)

/-- The entries of a COPY range list with SNLB above 0: index, LBA, count, NSID with 0 as the destination (04 R125). -/
def rangeEntries (c : Cmd) (l : List Byte) : List (Nat × Nat × Nat × Nat) :=
  ((List.range c.b40).map (fun i =>
      let sn := fieldLe l (16 * i + 12) 4
      (i, fieldLe l (16 * i) 8, fieldLe l (16 * i + 8) 4, if sn = 0 then c.nsid else sn))).filter
    (fun e => e.2.2.1 != 0)

/-- Cut a run of bytes at an offset of a segmented buffer into (address, bytes) writes (04 R107, R108). -/
def segWrites : List (Nat × Nat) → Nat → List Byte → List (Nat × List Byte)
  | [], _, _ => []
  | (a, n) :: r, off, bytes =>
    if n ≤ off then segWrites r (off - n) bytes
    else
      let room := n - off
      let here := bytes.take room
      if here.isEmpty then []
      else (a + off, here) :: segWrites r 0 (bytes.drop room)

/-- Write bytes into the command's host buffer at an offset. -/
def State.bufWrite (s : State) (g : Nat) (segs : List (Nat × Nat)) (off : Nat) (bytes : List Byte) : State :=
  (segWrites segs off bytes).foldl (fun s p => s.hostData g p.1 p.2) s

/-- The direct form's segment list (04 R107). -/
def directSegs (c : Cmd) : List (Nat × Nat) := if c.len = 0 then [] else [(c.addr, c.len)]

/-- Block i of a data buffer, padded with zeros to 4,096 bytes (log 3). -/
def blockOf (data : List Byte) (i : Nat) : List Byte := padTo 4096 (sliceB data (4096 * i) 4096)

/-- GUARD of a block (04 R110). -/
def guardOf (plain : List Byte) : Nat := (crc16 plain).toNat

/-- GUARD of a zero block (04 R112). -/
def guardZero : Nat := (crc16 (zeros 4096)).toNat

/-- The tag of a block never written (04 R112). -/
def zeroTag (ns : Ns) (lba : Nat) : Nat := guardZero + (if ns.tagMode = 2 then 65536 * (lba % 2 ^ 48) else 0)

/-- Blocks a command's zone-relative check uses: the zone record. -/
def State.zone (s : State) (nsid z : Nat) : Zone := tget s.zones (zkey nsid z) {}

/-- Change a zone. -/
def State.modZone (s : State) (nsid z : Nat) (f : Zone → Zone) : State :=
  { s with zones := tset s.zones (zkey nsid z) (f (s.zone nsid z)) }

/-- Zone start LBA (05 R137). -/
def zslba (z : Nat) : Nat := z * zspan

/-- The record of a slot: generation, destroyed mark, key (11 R333). -/
def keyRec (k : KeySlot) : List Byte := leBytes 4 k.gen.toNat ++ leBytes 1 (b2n (!k.loaded)) ++ k.key

/-- A slot from its record. -/
def keyOf (r : List Byte) : KeySlot :=
  let gone := decide (byteAt r 4 ≠ 0)
  { loaded := !gone, gen := BitVec.ofNat 32 (fieldLe r 0 4), key := if gone then [] else r.drop 5, destroyed := gone }

/-- What stands in the store for a wrapped record. -/
def Wrapped.bytes (w : Wrapped) : List Byte := (List.range w.record.length).map (Config.wrapByte w.record)

end Sys2Proof.Machine
end

