-- ==== Sys2Proof/Machine/HazardOps.lean ====
section
/-! DEFINITION. The hazard engine's shared operations: search, insert, wake, windows (14 R391–R403). -/

namespace Sys2Proof.Machine

/-- Entry width of a bank in units (14 R391); 0 before firmware has configured it. -/
def hzWidth (h : Hz) (b : Nat) : Nat :=
  if b < 12 then 2 else if !h.widthsSet then 0 else if b < 14 then 1 else if b < 16 then 4 else 0

/-- The bank of a global index. -/
def hzBank (i : Nat) : Nat := i / 4096

/-- Bits in which a ternary entry or key takes no part: those masked by either side (14 R391, R404). -/
def ternMatch (bits value dontCare evalue ecare : Nat) : Bool :=
  (List.range bits).all (fun i => bitN dontCare i || bitN ecare i || (bitN value i == bitN evalue i))

/-- An entry of bank b matches a key (14 R391, R393). -/
def hzMatch (h : Hz) (b : Nat) (e : HzEntry) (k : HzKey) : Bool :=
  match hzWidth h b with
  | 2 => decide (e.nsid = k.nsid) && decide (e.lo ≤ k.last) && decide (k.lo ≤ e.last) && (e.w || k.w)
  | 1 => ternMatch 32 k.value k.dontCare e.value e.care
  | 4 => ternMatch 128 k.value k.dontCare e.value e.care
  | _ => false

/-- The matching entries of the selected banks, lowest index first (14 R394, R395). -/
def hzSearch (h : Hz) (k : HzKey) (mask : Nat) (ceiling : Option Nat) : List Nat :=
  ((h.entries.filter (fun p =>
    bitN mask (hzBank p.1) && hzMatch h (hzBank p.1) p.2 k
      && (match ceiling with | none => true | some c => decide (p.2.iseq < c)))).map Prod.fst)

/-- What a search answers (14 R395). -/
def hzResult (l : List Nat) : HzResult :=
  match l with
  | [] => {}
  | i :: r => { isMatch := true, index := i, multi := !r.isEmpty, count := l.length }

/-- The lowest index of a group, `n` entries of width 2 from `i`, that is free (14 R394). -/
def hzLowest (t : Tbl HzEntry) : Nat → Nat → Option Nat
  | 0, _ => none
  | n + 1, i => match tfind t i with | none => some i | some _ => hzLowest t n (i + 2)

/-- The lowest free in-flight entry or staging-window entry. -/
def hzFreeIn (h : Hz) (staging : Bool) : Option Nat :=
  if staging then hzLowest h.entries 8192 32768 else hzLowest h.entries 16384 0

/-- Entries in use of a group of banks. -/
def hzUsed (h : Hz) (lo hi : Nat) : Nat :=
  (h.entries.filter (fun p => decide (lo ≤ hzBank p.1 ∧ hzBank p.1 < hi))).length

/-- Insert a range with the next ISEQ at an index (14 R394). -/
def hzPut (h : Hz) (i : Nat) (k : HzKey) (owner : Option Nat) : Hz :=
  { h with
    entries := tset h.entries i { lo := k.lo, last := k.last, nsid := k.nsid, w := k.w, iseq := h.nextIseq, owner := owner }
    nextIseq := h.nextIseq + 1 }

/-- The range of an entry as a key (14 R397). -/
def HzEntry.key (e : HzEntry) : HzKey := { lo := e.lo, last := e.last, nsid := e.nsid, w := e.w }

/-- The lowest-indexed blocker of one entry in banks 0–7 below its own ISEQ, own entries left out (14 R397, R398). -/
def hzBlockerOf (h : Hz) (own : List Nat) (i : Nat) : Option Nat :=
  match tfind h.entries i with
  | none => none
  | some e => ((hzSearch h e.key 0xFF (some e.iseq)).filter (fun j => !own.contains j)).head?

/-- The first blocker of a command's entries. -/
def hzBlocker (h : Hz) (own : List Nat) : Option Nat := own.findSome? (hzBlockerOf h own)

/-- Register a command as a waiter on an entry. -/
def hzWait (h : Hz) (i slot : Nat) : Hz :=
  match tfind h.entries i with
  | none => h
  | some e => { h with entries := tset h.entries i { e with waiters := addOnce e.waiters slot } }

/-- Take a command off every waiter list. -/
def hzUnwait (h : Hz) (slot : Nat) : Hz :=
  { h with entries := tmap h.entries (fun _ e => { e with waiters := e.waiters.filter (· ≠ slot) }) }

/-- A command registers as a waiter on its first blocker, or may go on (14 R397). -/
def State.hzGo (s : State) (i : Nat) : State :=
  match s.slot i with
  | none => s
  | some x => match hzBlocker s.hz x.hz with
    | some b => ({ s with hz := hzWait s.hz b i }).setSlot i { x with phase := .blocked }
    | none => s.setSlot i { x with phase := .ready }

/-- Searches that a woken command runs: for its entries in turn, up to one with a blocker; a READ or VERIFY that goes on then
searches the windows again (14 R397, R398, R403). -/
def hzLooks (h : Hz) (own : List Nat) (reads : Bool) : Nat :=
  match own.findIdx? (fun i => (hzBlockerOf h own i).isSome) with
  | some n => n + 1
  | none => own.length + b2n reads

/-- A woken command looks for its next blocker (14 R397). -/
def State.hzNext (s : State) (i : Nat) : State :=
  match s.slot i with
  | none => s
  | some x => ({ s with hz := { s.hz with
      searches := s.hz.searches + BitVec.ofNat 32 (hzLooks s.hz x.hz (opReads (cmdOf x.cmd).opc)) } }).hzGo i

/-- ISEQ of a waiting command's first entry. -/
def State.slotIseq (s : State) (i : Nat) : Nat :=
  match s.slot i with
  | none => 0
  | some x => match x.hz with
    | [] => 0
    | e :: _ => match tfind s.hz.entries e with | some en => en.iseq | none => 0

/-- Insert into a list kept in ascending order of a key. -/
def insBy (f : Nat → Nat) (x : Nat) : List Nat → List Nat
  | [] => [x]
  | y :: r => if f x < f y then x :: y :: r else y :: insBy f x r

/-- Wake waiters in ISEQ order; each searches again (14 R397). -/
def State.hzWake (s : State) (ws : List Nat) : State :=
  let ordered := ws.foldl (fun l w => insBy s.slotIseq w l) []
  let s := { s with hz := { s.hz with wakes := s.hz.wakes + BitVec.ofNat 32 ws.length } }
  ordered.foldl (fun s w => s.hzNext w) s

/-- REMOVE: free an entry and wake its waiters (14 R394, R397, R399). -/
def State.hzRemove (s : State) (i : Nat) : State :=
  match tfind s.hz.entries i with
  | none => s
  | some e => ({ s with hz := { s.hz with entries := tdel s.hz.entries i } }).hzWake e.waiters

/-- MODIFY: change a range, keep ISEQ, wake the waiters to search again (14 R394, R398). -/
def State.hzModify (s : State) (i lo last : Nat) : State :=
  match tfind s.hz.entries i with
  | none => s
  | some e =>
    ({ s with hz := { s.hz with entries := tset s.hz.entries i { e with lo := lo, last := last, waiters := [] } } }).hzWake
      e.waiters

/-- Cut a range at the multiples of a window size (14 R401). -/
def windowParts : Nat → Nat → Nat → Nat → List (Nat × Nat)
  | 0, _, _, _ => []
  | n + 1, w, lo, last =>
    if last < lo then []
    else let e := min last ((lo / w + 1) * w - 1); (lo, e) :: windowParts n w (e + 1) last

/-- Cover one part by a staging window: use, widen or insert; none when it must wait (14 R401). -/
def hzWindow (h : Hz) (w nsid lo last : Nat) : Option Hz :=
  let ws := h.entries.filter (fun p => decide (8 ≤ hzBank p.1 ∧ hzBank p.1 < 12) && decide (p.2.nsid = nsid))
  if ws.any (fun p => decide (p.2.lo ≤ lo ∧ last ≤ p.2.last)) then some h
  else match ws.find? (fun p => decide (p.2.lo / w = lo / w)) with
    | some (i, e) => some { h with entries := tset h.entries i { e with lo := min e.lo lo, last := max e.last last } }
    | none => match hzFreeIn h true with
      | some i => some (hzPut h i { lo := lo, last := last, nsid := nsid, w := true } none)
      | none => none

/-- Cover a staged range by windows; none when a part must wait (14 R401). -/
def State.stageWindow (s : State) (nsid lo last : Nat) : Option State :=
  let w := max 64 (s.pf pStgWindow)
  ((windowParts 4 w lo last).foldl
    (fun o p => match o with | none => none | some h => hzWindow h w nsid p.1 p.2) (some s.hz)).map
    (fun h => { s with hz := h })

/-- Remove the windows that cover no staged block any more and have no reader (14 R402). -/
def State.windowsRelease (s : State) : State :=
  let live := s.media.blks.filter (fun p => p.2.staged.isSome)
  { s with hz := { s.hz with entries := s.hz.entries.filter (fun p =>
      decide (hzBank p.1 < 8 ∨ 12 ≤ hzBank p.1) || decide (p.2.readers ≠ 0) ||
      live.any (fun b => decide (bkey p.2.nsid p.2.lo ≤ b.1 ∧ b.1 ≤ bkey p.2.nsid p.2.last))) } }

end Sys2Proof.Machine
end

