-- ==== Sys2Proof/Machine/Flags.lean ====
section
/-! DEFINITION. Status words and flag computations: ring occupancy, TQ_STATUS flags, outcome fields, completion entries
(03 R68, R86–R92; 04 R134; 08 R225). -/

namespace Sys2Proof.Machine

/-- Unconsumed entries U of a ring (03 R88). -/
def Queue.unconsumed (q : Queue) : Nat := (q.tail + q.entries - q.head) % q.entries

/-- The ring has a free entry (03 R88). -/
def Queue.hasRoom (q : Queue) : Bool := decide (q.unconsumed < q.entries - 1)

/-- TQ_STATUS (03 R68); QUIESCED follows the function. R68 names a queue reset for RESET, and R97 has a deletion close the
queue as a reset does: RESET reads 1 while a DELETE_QUEUE runs too (DESIGN CHOICE, log 53). -/
def Queue.statusWord (q : Queue) (quiesced : Bool) : Nat :=
  b2n q.ovr + 2 * b2n q.torn + 4 * b2n q.chk + 8 * b2n quiesced + 16 * b2n q.seqf + 32 * b2n q.supp + 64 * b2n q.headf
    + 128 * b2n (q.resetting || q.deleting) + 256 * b2n q.chken + 2 ^ 16 * q.rejseq.toNat + 2 ^ 32 * q.rejcnt.toNat
    + 2 ^ 48 * q.dropcnt.toNat

/-- TQ_CREDIT (03 R67). -/
def Queue.creditWord (q : Queue) : Nat := q.avail + 2 ^ 16 * q.expseq.toNat + 2 ^ 32 * q.depth

/-- A completion entry (03 R86). -/
def cqeBytes (tag qid status seq result credit flags lat : Nat) (phase : Bool) : List Byte :=
  leBytes 2 tag ++ leBytes 2 qid ++ leBytes 2 status ++ leBytes 2 seq ++ leBytes 8 result ++ leBytes 2 credit
    ++ leBytes 2 flags ++ leBytes 4 lat ++ zeros 7 ++ leBytes 1 (b2n phase)

/-- LAT: 100 ns units since acceptance, saturating at 32 bits (03 R86). -/
def State.lat (s : State) (acceptAt : Nat) : Nat := min (s.now - acceptAt) 0xFFFFFFFF

/-- All pieces of a command, as a bitmap. -/
def allPieces (n : Nat) : Nat := 2 ^ n - 1

/-- A write-type command's pieces (04 R130). -/
def Slot.pieceList (x : Slot) (zoned : Bool) : List (Nat × Nat) :=
  let c := cmdOf x.cmd
  if c.opc = 3 ∨ c.opc = 9 then pieceSplit true x.landing c.nlb else pieceSplit zoned c.slba c.nlb

/-- Every piece of a write-type command is durable (08 R221 S2, R225). -/
def Slot.allDurable (x : Slot) (zoned : Bool) : Bool :=
  let n := (x.pieceList zoned).length
  decide (0 < n) && decide (x.pieces.toNat = allPieces n)

/-- The outcome fields of a command stopped with work remaining (04 R134, 08 R225): a DEALLOCATE or ZONE_MGMT with ALL that
has changed something is partly applied. -/
def outcomeFields (x : Slot) (zoned : Bool) : BitVec 64 :=
  let c := cmdOf x.cmd
  if opWrite c.opc then
    if x.pieces = 0 then 0
    else
      let land := if c.opc = 3 ∨ c.opc = 9 then 2 ^ 16 * (x.landing % 2 ^ 48) else 0
      if x.allDurable zoned then BitVec.ofNat 64 (1 + land)
      else BitVec.ofNat 64 (2 + 2 ^ 8 * x.pieces.toNat + land)
  else if (c.opc = 7 ∨ c.opc = 5 ∧ c.all = true) ∧ x.changed ≠ 0 then 3
  else 0

/-- Echo of TAG and SEQ and the flags of a rejected command (03 R79): bytes and presence. -/
def rejEcho (task : List Byte) (presence : BitVec 64) : Nat × Nat × Nat :=
  let p (i : Nat) : Bool := presence.getLsbD i
  let tagOk := p 2 && p 3
  let seqOk := p 56 && p 57
  (if tagOk then fieldLe task 2 2 else 0, if seqOk then fieldLe task 56 2 else 0,
    1 + 2 * b2n (!tagOk) + 4 * b2n (!seqOk))

/-- RESULT[15:8] of 0x008: words of 8 bytes wholly present (03 R79). -/
def presenceWords (presence : BitVec 64) : Nat :=
  (List.range 8).foldl (fun a i =>
    a + (if (List.range 8).all (fun j => presence.getLsbD (8 * i + j)) then 2 ^ i else 0)) 0

/-- RESULT of 0x008 (03 R79). -/
def tornResult (reason : Nat) (presence : BitVec 64) (expseq : BitVec 16) : Nat :=
  reason + 2 ^ 8 * presenceWords presence + 2 ^ 32 * expseq.toNat

/-- Latency histogram bin of a LAT value in 100 ns: bin 0 below 1 µs, bin i from 2^((i−1)/4) to 2^(i/4) µs, bin 63 the
rest (05 R161, 12 R352); the bounds are compared through fourth powers. -/
def histBin (lat : Nat) : Nat := if lat < 10 then 0 else min 63 (1 + Nat.log2 (lat ^ 4 / 10000))

/-- Key of a histogram bin: class, kind (0 read, 1 write), bin. -/
def histKey (cls kind bin : Nat) : Nat := cls * 128 + kind * 64 + bin

end Sys2Proof.Machine
end

