-- ==== Sys2Proof/Machine/VatPool.lean ====
section
/-! DEFINITION. What a block passes through: the vat's pools, buffers and waiting requests, the buffers that commands hold, and the
queues of the cipher lanes (01 R18, R19; 11 R327–R330, R340–R345). -/

namespace Sys2Proof.Machine

/-- Buffer size of a pool in bytes; 0 disables it (11 R340, R341). -/
def Vat.size (v : Vat) (n : Nat) : Nat :=
  match n with
  | 0 => 4096 | 1 => 16384 | 2 => 65536 | 3 => 262144
  | _ => 1024 * tget v.sizes n 0

/-- Buffers built in a pool (11 R340, R341). -/
def Vat.count (v : Vat) (n : Nat) : Nat :=
  match n with
  | 0 => 8192 | 1 => 2048 | 2 => 256 | 3 => 64
  | _ => if v.size n = 0 then 0 else tget v.counts n 0

/-- Key of a buffer. -/
def bufKey (pool idx : Nat) : Nat := pool * 2 ^ 22 + idx

/-- Allocated buffers of a pool. -/
def Vat.used (v : Vat) (n : Nat) : Nat := (v.bufs.filter (fun p => decide (p.1 / 2 ^ 22 = n) && p.2.alloc)).length

/-- BPM_POOL[n].FREE (11 R346). -/
def Vat.free (v : Vat) (n : Nat) : Nat := v.count n - v.used n

/-- A buffer. -/
def Vat.buf (v : Vat) (pool idx : Nat) : Buf := tget v.bufs (bufKey pool idx) {}

/-- The first free buffer of a pool from index `i`, around its end; `n` bounds the search. -/
def Vat.nextFree (v : Vat) (pool : Nat) : Nat → Nat → Nat
  | 0, i => i
  | n + 1, i => if (v.buf pool i).alloc then Vat.nextFree v pool n ((i + 1) % v.count pool) else i

/-- A requester on the read path (11 R344). -/
def onReadPath (owner : Nat) (readPath : Bool) : Bool :=
  inR 0x40 0x45 owner || owner == 0x51 || owner == 0x52 || (owner == 0x60 && readPath)

/-- A handle (11 R343). -/
def handleOf (pool idx gen : Nat) : Nat := pool * 2 ^ 29 + idx * 2 ^ 8 + gen

/-- Pool n is eligible for a request (11 R342). -/
def Vat.eligible (v : Vat) (size : Nat) (plain : Bool) (n : Nat) : Bool :=
  decide (size ≤ v.size n) && decide (v.count n ≠ 0) && (decide (n < 4) || !plain)

/-- An eligible pool has a buffer for the requester; the last free buffers of P0 are the read path's (11 R342, R344). -/
def State.poolGives (s : State) (owner : Nat) (r : BufReq) (n : Nat) : Bool :=
  s.vat.eligible r.size r.plain n &&
  (if n = 0 ∧ onReadPath owner r.readPath = false then decide (s.pf pReadReserve < s.vat.free 0)
   else decide (0 < s.vat.free n))

/-- The pool that serves a request. -/
def State.poolFor (s : State) (owner : Nat) (r : BufReq) : Option Nat :=
  (List.range 8).find? (fun n => s.poolGives owner r n)

/-- Allocate a buffer for a request of an owner; the handle of a command's own goes to the command. -/
def State.takeBuf (s : State) (owner : Nat) (r : BufReq) (pool idx : Nat) : State :=
  let b := s.vat.buf pool idx
  let h := handleOf pool idx b.gen.toNat
  let s := { s with vat := { s.vat with
      bufs := tset s.vat.bufs (bufKey pool idx) { b with alloc := true, owner := owner, data := [], side := [] }
      granted := tset s.vat.granted owner h } }
  match r.use with
  | none => s
  | some (i, k) => match s.slot i with
    | none => s
    | some x => s.setSlot i { x with bufs := tset x.bufs k h }

/-- What a FREE or GIVE finds: none where it succeeds, else the kind of its rejection (11 R344, R345). -/
def State.handleBad (s : State) (owner handle : Nat) : Option Nat :=
  let b := s.vat.buf (handle / 2 ^ 29 % 8) (handle / 2 ^ 8 % 2 ^ 21)
  if b.gen.toNat ≠ handle % 256 then some 2
  else if !b.alloc then some 0
  else if b.owner ≠ owner then some 1
  else none

/-- The requester that a freed buffer is offered to first: round-robin over the heads for which its pool serves
(11 R345). -/
def State.vatNext (s : State) (pool : Nat) : Option Nat :=
  ((List.range 128).map (fun i => (s.vat.last + 1 + i) % 128)).find? (fun o =>
    match tget s.vat.fifos o [] with
    | [] => false
    | r :: _ => s.poolGives o r pool)

/-- A requester's FIFO without its head, and what it stalled with moved up (11 R345). -/
def Vat.pop (v : Vat) (o : Nat) : Vat :=
  { v with
    fifos := tset v.fifos o ((tget v.fifos o []).drop 1 ++ (tget v.stalled o []).take 1)
    stalled := match tget v.stalled o [] with | [] => v.stalled | _ :: l => tset v.stalled o l
    last := o }

/-- Offer a freed buffer to the waiting requests (11 R345). -/
def State.vatOffer (s : State) (pool idx : Nat) : State :=
  match s.vatNext pool with
  | none => s
  | some o => match tget s.vat.fifos o [] with
    | [] => s
    | r :: _ => ({ s with vat := s.vat.pop o }).takeBuf o r pool idx

/-- Free a buffer: its generation advances, and it is offered to the waiting requests (11 R343–R345). -/
def State.freeBuf (s : State) (pool idx : Nat) : State :=
  let b := s.vat.buf pool idx
  ({ s with vat := { s.vat with
      bufs := tset s.vat.bufs (bufKey pool idx) { alloc := false, owner := 0x7F, gen := b.gen + 1 } } }).vatOffer pool idx

/-! ### Buffers of commands (01 R18, R19; log 81) -/

/-- Ask for a buffer: the first eligible pool with a free one serves the request, else it waits in its requester's FIFO; where
that is full the requester stalls with a command's request, and does not send another's (11 R342, R345). Which free buffer
of the pool is taken is open (log 11). -/
def State.vatAsk (s : State) (owner : Nat) (r : BufReq) : State :=
  match s.poolFor owner r with
  | some n =>
    let (v, s) := s.fresh
    s.takeBuf owner r n (s.vat.nextFree n (s.vat.used n + 1) (v.toNat % s.vat.count n))
  | none =>
    let q := tget s.vat.fifos owner []
    if q.length < 16 then { s with vat := { s.vat with fifos := tset s.vat.fifos owner (q ++ [r]) } }
    else if r.use.isSome then
      { s with vat := { s.vat with stalled := tset s.vat.stalled owner (tget s.vat.stalled owner [] ++ [r]) } }
    else s

/-- A command's buffer for a place has been granted. -/
def State.hasBuf (s : State) (i k : Nat) : Bool :=
  match s.slot i with
  | none => false
  | some x => (tfind x.bufs k).isSome

/-- What lands in a command's buffer, and in its side area (11 R340). -/
def State.bufFill (s : State) (i k : Nat) (data side : List Byte) : State :=
  match (s.slot i).bind (fun x => tfind x.bufs k) with
  | none => s
  | some h =>
    let b := bufKey (h / 2 ^ 29 % 8) (h / 2 ^ 8 % 2 ^ 21)
    { s with vat := { s.vat with bufs := tmod s.vat.bufs b {} (fun x => { x with data := data, side := side }) } }

/-- Give back a buffer whose data has left it (01 R18); a handle that no longer names an allocated buffer gives back none. -/
def State.bufBack (s : State) (h : Nat) : State :=
  let b := s.vat.buf (h / 2 ^ 29 % 8) (h / 2 ^ 8 % 2 ^ 21)
  if b.alloc && decide (b.gen.toNat = h % 256) then s.freeBuf (h / 2 ^ 29 % 8) (h / 2 ^ 8 % 2 ^ 21) else s

/-- A command gives back the buffer of one place. -/
def State.placeBack (s : State) (i k : Nat) : State :=
  match s.slot i with
  | none => s
  | some x => match tfind x.bufs k with
    | none => s
    | some h => (s.setSlot i { x with bufs := tdel x.bufs k }).bufBack h

/-- A command's requests that wait are withdrawn; what a requester stalled with moves up. -/
def Vat.withdraw (v : Vat) (i : Nat) : Vat :=
  let mine := fun (r : BufReq) => decide (r.use.map Prod.fst = some i)
  if (v.fifos ++ v.stalled).any (fun p => p.2.any mine) then
    let all := fun (o : Nat) => (tget v.fifos o [] ++ tget v.stalled o []).filter (fun r => !mine r)
    { v with fifos := tmap v.fifos (fun o _ => (all o).take 16), stalled := tmap v.stalled (fun o _ => (all o).drop 16) }
  else v

/-- A command's buffers go back and its requests are withdrawn (01 R18, R30). -/
def State.bufsBack (s : State) (i : Nat) (x : Slot) : State :=
  x.bufs.foldl (fun s p => s.bufBack p.2) { s with vat := s.vat.withdraw i }


/-! ### Cipher lanes (11 R327–R330) -/

/-- A lane's state. -/
def State.lane (s : State) (k : Nat) : Lane := tget s.cip.lanes k {}

/-- Change a lane. -/
def State.modLane (s : State) (k : Nat) (f : Lane → Lane) : State :=
  { s with cip := { s.cip with lanes := tset s.cip.lanes k (f (s.lane k)) } }

/-- The lane is in service. -/
def State.laneUp (s : State) (k : Nat) : Bool := decide (k < 96) && !(s.lane k).fenced

/-- The lane that serves link k's reads (11 R330), or none. -/
def State.laneRoute (s : State) (k : Nat) : Option Nat :=
  let d := k / 32
  match ((List.range 32).map (fun i => 32 * d + (k + i) % 32)).find? (fun l => s.laneUp l) with
  | some l => some l
  | none => (List.range 96).find? (fun l => s.laneUp l)

/-- A lane takes a unit in, one at a time per round core, else queues it (11 R327, R328; log 81). -/
def Lane.enter (l : Lane) (u : Nat × Nat) : Lane :=
  if l.inside.length < 2 ∧ l.fenced = false then { l with inside := l.inside ++ [u] } else { l with queue := l.queue ++ [u] }

/-- A unit leaves a lane, and the next in its queue goes in; none goes into a fenced lane. -/
def Lane.leave (l : Lane) (p : Nat × Nat → Bool) : Lane :=
  let ins := l.inside.filter (fun u => !p u)
  let q := l.queue.filter (fun u => !p u)
  let n := if l.fenced then 0 else 2 - ins.length
  { l with inside := ins ++ q.take n, queue := q.drop n }

/-- A unit goes to a lane; where no lane is in service it is refused when it reaches one (11 R330). -/
def State.enterLane (s : State) (k : Option Nat) (i idx : Nat) : State :=
  match k with
  | none => s
  | some k => s.modLane k (fun l => l.enter (i, idx))

/-- The units of a command leave their lanes. -/
def State.lanesLeave (s : State) (i : Nat) : State :=
  if s.cip.lanes.any (fun l => (l.2.inside ++ l.2.queue).any (fun u => decide (u.1 = i))) then
    { s with cip := { s.cip with lanes := tmap s.cip.lanes (fun _ l => l.leave (fun u => decide (u.1 = i))) } }
  else s

end Sys2Proof.Machine
end

