-- ==== Sys2Proof/Machine/Complete.lean ====
section
/-! DEFINITION. Completions and the abort engine as shared operations: writing an entry to a ring or log, fixing a
result, reaching a tag at its stop point, and what follows when a queue's or function's last tag has its entry
(03 R86–R92, R96, R97; 08 R220–R228). -/

namespace Sys2Proof.Machine

/-- Raise a ring's message: clears the pending count and stops the timer (03 R90). -/
def State.ringRaise (s : State) (g qid : Nat) : State :=
  match s.q g qid with
  | none => s
  | some q =>
    let s := s.modQ g qid (fun q => { q with pend := 0, timer := none, tbase := 0 })
    if q.vector = 0xFFFF then s else s.msixDue g q.vector

/-- Count one entry written and raise the message where due (03 R90, R92). -/
def State.moderate (s : State) (g qid status : Nat) : State :=
  match s.q g qid with
  | none => s
  | some q =>
    if q.vector = 0xFFFF then s
    else if status ≠ 0 ∨ q.pend + 1 ≥ q.ccount then s.ringRaise g qid
    else s.modQ g qid (fun q => { q with pend := q.pend + 1, timer := q.timer.or (some s.now) })

/-- Write one entry at TAIL, advance TAIL and the phase, and moderate (03 R64, R87, R90). -/
def State.ringWrite (s : State) (g qid tag status seq result flags lat : Nat) : State :=
  match s.q g qid with
  | none => s
  | some q =>
    let s := s.hostWrite g (q.base + q.tail * 32) (cqeBytes tag qid status seq result q.avail flags lat q.phase)
    let wrap := decide (q.tail + 1 = q.entries)
    let s := s.modQ g qid (fun q => { q with tail := if wrap then 0 else q.tail + 1, phase := q.phase != wrap })
    s.moderate g qid status

/-- Post a credit-less completion, or set SUPP (03 R79, R88). -/
def State.creditless (s : State) (g qid tag status seq result flags : Nat) : State :=
  match s.q g qid with
  | none => s
  | some q =>
    if q.hasRoom then s.ringWrite g qid tag status seq result flags 0
    else s.modQ g qid (fun q => { q with supp := true })

/-- Is the command's namespace zoned. -/
def State.cmdZoned (s : State) (x : Slot) : Bool :=
  match s.nsAny (cmdOf x.cmd).nsid with | some n => n.zoned | none => false

/-- Acceptance order: both commands stand in the store (03 R93); the 32-bit ordinals wrap. -/
def Slot.before (a b : Slot) : Bool :=
  decide (a.loc = .store ∧ a.ordinal ≠ b.ordinal ∧ (b.ordinal + 2 ^ 32 - a.ordinal) % 2 ^ 32 < 2 ^ 31)

/-- The zone sequence gives back an advance that will not be applied: the later WRITEs validated against it end at the
pointer after the blocks that it applied, or, where it ends for an earlier one's sake, after that one's (04 R117; 08 R226). -/
def State.dropAdvance (s : State) (x : Slot) : State :=
  if x.adv = 0 then s
  else
    let c := cmdOf x.cmd
    let z := zoneOfLba c.slba
    let at_ := x.cut.getD (c.slba + (c.nlb - x.adv))
    let hit := fun (y : Slot) => x.before y && decide (y.adv ≠ 0) && decide ((cmdOf y.cmd).nsid = c.nsid)
      && decide (zoneOfLba (cmdOf y.cmd).slba = z)
    let s := { s with sub := { s.sub with slots := tmap s.sub.slots (fun _ y => if hit y then { y with cut := some at_ } else y) } }
    s.modZone c.nsid z (fun z => { z with pend := z.pend - x.adv })

/-- Give back staging bytes that were reserved and not filled (01 R18). -/
def State.dropReserve (s : State) (x : Slot) : State :=
  if x.resv = 0 then s
  else
    let d := tget s.media.deckles x.resvDk {}
    { s with media := { s.media with deckles := tset s.media.deckles x.resvDk { d with staged := d.staged - x.resv } } }

/-- Fix a command's result: it is written once (08 R222). -/
def State.fix (s : State) (i status : Nat) (result : BitVec 64) : State :=
  match s.slot i with
  | none => s
  | some x =>
    if x.phase = .fixed then s
    else
      let s := (s.dropAdvance x).dropReserve x
      let s := { s with hz := hzUnwait s.hz i, sub := { s.sub with nextReady := s.sub.nextReady + 1 } }
      let s := s.setSlot i { x with phase := .fixed, status := status, result := result, readyAt := s.sub.nextReady - 1,
                                    adv := 0, resv := 0, stop := none, bufs := [] }
      (({ s with ldp := { s.ldp with jobs := s.ldp.jobs.filter (fun j => decide (j.slot ≠ i)) } }).lanesLeave i).bufsBack i x

/-- The WRITE may be staged: every earlier write of its zone's sequence is over (04 R117). -/
def State.stageTurn (s : State) (i : Nat) (x : Slot) (c : Cmd) : Bool :=
  !(s.sub.slots.any (fun p =>
    let d := cmdOf p.2.cmd
    decide (p.1 ≠ i) && p.2.before x && (d.opc == 2 || d.opc == 10) && decide (d.nsid = c.nsid)
    && decide (zoneOfLba d.slba = zoneOfLba c.slba) && decide (p.2.phase ≠ .fixed)))

/-- A WRITE or WRITE_ZEROES of a zone whose turn has come no longer stands where it was validated, or its zone has become
READ_ONLY: the status and RESULT it ends with (04 R117; 05 R146). -/
def State.stageBad (s : State) (x : Slot) (c : Cmd) : Option (Nat × BitVec 64) :=
  let zi := zoneOfLba c.slba
  let z := s.zone c.nsid zi
  if decide (z.st = .readOnly) && decide (x.mirrored = 0) then some (0x101, 0)
  else if decide (x.pieces = 0) && (x.cut.isSome || decide (c.slba ≠ zslba zi + z.wp)) then
    some (0x104, BitVec.ofNat 64 (x.cut.getD (zslba zi + z.wp)))
  else none

/-- The command's mirror writes are under way (01 R30; write trace step 10). -/
def State.mirrorRuns (s : State) (i : Nat) (x : Slot) : Bool :=
  let c := cmdOf x.cmd
  let zoned := s.cmdZoned x
  decide (x.phase = .mirror) && decide (x.mirrored.toNat ≠ allPieces (x.pieceList zoned).length) &&
  (!(zoned && decide (c.opc = 2 ∨ c.opc = 10)) || (s.stageTurn i x c && (s.stageBad x c).isNone))

/-- A step of the command that the abort engine never cuts is under way: a host DMA, a cipher unit, or a DRAM mirror write
(01 R30). -/
def State.inStep (s : State) (i : Nat) (x : Slot) : Bool :=
  x.dma || x.units.any (fun u => decide (u.2.st = .cipher)) || s.mirrorRuns i x

/-- Stop a command that was dispatched, at its stop point (08 R221 S4 or S2, R225). -/
def State.stopNow (s : State) (i status : Nat) : State :=
  match s.slot i with
  | none => s
  | some x =>
    let zoned := s.cmdZoned x
    let c := cmdOf x.cmd
    if opWrite c.opc && x.allDurable zoned then
      s.fix i 0 (if c.opc = 3 ∨ c.opc = 9 then BitVec.ofNat 64 x.landing else 0)
    else s.fix i status (outcomeFields x zoned)

/-- An action reaches a tag (08 R221): a fixed result stays, an unstarted command takes the status with OUTCOME 0, a
dispatched one stops at once or at the end of the step it is in. The first action decides (08 R222). -/
def State.mark (s : State) (status : Nat) (i : Nat) : State :=
  match s.slot i with
  | none => s
  | some x =>
    if x.phase = .fixed then s
    else if x.phase = .waiting ∨ x.phase = .hazWait then s.fix i status 0
    else if s.inStep i x then
      match x.stop with
      | some _ => s
      | none => s.setSlot i { x with stop := some status }
    else s.stopNow i status

/-- Reach every tag of a list (08 R227). -/
def State.markAll (s : State) (status : Nat) (l : List (Nat × Slot)) : State :=
  l.foldl (fun s p => s.mark status p.1) s

/-- Direct the entries of some tags to a log (08 R223); an entry already destined for a log stays there for a controller
reset, and is moved by the later action otherwise. -/
def State.redirect (s : State) (logid : Nat) (l : List (Nat × Slot)) : State :=
  l.foldl (fun s p => match s.slot p.1 with
    | some x => s.setSlot p.1 { x with logTo := some logid }
    | none => s) s

/-- Creation values of a queue's task register (03 R96). -/
def Queue.recreate (q : Queue) : Queue :=
  { q with expseq := 0, avail := q.depth, ovr := false, torn := false, chk := false, seqf := false, supp := false,
           headf := false, rejseq := 0, rejcnt := 0, dropcnt := 0, resetting := false, presence := 0, held := none,
           cnt300 := 0, cnt305 := 0 }

/-- A queue whose last tag has its entry: deletion or reset ends, with the replies (03 R96, R97; 08 R227, R232). -/
def State.settleQueue (s : State) (g qid : Nat) : State :=
  match s.q g qid with
  | none => s
  | some q =>
    if !(s.slotsOf g qid).isEmpty then s
    else if q.deleting then
      let s := { s with qs := tdel s.qs (qkey g qid) }
      let s := s.replyWaiters (.deleteQueue g qid) 0 0 (leBytes 4 q.cnt305)
      let s := s.replyWaiters (.queueReset g qid) 0 0 (leBytes 4 q.cnt300)
      s.replyWaiters (.queueResetMerged g qid) 0 0 (leBytes 4 0)
    else if q.resetting && !(s.fn g).abBusy then
      let s := s.modQ g qid Queue.recreate
      let s := s.replyWaiters (.queueReset g qid) 0 0 (leBytes 4 q.cnt300)
      s.replyWaiters (.queueResetMerged g qid) 0 0 (leBytes 4 0)
    else s

/-- The queue numbers of a function. -/
def State.queuesOf (s : State) (g : Nat) : List Nat :=
  (s.qs.filter (fun p => decide (p.1 / 4096 = g))).map (fun p => p.1 % 4096)

/-- A function whose last tag has its entry: a running abort ends (08 R228). -/
def State.settleFn (s : State) (g : Nat) : State :=
  let f := s.fn g
  if f.abBusy && (s.slotsOfFn g).isEmpty && !f.flr then
    let tags := min f.abCount 0xFFFF
    let s := s.modFn g (fun f => { f with abBusy := false, abDone := true, abTags := BitVec.ofNat 16 tags })
    let s := s.replyWaiters (.fnAbort g) 0 0 (leBytes 4 tags)
    (s.queuesOf g).foldl (fun s qid => s.settleQueue g qid) s
  else s

/-- An outcome log entry of a command (06 R185). -/
def outEntry (x : Slot) : OutEntry :=
  let c := cmdOf x.cmd
  { tag := c.tag, qid := x.qid, status := x.status, seq := c.seq, result := x.result, flags := 0, gfn := x.gfn, opc := c.opc }

/-- Append an entry to a function's log, or the PF's log for LOGID 0x06, and owe it the event of 08 R223. The event of
LOGID 0x06 is owed by the VF's own FLR, or by its PF where a VF Enable change or PF FLR makes the VF leave. -/
def State.logEntry (s : State) (logid g : Nat) (e : OutEntry) : State :=
  if logid = 6 then
    let o := if (s.fn g).leaving then s.portOf g else g
    (s.modFn (s.portOf g) (fun f => { f with log6 := f.log6 ++ [e] })).modFn o (fun f => { f with evDue := addOnce f.evDue 6 })
  else if logid = 5 then s.modFn g (fun f => { f with log5 := f.log5 ++ [e], evDue := addOnce f.evDue 5 })
  else s.modFn g (fun f => { f with log4 := f.log4 ++ [e], evDue := addOnce f.evDue 4 })

/-- Send the outcomes events owed to a function, that of LOGID 0x06 to its PF (08 R223, code 0x07). -/
def State.outcomesEvents (s : State) (g : Nat) : State :=
  let due := (s.fn g).evDue
  let s := s.modFn g (fun f => { f with evDue := [] })
  due.foldl (fun s l => s.asyncPost (if l = 6 then s.portOf g else g) 0x07 0 l 0) s

/-- Remove a command: its credit returns, its in-flight entries go, and it leaves the landing FIFO or task register
(03 R80; 14 R399; 01 R18). -/
def State.retire (s : State) (i : Nat) (x : Slot) : State :=
  let p := s.portOf x.gfn
  let s := { s with sub := { s.sub with
    slots := tdel s.sub.slots i
    landing := tset s.sub.landing p ((tget s.sub.landing p []).filter (· ≠ i)) } }
  let s := s.modQ x.gfn x.qid (fun q => { q with held := if q.held = some i then none else q.held })
  x.hz.foldl (fun s h => s.hzRemove h) s

/-- Count a completion in its class histogram (05 R161): READ and VERIFY, or the write types, abort statuses left out. -/
def State.histAdd (s : State) (x : Slot) : State :=
  let o := (cmdOf x.cmd).opc
  if x.status < 0x300 ∧ (opReads o = true ∨ opWrite o = true) then
    let k := histKey x.cls (if opReads o then 0 else 1) (histBin (s.lat x.acceptAt))
    { s with hist := tset s.hist k (tget s.hist k 0 + 1) }
  else s

/-- Count an entry for the action that waits for it (06 R177, 07 R205, 08 R228). -/
def State.countEntry (s : State) (x : Slot) : State :=
  let s := s.modQ x.gfn x.qid (fun q => { q with
    cnt300 := if x.status = 0x300 then q.cnt300 + 1 else q.cnt300
    cnt305 := if x.status = 0x305 then q.cnt305 + 1 else q.cnt305 })
  s.modFn x.gfn (fun f => { f with
    abCount := if x.status = 0x301 ∧ f.abBusy = true then f.abCount + 1 else f.abCount
    quCount := if f.vf = .quiesced ∧ f.flr = false then f.quCount + 1 else f.quCount })

/-- Issue the completion entry of a command whose result is fixed (03 R80, R86–R88; 08 R223). -/
def State.issue (s : State) (i : Nat) (x : Slot) : State :=
  let c := cmdOf x.cmd
  let s := s.histAdd x
  let s := s.modQ x.gfn x.qid (fun q => { q with avail := q.avail + 1 })
  let s := match x.logTo with
    | some l => s.logEntry l x.gfn (outEntry x)
    | none => s.ringWrite x.gfn x.qid c.tag x.status c.seq x.result.toNat 0 (s.lat x.acceptAt)
  let s := s.countEntry x
  let s := s.retire i x
  (s.settleQueue x.gfn x.qid).settleFn x.gfn

/-- The command is the first of its ring in the order in which entries became ready (03 R88). -/
def State.firstReady (s : State) (i : Nat) (x : Slot) : Bool :=
  (s.slotsOf x.gfn x.qid).all (fun p => decide (p.1 = i) || decide (p.2.phase ≠ .fixed) || decide (p.2.logTo.isSome)
    || decide (x.readyAt ≤ p.2.readyAt))

end Sys2Proof.Machine
end

