-- ==== Sys2Proof/Machine/FrontEnd.lean ====
section
/-! DEFINITION. Task registers, seals, landing, completion entries, interrupts and the queue page's registers
(02 R45, R51, R52; 03 R66–R92, R96). -/

namespace Sys2Proof.Machine

/-- The answer of a command: its next state. -/
abbrev Res := Host.Outcome State Fault Refusal

/-- The posted writes of a link group that wait behind TASK bytes, oldest first (03 R84). -/
def State.stalledOf (s : State) (p : Nat) : List Instr := tget s.sub.stalled p []

/-- Set the posted writes of a link group that wait. -/
def State.setStalled (s : State) (p : Nat) (l : List Instr) : State :=
  { s with sub := { s.sub with stalled := tset s.sub.stalled p l } }

/-- The task register of a queue takes no bytes: its last command has not left it (03 R84). -/
def State.taskFull (s : State) (g qid : Nat) : Bool :=
  s.reach g && s.intakeMode && (match s.q g qid with | some q => q.held.isSome | none => false)

/-- A posted write of a function takes effect; one for a full task register waits, and so does every later one of the link
group, in PCIe order (03 R84, R85). -/
def State.posted (s : State) (g : Nat) (i : Instr) (full : Bool) (t : State) : State :=
  if full || (s.reach g && !(s.stalledOf (s.portOf g)).isEmpty) then
    s.setStalled (s.portOf g) (s.stalledOf (s.portOf g) ++ [i])
  else t

/-- A write of TASK bytes reaches a task register: BAR2/3 is reached and the queue exists (02 R47; 03 R66). Otherwise it is
dropped, with NOQ where no queue exists. -/
def State.taskAccess (s : State) (g qid off : Nat) (f : Queue → State) : State :=
  if !(s.reach g && s.intakeMode) then s.barWake g s
  else match s.q g qid with
    | none => s.errAccess g 1 2 (qid * 4096 + off)
    | some q => f q

/-- Store bytes in a task register and set their presence bits; offsets above 63 are dropped (03 R66, R71). -/
def storeTask (q : Queue) (bytes : List (Nat × Byte)) : Queue :=
  bytes.foldl (fun q p =>
    if p.1 < 64 then { q with task := q.task.set p.1 p.2, presence := q.presence ||| (1#64 <<< p.1) } else q) q

/-- The queue is open for intake (03 R74); the mode is checked where the write arrives. A dump takes nothing in (log 41). -/
def State.openFor (s : State) (g : Nat) (q : Queue) : Bool :=
  let f := s.fn g
  !q.resetting && !q.deleting && !f.abBusy && !f.flr && decide (f.vf ≠ .quiesced) && !s.pwr.dumping

/-- A rejection with 0x008 or 0x009: flags, REJSEQ, REJCNT and the credit-less completion (03 R73, R79). -/
def State.rejectSeal (s : State) (g qid : Nat) (q : Queue) (status result : Nat) (seqBit : Bool) : State :=
  let (tag, seq, flags) := rejEcho q.task q.presence
  let s := s.modQ g qid (fun q => { q with
    torn := q.torn || decide (status = 0x008), chk := q.chk || decide (status = 0x009), seqf := q.seqf || seqBit,
    rejseq := BitVec.ofNat 16 seq, rejcnt := satInc q.rejcnt })
  let s := if status = 0x008 then s.errSet g 4 else s
  s.creditless g qid tag status seq result flags

/-- The tenant class a command carries, fixed at acceptance (01 R11, 04 R102); a NOP ignores TCOVR (04 R128). -/
def State.acceptClass (s : State) (g : Nat) (c : Cmd) : Nat :=
  if s.isPf g && c.opc != 15 && bitN c.tcovr 7 && s.pv (pCls (c.tcovr % 64) 0) == 1 then c.tcovr % 64 else s.tclass g

/-- Acceptance: a credit is taken, EXPSEQ advances, the tag is checked (03 R73, R80, R83). The settings of the recovery
ladder and the class's latency target apply as they stand now, and changed settings count from here (01 R10). -/
def State.accept (s : State) (g qid : Nat) (q : Queue) : State :=
  let c := cmdOf q.task
  let dup := (s.slotsOf g qid).any (fun p => decide ((cmdOf p.2.cmd).tag = c.tag))
  let i := tfree s.sub.slots 65536 0
  let x : Slot := { cmd := q.task, gfn := g, qid := qid, cls := s.acceptClass g c, acceptAt := s.now,
                    arrived := s.sub.accepts, retryMax := s.pv pRetryMax, relocRung := s.pv pRelocRung,
                    latTgt := s.clsTarget (s.acceptClass g c) }
  let s := { s with sub := { s.sub with accepts := s.sub.accepts + 1 }, par := { s.par with old := [] } }
  let s := s.modQ g qid (fun q => { q with avail := q.avail - 1, expseq := q.expseq + 1, held := some i })
  let s := s.setSlot i x
  if dup then s.fix i 0x003 0 else s

/-- The seal evaluation in the order of 03 R73; the presence mask is cleared whatever the outcome. -/
def State.evalSeal (s : State) (g qid : Nat) (q : Queue) : State :=
  let seq := fieldLe q.task 56 2
  let reason :=
    if fieldLe q.task 58 1 ≠ 0x5C then 3
    else if q.presence ≠ BitVec.allOnes 64 then 1
    else if seq ≠ q.expseq.toNat then 2 else 0
  let crc := (crc16 (q.task.take 56)).toNat
  let chk := fieldLe q.task 60 2
  let s :=
    if !(s.openFor g q) then s
    else if reason ≠ 0 then s.rejectSeal g qid q 0x008 (tornResult reason q.presence q.expseq) (decide (reason = 2))
    else if q.chken && decide (chk ≠ crc) then s.rejectSeal g qid q 0x009 (crc + 2 ^ 16 * chk) false
    else if q.avail = 0 then
      (s.modQ g qid (fun q => { q with ovr := true, dropcnt := satInc q.dropcnt, rejseq := BitVec.ofNat 16 seq })).errSet g 3
    else s.accept g qid q
  s.modQ g qid (fun q => { q with presence := 0 })

/-- A posted write to TASK: bytes are stored, and a write that includes byte 58 is the seal event (03 R71, R73). -/
def State.taskPost (s : State) (g qid : Nat) (bytes : List (Nat × Byte)) : State :=
  s.taskAccess g qid ((bytes.head?.map Prod.fst).getD 0) (fun q =>
    let q := storeTask q bytes
    let s := s.modQ g qid (fun _ => q)
    if bytes.any (fun p => decide (p.1 = 58)) then s.evalSeal g qid q else s)

/-- TASK_WRITE (03 R71). -/
def execTaskWrite (g qid : Nat) (bytes : List (Nat × Byte)) (s : State) : Res :=
  .next (s.posted g (.taskWrite g qid bytes) (s.taskFull g qid) (s.taskPost g qid bytes))

/-- SEAL (03 R73). -/
def execSeal (g qid : Nat) (bytes : List (Nat × Byte)) (s : State) : Res :=
  .next (s.posted g (.seal g qid bytes) (s.taskFull g qid) (s.taskPost g qid bytes))

/-- The landing FIFOs drain except during a controller reset or PERST# (03 R85); commands accepted before a dormant entry
run in its first steps (16 R439), and none starts a step once PFAIL# is sampled (08 R233). -/
def State.landingRuns (s : State) : Bool := !s.mode.booting && (!s.mode.dormant || s.entering) && !s.pwr.pfailLow

/-- The first non-empty landing FIFO after the one served last (03 R85). -/
def arbPick (t : Tbl (List Nat)) (last : Nat) : Option Nat :=
  ((List.range 8).map (fun i => (last + 1 + i) % 8)).find? (fun p => !(tget t p []).isEmpty)

/-- LANDING_ARBITER (03 R85, R93). -/
def execLandingArbiter (s : State) : Res :=
  .next (if !s.landingRuns then s else
    match arbPick s.sub.landing s.sub.arbLast with
    | none => s
    | some p => match tget s.sub.landing p [] with
      | [] => s
      | i :: r =>
        let sub := { s.sub with landing := tset s.sub.landing p r, arbLast := p, nextOrd := s.sub.nextOrd + 1 }
        match s.slot i with
        | none => { s with sub := sub }
        | some x => ({ s with sub := sub }).setSlot i { x with loc := .store, ordinal := s.sub.nextOrd.toNat })

/-- COALESCING_TIMER_EXPIRY (03 R90). -/
def execCoalescingTimerExpiry (g qid : Nat) (s : State) : Res :=
  .next (match s.q g qid with
    | none => s
    | some q => if q.timer.isSome && decide (q.vector ≠ 0xFFFF) then s.ringRaise g qid else s)

/-- IRQ_GAP_EXPIRY (02 R52): the interval ends, and a delayed message is sent. -/
def execIrqGapExpiry (g v : Nat) (s : State) : Res :=
  let e := (s.fn g).vec v
  .next (if !e.gap then s
    else
      let s := s.modFn g (fun f => f.modVec v (fun e => { e with gap := false, delayed := false }))
      if e.delayed then s.msixDue g v else s)

/-- Send what a vector held while masked (02 R51). -/
def State.releaseVec (s : State) (g v : Nat) : State :=
  if ((s.fn g).vec v).pba then s.msixDue g v else s

/-- A vector's mask bit, or the function mask, is cleared (02 R51). -/
def State.unmask (s : State) (g : Nat) (vec : Option Nat) : State :=
  match vec with
  | some v =>
    if v ≤ s.vectors g then (s.modFn g (fun f => f.modVec v (fun e => { e with mask := false }))).releaseVec g v else s
  | none =>
    let s := s.modFn g (fun f => { f with fmask := false })
    (s.fn g).vecs.foldl (fun s p => s.releaseVec g p.1) s

/-- MSIX_UNMASK (02 R51): of one vector, or of the function mask. -/
def execMsixUnmask (g : Nat) (vec : Option Nat) (s : State) : Res :=
  .next (if !s.reach g then s
    else s.posted g (.msixUnmask g vec) false (s.barWake g (s.unmask g vec)))

/-- A write to a queue page's register: the function answers, the mode takes it, the queue exists (02 R47, 01 R13). -/
def State.pageWrite (s : State) (g qid off : Nat) (f : Queue → State) : State :=
  if !(s.reach g && s.intakeMode) then s.barWake g s
  else match s.q g qid with
    | none => s.errAccess g 1 2 (qid * 4096 + off)
    | some q => f q

/-- A CR_HEAD value is valid (03 R89). -/
def headValid (q : Queue) (h : Nat) : Bool :=
  decide (h < q.entries) && decide ((h + q.entries - q.head) % q.entries ≤ q.unconsumed)

/-- A write of CR_HEAD (03 R89, R91). -/
def State.crHeadPost (s : State) (g qid value : Nat) : State :=
  let h := value % 65536
  s.pageWrite g qid 0x80 (fun q =>
    if headValid q h then
      s.modQ g qid (fun q =>
        let q := { q with head := h }
        if q.unconsumed = 0 then { q with pend := 0, timer := none, tbase := 0 } else q)
    else s.modQ g qid (fun q => { q with headf := true }))

/-- CR_HEAD_WRITE (03 R89, R91). -/
def execCrHeadWrite (g qid value : Nat) (s : State) : Res :=
  .next (s.posted g (.crHeadWrite g qid value) false (s.crHeadPost g qid value))

/-- Start a queue reset: intake closes and every tag of the queue is reached with 0x300 (03 R96, 08 R227). -/
def State.startQueueReset (s : State) (g qid : Nat) : State :=
  let s := s.modQ g qid (fun q => { q with resetting := true, presence := 0, cnt300 := 0 })
  (s.markAll 0x300 (s.slotsOf g qid)).settleQueue g qid

/-- A write of TQ_RESET (03 R70, R96): dropped while a reset runs. -/
def State.tqResetPost (s : State) (g qid value : Nat) : State :=
  s.pageWrite g qid 0xC0 (fun q =>
    if bitN value 0 && !q.resetting && !q.deleting then s.startQueueReset g qid else s)

/-- TQ_RESET_WRITE (03 R70, R96). -/
def execTqResetWrite (g qid value : Nat) (s : State) : Res :=
  .next (s.posted g (.tqResetWrite g qid value) false (s.tqResetPost g qid value))

/-- Start a function abort: BUSY sets and DONE clears in one update, and every tag is reached with 0x301 (02 R45,
08 R228). -/
def State.startFnAbort (s : State) (g : Nat) (origin : BitVec 2) : State :=
  let s := s.modFn g (fun f => { f with abBusy := true, abDone := false, abOrigin := origin, abCount := 0, abTags := 0 })
  (s.markAll 0x301 (s.slotsOfFn g)).settleFn g

/-- A write of FN_ABORT (02 R45): GO starts an abort, is dropped while one or an FLR runs; another value sets BADWR. In
DORMANT every write is dropped (02 R61). -/
def State.fnAbortPost (s : State) (g value : Nat) : State :=
  if !s.reach g || decide (s.modeOf = 5) then s.barWake g s
  else if value % 2 ^ 32 ≠ 0xAB070001 then s.errAccess g 9 0 0x40
  else if (s.fn g).abBusy || (s.fn g).flr then s
  else s.startFnAbort g 0

/-- FN_ABORT_WRITE (02 R45). -/
def execFnAbortWrite (g value : Nat) (s : State) : Res :=
  .next (s.posted g (.fnAbortWrite g value) false (s.fnAbortPost g value))

end Sys2Proof.Machine
end

