-- ==== Sys2Proof/Machine/LedgerOps.lean ====
section
/-! DEFINITION. The Camrek ledger's shared operations: record layout, chain, folding, flood control, the program stage,
seals (15 R420–R432). -/

namespace Sys2Proof.Machine

/-- 16 bytes, cut or padded (log 13: SHA-384 stays opaque, so its length is not known). -/
def first16 (l : List Byte) : List Byte := padTo 16 l

/-- REPEAT with n bits programmed from the lowest (15 R424). -/
def repBytes (n : Nat) : List Byte := leBytes 4 (0xFFFFFFFF - (2 ^ n - 1))

/-- Bytes 1–43 of a record (15 R421). -/
def ledBody (code boot rtc seq : Nat) (arg : List Byte) : List Byte :=
  leBytes 1 1 ++ leBytes 2 code ++ leBytes 4 boot ++ leBytes 6 rtc ++ zeros 2 ++ leBytes 4 seq ++ padTo 24 arg

/-- ASCII bytes. -/
def ascii (t : String) : List Byte := t.toList.map (fun c => BitVec.ofNat 8 c.toNat)

/-- LINK before the first record ever (15 R423). -/
def ledGenesis (serial : List Byte) : List Byte := first16 (Config.sha384 (ascii "HLS-GENESIS" ++ serial))

/-- The head's LINK and REPEAT (15 R423). -/
def Led.headLink (l : Led) (serial : List Byte) : List Byte := if l.any then l.link else ledGenesis serial

/-- REPEAT of the chain head. -/
def Led.headRep (l : Led) : List Byte := if l.any then repBytes l.reps else repBytes 0

/-- SEQ of the next chain record (15 R421). -/
def Led.nextSeq (l : Led) : Nat := if l.any then l.seq + 1 else 0

/-- Logical index of the next slot (15 R430). -/
def Led.head (l : Led) : Nat := l.slots.length

/-- Class of a code (15 R426). -/
def ledClass (code : Nat) : Nat := code / 4096 % 16

/-- ARG of a REPEAT_OVERFLOW for an event (15 R426). -/
def overArg (code : Nat) (arg : List Byte) : List Byte := padTo 24 (leBytes 2 code ++ arg.take 22)

/-- An event is the one the head record stands for (15 R424). -/
def Led.matchesHead (l : Led) (e : LedEv) : Bool :=
  l.any && !l.sealed &&
  (decide (l.code = e.code ∧ l.arg = padTo 24 e.arg) || decide (l.code = 0xF005 ∧ l.arg = overArg e.code e.arg))

/-- Depth of a class bucket (15 R427). -/
def State.ledBurst (s : State) (f : Nat) : Nat := s.pv (pLedBurst f)

/-- Tokens of a class; a bucket not yet used is full. -/
def State.ledTokens (s : State) (f : Nat) : Nat := tget s.led.tokens f (s.ledBurst f)

/-- Classes that are never limited (15 R427). -/
def ledFree (f : Nat) : Bool := f == 0 || f == 15

/-- Count a dropped event (15 R427, R428, R430). -/
def State.ledDrop (s : State) (code src n : Nat) : State :=
  let f := ledClass code
  { s with led := { s.led with
      drops := tset s.led.drops f (min 255 (tget s.led.drops f 0 + n)), dropTotal := s.led.dropTotal + n, dropSrc := src,
      dropCnt := satAdd s.led.dropCnt n } }

/-- ARG of an OVERFLOW record (15 R426). -/
def overflowArg (src total : Nat) (per : Tbl Nat) : List Byte :=
  leBytes 4 src ++ leBytes 4 total ++ ((List.range 16).map (fun f => BitVec.ofNat 8 (min 255 (tget per f 0))))

/-- The reserve at the end of the ring takes classes 0x0, 0x1 and 0xF only, and a full ring none (15 R420). -/
def Led.takes (l : Led) (f : Nat) : Bool :=
  decide (l.head < 260096) || (decide (l.head < 261120) && (f == 0 || f == 1 || f == 15))

/-- Health events of ledger use (15 R420; 06 R186). -/
def State.ledHealth (s : State) : State :=
  let h := s.led.head
  let lvl := if 235008 ≤ h then 2 else if 195840 ≤ h then 1 else 0
  if s.led.health < lvl then
    let s := { s with led := { s.led with
      health := lvl
      stage := s.led.stage ++ [({ code := 0x6003, arg := leBytes 4 4 ++ leBytes 4 h } : LedEv)] } }
    s.healthEvent
  else s

/-- The ring is full: LIMITED.LEDGER until a clear (15 R420). -/
def State.ledFullCheck (s : State) : State :=
  if 261120 ≤ s.led.head ∧ s.led.full = false then
    s.watching (fun s => { s with led := { s.led with full := true }, glb := { s.glb with ledger := true } })
  else s

/-- The two slots of a BOOT_SEAL, outside the chain (15 R425). -/
def State.sealWrite (s : State) (reason : Nat) : State :=
  let l := s.led
  let rA := leBytes 4 l.boot ++ leBytes 4 l.seq
  let sA := leBytes 4 s.rtc ++ leBytes 2 (s.rtc / 2 ^ 32) ++ leBytes 1 reason ++ zeros 1
  let sig := padTo 96 (Config.deviceSign (ascii "HLS-SEAL" ++ s.fst.fuses.serial ++ rA ++ sA
    ++ l.headLink s.fst.fuses.serial ++ l.headRep))
  let r := [0x3C#8] ++ leBytes 1 1 ++ leBytes 2 0xF002 ++ rA ++ sig.take 48 ++ repBytes 0
  let t := [0x3C#8] ++ leBytes 1 1 ++ leBytes 2 0xF003 ++ sA ++ sig.drop 48 ++ repBytes 0
  let s := { s with led := { l with slots := t :: r :: l.slots, sealed := true } }
  s.ledFullCheck.ledHealth

/-- Start the program of an event: a staged seal, a fold, a new record, or a drop (15 R424, R425, R427, R428). -/
def State.ledStart (s : State) (e : LedEv) : State :=
  let l := s.led
  if e.code = 0xF002 then s.sealWrite (byteAt e.arg 0)
  else if l.matchesHead e && decide (l.reps < 32) then { s with led := { l with prog := some e } }
  else
    let e := if l.matchesHead e then { e with code := 0xF005, arg := if e.code = 0xF005 then e.arg else overArg e.code e.arg } else e
    let f := ledClass e.code
    if !l.takes f then s.ledDrop e.code 2 e.tally
    else if ledFree f || e.paid then { s with led := { l with prog := some e } }
    else
      let t := s.ledTokens f
      if t = 0 then s.ledDrop e.code 0 e.tally
      else
        -- the token pays for the OVERFLOW report first where one is owed
        if tget l.drops f 0 ≠ 0 then
          { s with led := { l with
              tokens := tset l.tokens f (t - 1), stage := e :: l.stage, drops := [], dropTotal := 0,
              prog := some { code := 0xF004, arg := overflowArg l.dropSrc l.dropTotal l.drops } } }
        else { s with led := { l with tokens := tset l.tokens f (t - 1), prog := some e } }

/-- Take stage entries in order until one is programming (15 R428). -/
def State.ledPump : Nat → State → State
  | 0, s => s
  | n + 1, s =>
    match s.led.prog with
    | some _ => s
    | none => match s.led.stage with
      | [] => s
      | e :: r => State.ledPump n (({ s with led := { s.led with stage := r } }).ledStart e)

/-- Take the next stage entries; a freeze stops commits (15 R430). -/
def State.ledNext (s : State) : State := if s.led.frozen then s else s.ledPump (s.led.stage.length + 1)

/-- Tally an event in a stage, or append it (15 R428, R430). -/
def tallyIn (l : List LedEv) (code : Nat) (arg : List Byte) : List LedEv :=
  match l with
  | [] => [{ code := code, arg := arg }]
  | e :: r => if e.code = code ∧ padTo 24 e.arg = padTo 24 arg then { e with tally := e.tally + 1 } :: r
      else e :: tallyIn r code arg

/-- Append events to the freeze stage. -/
def State.ledHold (s : State) (es : List LedEv) : State := { s with led := { s.led with fstage := s.led.fstage ++ es } }

/-- Set the tokens of a class. -/
def State.setTokens (s : State) (f n : Nat) : State := { s with led := { s.led with tokens := tset s.led.tokens f n } }

/-- A new event of a limited class while frozen takes its token at once; one that is owed an OVERFLOW report stages that
first, at the price of a token (15 R427, R430). -/
def State.ledHoldPaid (s : State) (e : LedEv) : State :=
  let f := ledClass e.code
  let t := s.ledTokens f
  if t = 0 then s.ledDrop e.code 0 1
  else if tget s.led.drops f 0 ≠ 0 then
    let ov : LedEv := { code := 0xF004, arg := overflowArg s.led.dropSrc s.led.dropTotal s.led.drops, paid := true }
    let s := ({ s with led := { s.led with drops := [], dropTotal := 0 } }).ledHold [ov]
    if t = 1 then (s.setTokens f 0).ledDrop e.code 0 1 else (s.setTokens f (t - 2)).ledHold [e]
  else (s.setTokens f (t - 1)).ledHold [e]

/-- An event while frozen: folds, takes a token, or counts as dropped (15 R430). -/
def State.ledFrozen (s : State) (code : Nat) (arg : List Byte) : State :=
  let l := s.led
  let st := tallyIn l.fstage code arg
  let f := ledClass code
  let e : LedEv := { code := code, arg := arg, paid := true }
  if st.length = l.fstage.length then { s with led := { l with fstage := st } }
  else if l.fstage.length ≥ 1024 then
    { s with led := { l with fdrops := tset l.fdrops f (tget l.fdrops f 0 + 1), fdropTotal := l.fdropTotal + 1,
                             dropCnt := satInc l.dropCnt } }
  else if ledFree f || (l.fstage.isEmpty && l.stage.isEmpty && l.matchesHead e) then s.ledHold [e]
  else s.ledHoldPaid e

/-- A ledger event (15 R424, R427, R428, R430). -/
def State.ledEvent (s : State) (code : Nat) (arg : List Byte) : State :=
  if s.led.frozen then s.ledFrozen code arg
  else match s.led.prog with
    | some _ =>
      let st := tallyIn s.led.stage code arg
      if 64 < st.length then s.ledDrop code 1 1 else { s with led := { s.led with stage := st } }
    | none => ({ s with led := { s.led with stage := s.led.stage ++ [({ code := code, arg := arg } : LedEv)] } }).ledNext

/-- Append the slot of a chain record (15 R421, R423). -/
def State.ledAppend (s : State) (code : Nat) (arg : List Byte) : State :=
  let l := s.led
  let body := ledBody code l.boot s.rtc l.nextSeq arg
  let link := first16 (Config.sha384 (l.headLink s.fst.fuses.serial ++ l.headRep ++ body))
  let slot := [0x3C#8] ++ body ++ link ++ repBytes 0
  let s := { s with led := { l with slots := slot :: l.slots, seq := l.nextSeq, any := true, link := link, reps := 0, code := code,
                                    arg := padTo 24 arg, sealed := false, torn := 0 } }
  s.ledFullCheck.ledHealth

/-- Program one repeat bit of the head record (15 R424). -/
def State.ledRepeat (s : State) : State :=
  let l := s.led
  { s with led := { l with reps := l.reps + 1, slots := match l.slots with
      | h :: r => (h.take 60 ++ repBytes (l.reps + 1)) :: r
      | [] => [] } }

/-- A torn slot (15 R422): VALID reads 0x00. -/
def State.ledTorn (s : State) (e : LedEv) : State :=
  let l := s.led
  let body := ledBody e.code l.boot s.rtc l.nextSeq e.arg
  let slot := [0x00#8] ++ body ++ first16 (Config.sha384 (l.headLink s.fst.fuses.serial ++ l.headRep ++ body)) ++ repBytes 0
  let s := { s with led := { l with slots := slot :: l.slots, torn := l.torn + 1 } }
  if s.led.torn = 3 then
    s.watching (fun s => { s with led := { s.led with fail := true, prog := none }, glb := { s.glb with ledger := true } })
  else s

/-- A record or repeat bit finished programming (15 R422, R428). -/
def State.ledDone (s : State) (ok : Bool) : State :=
  match s.led.prog with
  | none => s
  | some e =>
    let fold := s.led.matchesHead e && decide (s.led.reps < 32)
    if !ok && !fold then s.ledTorn e
    else
      let s := if fold then s.ledRepeat else s.ledAppend e.code e.arg
      let s := { s with led := { s.led with prog := none } }
      let s := if 1 < e.tally then s.ledStart { e with tally := e.tally - 1 } else s
      s.ledNext

/-- Finish every program that is under way or staged. -/
def State.ledDrain : Nat → State → State
  | 0, s => s
  | n + 1, s => match s.led.prog with | none => s | some _ => State.ledDrain n (s.ledDone true)

/-- Number of program operations that the stage still needs, at most. -/
def Led.work (l : Led) : Nat :=
  (match l.prog with | some e => 2 * e.tally | none => 0) + l.stage.foldl (fun a e => a + 2 * e.tally + 2) 0 + 4

/-- Commit the program stage (15 R432 step 4). -/
def State.ledFlush (s : State) : State := (s.ledNext).ledDrain s.led.work

/-- Commit a record before the message that caused it replies (15 R426); staged while frozen. -/
def State.ledCommit (s : State) (code : Nat) (arg : List Byte) : State :=
  if s.led.frozen then s.ledFrozen code arg else (s.ledFlush.ledEvent code arg).ledFlush

/-- A BOOT_SEAL with a reason, after the program stage; staged while frozen (15 R425, R430). -/
def State.bootSeal (s : State) (reason : Nat) : State :=
  if s.led.frozen then s.ledHold [{ code := 0xF002, arg := leBytes 1 reason, paid := true }] else s.ledFlush.sealWrite reason

/-- Stop commits (15 R430). -/
def State.ledFreeze (s : State) : State := { s with led := { s.led with frozen := true }, fst := { s.fst with freezeCell := true } }

/-- Commit the freeze stage in order, then one OVERFLOW with source 1 where events were dropped (15 R430). -/
def State.ledThaw (s : State) : State :=
  if !s.led.frozen then s
  else
    let total := s.led.fdropTotal
    let per := s.led.fdrops
    let s := { s with
      led := { s.led with frozen := false, stage := s.led.stage ++ s.led.fstage, fstage := [], fdrops := [], fdropTotal := 0 }
      fst := { s.fst with freezeCell := false } }
    let s := s.ledFlush
    if total = 0 then s else (s.ledEvent 0xF004 (overflowArg 1 total per)).ledFlush

end Sys2Proof.Machine
end

