-- ==== Sys2Proof/Machine/MediaOps.lean ====
section
/-! DEFINITION. Shared operations over zones and media: journal records, ream formation and release, reservations, zone
changes, limits, locations, staging (05 R136–R157, R481; 09 R239–R269). -/

namespace Sys2Proof.Machine

/-! ### Deckles, links, blocks -/

/-- A deckle's state. -/
def State.dk (s : State) (d : Nat) : Deckle := tget s.media.deckles d {}

/-- Change a deckle. -/
def State.modDk (s : State) (d : Nat) (f : Deckle → Deckle) : State :=
  { s with media := { s.media with deckles := tset s.media.deckles d (f (s.dk d)) } }

/-- A media link. -/
def State.link (s : State) (k : Nat) : Link := tget s.links k {}

/-- Change a media link. -/
def State.modLink (s : State) (k : Nat) (f : Link → Link) : State := { s with links := tset s.links k (f (s.link k)) }

/-- A change recorded in a deckle's media journal (09 R246). -/
def State.jrec (s : State) (d : Nat) : State := s.modDk d (fun x => { x with jseq := x.jseq + 1, jbuf := x.jbuf + 1 })

/-- Key of an erase block by link, die and block (09 R244). -/
def blockKey (link die blk : Nat) : Nat := link * 2 ^ 20 + die * 2 ^ 13 + blk

/-- An erase block's record: 7,680 usable, 448 spare and 64 SLC system blocks of each die (09 R240). -/
def State.mblk (s : State) (k : Nat) : MBlk :=
  let r : BlkSt := if k % 8192 < 7680 then .free else if k % 8192 < 8128 then .spare else .system
  tget s.media.mblks k { st := r, role := r }

/-- Change an erase block. -/
def State.modBlk (s : State) (k : Nat) (f : MBlk → MBlk) : State :=
  { s with media := { s.media with mblks := tset s.media.mblks k (f (s.mblk k)) } }

/-- A block's erase has verified: it is counted, and its header page holds a new STAMP alone (09 R242, R254). It joins the free
blocks of its kind. -/
def State.blkErased (s : State) (k : Nat) : State :=
  let seq := (s.dk (k / 2 ^ 25)).jseq
  s.modBlk k (fun b => { st := b.role, role := b.role, erases := b.erases + 1, serases := b.erases + 1, eseq := seq })

/-- The block joins a ream: its OWNER record is programmed (09 R242). -/
def State.blkJoin (s : State) (k id pos : Nat) (r : Ream) : State :=
  s.modBlk k (fun b => { b with
    st := .inReam, stamped := true
    owner := some { ream := id, pos := pos, kind := r.kind, grp := r.grp, nsid := r.nsid, zslba := r.zslba, epoch := r.epoch } })

/-- The CLOSE records of a ream are programmed (09 R242). QUIRES is 1 to 256: a ream without a quire gets none (DESIGN CHOICE,
log 90). -/
def State.reamClose (s : State) (id quires : Nat) : State :=
  match tfind s.media.reams id with
  | none => s
  | some r => if quires = 0 then s else r.entries.foldl (fun s e => match e with
    | some k => s.modBlk k (fun b => { b with close := some (id, r.epoch, quires) })
    | none => s) s

/-- The die is not retired. -/
def State.dieOk (s : State) (link die : Nat) : Bool := !(tget (s.link link).dies die {}).retired

/-- The lowest block of a die from `b`, below `hi`, that is not listed; `n` bounds the search. -/
def unlisted (t : Tbl MBlk) (hi : Nat) : Nat → Nat → Nat → Option Nat
  | 0, _, _ => none
  | n + 1, base, b =>
    if hi ≤ b then none else match tfind t (base + b) with | none => some (base + b) | some _ => unlisted t hi n base (b + 1)

/-- The listed blocks of a link. -/
def State.listedBlks (s : State) (link : Nat) : Tbl MBlk :=
  s.media.mblks.filter (fun p => decide (p.1 / 2 ^ 20 = link))

/-- The first die, from `d`, with a block of the given range that was never used. -/
def State.freshBlk (s : State) (link lo hi : Nat) : Nat → Nat → Option Nat
  | 0, _ => none
  | n + 1, d =>
    let fuel := (s.listedBlks link).length + 1
    if s.dieOk link d then
      match unlisted s.media.mblks hi fuel (blockKey link d 0) lo with
      | some k => some k
      | none => State.freshBlk s link lo hi n (d + 1)
    else State.freshBlk s link lo hi n (d + 1)

/-- The listed block that a test admits with the fewest erases, or the most, lowest key first. -/
def pickBlk (l : Tbl MBlk) (ok : Nat → MBlk → Bool) (most : Bool) : Option Nat :=
  (l.foldl (fun (best : Option (Nat × Nat)) p =>
    if ok p.1 p.2 then match best with
      | none => some (p.1, p.2.erases)
      | some (k, e) => if (if most then decide (e < p.2.erases) else decide (p.2.erases < e)) then some (p.1, p.2.erases)
          else some (k, e)
    else best) none).map Prod.fst

/-- A stamped free block of a link: fewest erases, or the most for a wear-levelling target (09 R254, R257). A block that
was never used stands at 0 erases, and a link whose FAULT hold is over has none (10 R311). -/
def State.pickFree (s : State) (link : Nat) (most : Bool) : Option Nat :=
  let l := s.listedBlks link
  let ok := fun k (b : MBlk) => decide (b.st = .free) && b.asStamped && s.dieOk link (k / 8192 % 128)
  if (s.link link).faultOver then none
  else if most then (match pickBlk l ok true with | some k => some k | none => s.freshBlk link 0 7680 128 0)
  else match s.freshBlk link 0 7680 128 0 with
    | some k => some k
    | none => pickBlk l ok false

/-- An SLC system block of a link that is in no ream (09 R240, R264). -/
def State.pickSystem (s : State) (link : Nat) : Option Nat :=
  let ok := fun k (b : MBlk) => decide (b.st = .system) && b.asStamped && s.dieOk link (k / 8192 % 128)
  if (s.link link).faultOver then none
  else match s.freshBlk link 8128 8192 128 0 with
  | some k => some k
  | none => pickBlk (s.listedBlks link) ok false

/-- The link has blocks of a kind that wait for their erase (09 R254; 10 R311). -/
def State.hasWaiting (s : State) (link : Nat) (system : Bool) : Bool :=
  !(s.link link).faultOver && (s.listedBlks link).any (fun p =>
    decide (p.2.st = .waitErase ∨ p.2.st = .erasing) && (decide (p.2.role = .system) == system))

/-- Free usable blocks of a link: native blocks of its dies in service that are in no ream, wait for no erase and are not
retired (09 R240). -/
def State.freeBlks (s : State) (k : Nat) : Nat :=
  let l := s.listedBlks k
  let ok := fun (b : Nat) => s.dieOk k (b / 8192 % 128)
  if (s.link k).faultOver then 0
  else 7680 * ((List.range 128).filter (fun d => s.dieOk k d)).length
    + (l.filter (fun p => inR 7680 8127 (p.1 % 8192) && decide (p.2.st = .free) && ok p.1)).length
    - (l.filter (fun p => decide (p.1 % 8192 < 7680 ∧ p.2.st ≠ .free) && ok p.1)).length

/-- Free reams of a deckle: as many as its links all have free blocks for. -/
def State.freeReams (s : State) (d : Nat) : Nat :=
  (List.range 32).foldl (fun a i => min a (s.freeBlks (32 * d + i))) (s.dk d).capacity

/-- What a try to form a ream answers. -/
inductive Formed where
  | ok (s : State) (id : Nat)
  | wait (s : State)
  | fail (s : State)

/-- The blocks for a ream of a deckle, position by position. -/
def State.reamBlocks (s : State) (d : Nat) (system most : Bool) : List (Option Nat) :=
  (List.range 32).map (fun i => if system then s.pickSystem (32 * d + i) else s.pickFree (32 * d + i) most)

/-- Reservation charges not yet formed on a deckle (05 R481). -/
def Ns.unformed (n : Ns) (d : Nat) : Nat := n.charged.getD d 0 - n.formed.getD d 0

/-- A deckle's unreserved reams (05 R481). -/
def State.unreserved (s : State) (d : Nat) : Nat :=
  let x := s.dk d
  x.capacity - s.nss.foldl (fun a p => a + p.2.charged.getD d 0) 0 - x.unresv

/-- Unreserved reams of a placement group (05 R481). -/
def State.groupUnreserved (s : State) (g : Nat) : Nat :=
  [0, 1, 2].foldl (fun a d => a + (if s.inGroup g d then s.unreserved d else 0)) 0

/-- A deckle is usable for placement: all 32 of its links are enabled, and were at the last boot (10 R312). -/
def State.deckleUsable (s : State) (d : Nat) : Bool :=
  (List.range 32).all (fun i => decide (s.pv (pLinkEnable (32 * d + i)) = 1) && decide (s.pf (pLinkEnable (32 * d + i)) = 1))

/-- The member deckle of a group with the most of something, lowest number first; none at 0. -/
def State.bestDeckle (s : State) (g : Nat) (f : Nat → Nat) : Option Nat :=
  ([0, 1, 2].foldl (fun (b : Option (Nat × Nat)) d =>
    if s.inGroup g d && s.deckleUsable d && decide (0 < f d) then match b with
      | none => some (d, f d)
      | some (d', v) => if v < f d then some (d, f d) else some (d', v)
    else b) none).map Prod.fst

/-- Change a namespace. -/
def State.modNs (s : State) (nsid : Nat) (f : Ns → Ns) : State :=
  match tfind s.nss nsid with
  | some n => { s with nss := tset s.nss nsid (f n) }
  | none => s

/-- Put an operation at the tail of its link queue (10 R295): reads and STATUS in read queues. -/
def State.linkQueue (s : State) (k : Nat) (op : LinkOp) (rd : Bool) : State :=
  let q := 2 * (op.die / 16 % 8) + (if rd then 0 else 1)
  s.modLink k (fun l => { l with queues := tset l.queues q (tget l.queues q [] ++ [op]) })

/-- Queue the erase of a block (09 R254; 10 R288). -/
def State.queueErase (s : State) (b : Nat) : State :=
  s.linkQueue (b / 2 ^ 20) { opc := 4, die := b / 8192 % 128, block := b % 8192, mode := b2n (decide ((s.mblk b).role = .system)), owner := .erase b } false

/-- Queue a block's erase as the power-fail mode asks (09 R254, R266). -/
def State.eraseLater (s : State) (b : Nat) : State :=
  let s := s.modBlk b (fun x => { x with st := .waitErase, stamped := false })
  if s.pvA pMedPfail = 1 then s.queueErase b else s.modDk (b / 2 ^ 25) (fun x => { x with intentWait := x.intentWait ++ [b] })

/-- Free blocks of a deckle whose header page does not read as stamped are erased again and verified before any use (09 R243,
R267). -/
def State.unstamped (s : State) (d : Nat) : State :=
  let l := s.media.mblks.filter (fun p => decide (p.1 / 2 ^ 25 = d) && decide (p.2.st = .free ∨ p.2.st = .system) && !p.2.asStamped)
  (l.map Prod.fst).foldl (fun s k => s.eraseLater k) s

/-- Form a ream on a deckle and charge it: to a reservation, or as an unreserved use, as every ream of the controller's own
structures is (09 R243, R254; 05 R481). Its OWNER records go with it. -/
def State.formReam (s : State) (d kind grp nsid zslba resvOf : Nat) (most : Bool := false) : Formed :=
  let system := decide (3 ≤ kind)
  let s := s.unstamped d
  let es := s.reamBlocks d system most
  if !s.deckleUsable d then .fail s
  else if es.any Option.isNone then
    if (List.range 32).all (fun i => (es.getD i none).isSome || s.hasWaiting (32 * d + i) system) then .wait s else .fail s
  else
    let id := tfree s.media.reams 1048576 (d * 2 ^ 20)
    let r : Ream := { deckle := d, kind := kind, grp := grp, nsid := nsid, zslba := zslba, epoch := (s.dk d).jseq,
                      entries := es, resvOf := resvOf }
    let s := { s with media := { s.media with reams := tset s.media.reams id r } }
    let s := es.zipIdx.foldl (fun s e => match e.1 with
      | some k => s.blkJoin k id e.2 r
      | none => s) s
    let s := if resvOf = 0 then s.modDk d (fun x => { x with unresv := x.unresv + 1 })
      else s.modNs resvOf (fun n => { n with formed := n.formed.set d (n.formed.getD d 0 + 1) })
    .ok ({ s with media := { s.media with reamAt := s.now } }.jrec d) id

/-- Blocks that wait for erase when a ream is released: its own, but for those that failed and are being replaced, and their
replacements (09 R252, R254). -/
def State.releaseBlks (s : State) (r : Ream) : List Nat :=
  (r.entries.filterMap (fun e => e)).flatMap (fun k => match tfind s.media.repls k with
    | some x => if x.cause = 1 then [k, x.new] else [x.new]
    | none => [k])

/-- Replacements of blocks that hold nothing to copy any more are over: a block that failed is retired (09 R252). -/
def State.replsOver (s : State) (ks : List Nat) : State :=
  ks.foldl (fun s k => match tfind s.media.repls k with
    | some x =>
      let s := { s with media := { s.media with repls := tdel s.media.repls k, bad := tdel s.media.bad k } }
      if x.cause = 1 then s else s.modBlk k (fun b => { b with st := .retired })
    | none => s) s

/-- The ream that holds a block, with its position. -/
def State.reamOf (s : State) (b : Nat) : Option (Nat × Ream × Nat) :=
  (s.media.reams.find? (fun r => r.2.entries.contains (some b))).map (fun r => (r.1, r.2, r.2.entries.findIdx (fun e => e == some b)))

/-- The source of a relocation target. -/
def State.relocSrc (s : State) (tgt : Nat) : Option Nat := (s.media.relocs.find? (fun (m : Reloc) => m.tgt == tgt)).map Reloc.src

/-- Release a ream: its blocks wait for erase and its charge is given back; with an intent mode they join the next batch,
else their erases are queued (09 R254, R266). -/
def State.releaseReam (s : State) (id : Nat) : State :=
  match tfind s.media.reams id with
  | none => s
  | some r =>
    let ks := s.releaseBlks r
    let s := ks.foldl (fun s k => s.modBlk k (fun b => { b with st := .waitErase, stamped := false })) s
    let s := s.replsOver (r.entries.filterMap (fun e => e))
    let s := s.modDk r.deckle (fun x => { x with
      unresv := if r.resvOf = 0 then x.unresv - 1 else x.unresv
      intentWait := if s.pvA pMedPfail = 1 then x.intentWait else x.intentWait ++ ks })
    let s := if s.pvA pMedPfail = 1 then ks.foldl (fun s k => s.queueErase k) s else s
    let s := if r.resvOf = 0 then s
      else s.modNs r.resvOf (fun n => { n with formed := n.formed.set r.deckle (n.formed.getD r.deckle 0 - 1) })
    let s := { s with media := { s.media with
      reamAt := s.now, reams := tdel s.media.reams id, unread := s.media.unread.filter (fun p => decide (p.2.ream ≠ id)) } }
    s.jrec r.deckle

/-- Change a ream that is in use. -/
def State.modReam (s : State) (id : Nat) (f : Ream → Ream) : State :=
  match tfind s.media.reams id with
  | some r => { s with media := { s.media with reams := tset s.media.reams id (f r) } }
  | none => s

/-- Taking a ream for a placement (05 R156). -/
inductive Take where
  | ok (s : State) (id grp : Nat)
  /-- the blocks wait for an erase (09 R254) -/
  | wait (s : State)
  /-- step 5: 0x00B, and the zone stays EMPTY -/
  | noFree (s : State)
  /-- step 2 or 4 cannot form the ream: 0x00B, and a zone goes OFFLINE -/
  | offline (s : State)

/-- Take a ream from the namespace's reservation (05 R156 steps 2 and 4). -/
def State.takeReserved (s : State) (nsid : Nat) (n : Ns) (kind zslba : Nat) : Take :=
  match s.bestDeckle n.home n.unformed with
  | none => .offline s
  | some d => match s.formReam d kind n.home nsid zslba nsid with
    | .ok t id => .ok t id n.home
    | .wait t => .wait t
    | .fail t => .offline t

/-- Take a ream from a group's unreserved free reams (05 R156 step 3). -/
def State.takeUnreserved (s : State) (nsid grp kind zslba : Nat) : Take :=
  match s.bestDeckle grp s.unreserved with
  | none => .noFree s
  | some d => match s.formReam d kind grp nsid zslba 0 with
    | .ok t id => .ok t id grp
    | .wait t => .wait t
    | .fail t => .noFree t

/-- Take a ream as 05 R156 orders it. -/
def State.takeReam (s : State) (nsid : Nat) (n : Ns) (cls grp kind zslba : Nat) : Take :=
  if grp = n.home then s.takeReserved nsid n kind zslba
  else match s.takeUnreserved nsid grp kind zslba with
    | .noFree t => if bitN (s.pv (pCls cls 5)) n.home then t.takeReserved nsid n kind zslba else .noFree t
    | x => x

/-! ### Zones -/

/-- Active states (05 R140). -/
def ZState.active : ZState → Bool
  | .implicitOpen | .explicitOpen | .closed => true
  | _ => false

/-- Open states (05 R140). -/
def ZState.isOpen : ZState → Bool
  | .implicitOpen | .explicitOpen => true
  | _ => false

/-- The state code (05 R140). -/
def ZState.code : ZState → Nat
  | .empty => 1 | .implicitOpen => 2 | .explicitOpen => 3 | .closed => 4 | .full => 5 | .readOnly => 6 | .offline => 7

/-- Zones of a namespace that are listed: any other is EMPTY. -/
def State.zonesOf (s : State) (nsid : Nat) : Tbl Zone := s.zones.filter (fun p => decide (p.1 / 2 ^ 21 = nsid))

/-- Active zones of the device (05 R148). -/
def State.activeAll (s : State) : Nat := (s.zones.filter (fun p => p.2.st.active)).length

/-- Active zones of a namespace. -/
def State.activeNs (s : State) (nsid : Nat) : Nat := ((s.zonesOf nsid).filter (fun p => p.2.st.active)).length

/-- Open zones of a namespace. -/
def State.openNs (s : State) (nsid : Nat) : Nat := ((s.zonesOf nsid).filter (fun p => p.2.st.isOpen)).length

/-- The deckle whose journal records a zone: its ream's, else a member of its home group. -/
def State.zoneDeckle (s : State) (nsid z : Nat) : Nat :=
  match (s.zone nsid z).ream with
  | some r => r / 2 ^ 20
  | none => match tfind s.nss nsid with
    | some n => (s.bestDeckle n.home (fun _ => 1)).getD 0
    | none => 0

/-- Set a zone's state with its journal record (05 R145, R150). -/
def State.zoneSet (s : State) (nsid z : Nat) (st : ZState) : State :=
  (s.modZone nsid z (fun x => { x with st := st })).jrec (s.zoneDeckle nsid z)

/-- A change the controller makes on its own: recorded, then posted to every attached function (05 R145, 06 R186). -/
def State.zoneAuto (s : State) (nsid z : Nat) (st : ZState) : State :=
  let s := s.zoneSet nsid z st
  match tfind s.nss nsid with
  | some n => s.asyncAll n.fns 0x01 nsid (zslba z) st.code
  | none => s

/-- A command of the zone is in flight: it is in the zone's sequence or holds an in-flight entry there (05 R149). -/
def State.zoneBusy (s : State) (nsid z : Nat) : Bool :=
  s.sub.slots.any (fun p =>
    let c := cmdOf p.2.cmd
    decide (c.nsid = nsid) && opWrite c.opc && decide (zoneOfLba c.slba = z) && decide (p.2.phase ≠ .fixed)) ||
  s.hz.entries.any (fun p => decide (p.1 < 8 * 4096 ∧ p.2.nsid = nsid ∧ p.2.lo < zslba (z + 1) ∧ zslba z ≤ p.2.last))

/-- The same, with one command left out: the one that asks. -/
def State.zoneBusyBut (s : State) (slot nsid z : Nat) : Bool :=
  let x := s.slot slot
  ({ s with
    sub := { s.sub with slots := tdel s.sub.slots slot }
    hz := { s.hz with entries := s.hz.entries.filter (fun p => !((x.map Slot.hz).getD []).contains p.1) } }).zoneBusy nsid z

/-- The victim of an implicit close (05 R149 step 2). -/
def State.victim (s : State) (slot nsid : Nat) : Option Nat :=
  ((s.zonesOf nsid).foldl (fun (b : Option (Nat × Nat)) p =>
    let z := p.1 % 2 ^ 21
    if decide (p.2.st = .implicitOpen) && !(s.zoneBusyBut slot nsid z) then match b with
      | none => some (z, p.2.lastWrite)
      | some (z', t) => if p.2.lastWrite < t then some (z, p.2.lastWrite) else some (z', t)
    else b) none).map Prod.fst

/-- What a transition into an open state answers (05 R149). -/
inductive Opened where
  | ok (s : State)
  | wait (s : State)
  | fail (s : State) (status : Nat)

/-- Open a zone for a command (05 R149): limits, implicit close, ream, state. -/
def State.openZone (s : State) (slot nsid z : Nat) (n : Ns) (cls grp : Nat) (goal : ZState) : Opened :=
  let x := s.zone nsid z
  let fromEmpty := decide (x.st = .empty)
  let needsOpen := !x.st.isOpen
  if fromEmpty && (decide (4096 ≤ s.activeAll) || (decide (n.mar ≠ 0) && decide (n.mar ≤ s.activeNs nsid))) then
    .fail s 0x105
  else
    let full := needsOpen && decide (n.mor ≠ 0) && decide (n.mor ≤ s.openNs nsid)
    match (if full then (s.victim slot nsid).map (fun v => s.zoneAuto nsid v .closed) else some s) with
    | none => .fail s 0x106
    | some s =>
      if fromEmpty then
        match s.takeReam nsid n cls grp 1 (zslba z) with
        | .ok t id g =>
          let t := t.modZone nsid z (fun y => { y with
            ream := some id, pgroup := g, wp := 0, zcap := 507904, accSheets := 0 })
          .ok (t.zoneSet nsid z goal)
        | .wait t => .wait t
        | .noFree t => .fail t 0x00B
        | .offline t => .fail (t.zoneAuto nsid z .offline |>.modZone nsid z (fun y => { y with zcap := 0, wp := 0 })) 0x00B
      else .ok (s.zoneSet nsid z goal)

/-! ### Locations (09 R239) -/

/-- The parity position of a quire. -/
def parityPos (q : Nat) : Nat := q % 32

/-- The position of a data sheet. -/
def dataPos (q d : Nat) : Nat := if d < parityPos q then d else d + 1

/-- The place of block offset `o` of a ream (09 R239). -/
def locAt (ream o : Nat) : MediaLoc :=
  { ream := ream, quire := o / 1984, pos := dataPos (o / 1984) (o % 1984 / 64), cw := o % 64 }

/-- Link of a place. -/
def State.locLink (s : State) (l : MediaLoc) : Nat :=
  match tfind s.media.reams l.ream with | some r => 32 * r.deckle + l.pos | none => 0

/-- Erase block of a position of a ream. -/
def State.reamBlk (s : State) (ream pos : Nat) : Option Nat :=
  match tfind s.media.reams ream with | some r => r.entries.getD pos none | none => none

/-! ### Staging (01 R18, R28; 09 R259) -/

/-- The calender's STAGECAP value, Q16.16 percent (12 R353, R356). -/
def State.stageCapPct (s : State) : Nat := (tget s.cal.acts 0x0004 (100 * 65536)).toNat

/-- A deckle's effective cap: C ÷ 3, lowered by the calender (09 R259, 12 R353). -/
def State.deckleCap (s : State) : Nat := s.media.cap * min s.stageCapPct (100 * 65536) / (100 * 65536) / 3

/-- More staged bytes of a deckle stay within its effective cap (01 R28; 09 R259). -/
def State.stageFits (s : State) (d n : Nat) : Bool := decide ((s.dk d).staged + n ≤ s.deckleCap)

/-- A write may reserve staging bytes: they fit, and no drain makes write dispatch wait (01 R28; 09 R260). -/
def State.stageRoom (s : State) (d n : Nat) : Bool := !s.media.draining && s.stageFits d n

/-- Reserve staging bytes. -/
def State.stageTake (s : State) (d n : Nat) : State := s.modDk d (fun x => { x with staged := x.staged + n })

/-- Give staging bytes back. -/
def State.stageGive (s : State) (d n : Nat) : State := s.modDk d (fun x => { x with staged := x.staged - n })

/-- A place of a staged copy, channel + 8 × logical rank, is in service (13 R373). -/
def State.dramUp (s : State) (pl : Nat) : Bool :=
  let c := tget s.drc.chans (pl % 8) {}
  decide (pl < 32) && decide (c.st = 1) && c.insvc.getLsbD (pl / 8)

/-- The first place in service on a channel other than `ch`, lowest channel first. -/
def State.placeBut (s : State) (ch : Nat) : Option Nat :=
  (List.range 32).findSome? (fun i =>
    let pl := i / 4 + 8 * (i % 4)
    if pl % 8 ≠ ch && s.dramUp pl then some pl else none)

/-- Two places on different channels for a copy pair, in service where there are two (01 R21): with one channel left the
second copy counts as lost until another channel is in service. -/
def State.mirrorPair (s : State) : Nat × Nat :=
  let a := (s.placeBut 8).getD 0
  (a, (s.placeBut (a % 8)).getD ((a + 1) % 8))

/-- Two channels are in service for a copy pair (01 R21). -/
def State.mirrorOk (s : State) : Bool := (match s.placeBut 8 with | some a => (s.placeBut (a % 8)).isSome | none => false)

/-- A block's record. -/
def State.blk (s : State) (nsid lba : Nat) : Blk := tget s.media.blks (bkey nsid lba) {}

/-- Set a block's record; a block with no version is not listed. -/
def State.setBlk (s : State) (nsid lba : Nat) (b : Blk) : State :=
  { s with media := { s.media with blks :=
      if b.staged.isNone && b.media.isNone then tdel s.media.blks (bkey nsid lba) else tset s.media.blks (bkey nsid lba) b } }

/-- The version a read finds: staging first, then media (01 R22, 14 R402). -/
def Blk.ver (b : Blk) : Option BlkVer :=
  match b.staged with | some g => some g.ver | none => b.media.map Prod.fst

/-- A block is not staged, or the version staged stands on media too and a read holds it (01 R22). -/
def Blk.onMedia (b : Blk) : Bool :=
  match b.staged with
  | none => true
  | some g => decide (b.media = some (g.ver, g.loc)) || (decide (b.native = some g.loc) && decide (b.media.map Prod.fst = some g.ver))

/-- Put a block into staging in place of any staged version (01 R20, R21); its bytes were reserved on deckle d, and it
belongs to the piece counted last. -/
def State.stagePut (s : State) (nsid lba d chA chB : Nat) (ver : BlkVer) (loc : MediaLoc) : State :=
  let b := s.blk nsid lba
  let s := match b.staged with | some g => s.stageGive g.deckle 4096 | none => s
  let s := { s with media := { s.media with order := s.media.order + 1 } }
  let old := if b.onMedia then none else b.staged
  s.setBlk nsid lba { b with staged := some { ver := ver, chA := chA, chB := chB, deckle := d, order := s.media.order, piece := s.media.piece, loc := loc,
                                              first := (old.map Staged.first).getD s.media.order
                                              laidOver := (old.map (fun g => addOnce g.laidOver g.piece)).getD [] } }

/-- Drop every version of a block. -/
def State.dropBlk (s : State) (nsid lba : Nat) : State :=
  match (s.blk nsid lba).staged with
  | some g => (s.stageGive g.deckle 4096).setBlk nsid lba {}
  | none => s.setBlk nsid lba {}

/-- The blocks of a namespace in a range that have a version, by LBA. -/
def State.blksIn (s : State) (nsid lo hi : Nat) : List Nat :=
  (s.media.blks.filter (fun p => decide (bkey nsid lo ≤ p.1 ∧ p.1 < bkey nsid hi))).map (fun p => p.1 - bkey nsid 0)

/-- Drop the blocks of a range. -/
def State.dropRange (s : State) (nsid lo hi : Nat) : State :=
  ((s.blksIn nsid lo hi).foldl (fun s l => s.dropBlk nsid l) s).windowsRelease

/-- Count staged parity or pad bytes of a quire (05 R143, 09 R247). -/
def State.quireExtra (s : State) (ream q n : Nat) : State :=
  match tfind s.media.reams ream with
  | none => s
  | some r => (s.modReam ream (fun r => { r with quires := tmod r.quires q {} (fun x => { x with extra := x.extra + n }) })).stageTake
      r.deckle n

/-- Give back the extra bytes of every quire of a ream, before it is released. -/
def State.dropExtra (s : State) (ream : Nat) : State :=
  match tfind s.media.reams ream with
  | none => s
  | some r => s.stageGive r.deckle (r.quires.foldl (fun a p => a + p.2.extra) 0)

/-- Empty a zone: its blocks, accumulator and ream go (05 R143, R141; 09 R256). -/
def State.zoneEmpty (s : State) (nsid z : Nat) : State :=
  let x := s.zone nsid z
  let s := s.dropRange nsid (zslba z) (zslba (z + 1))
  let s := match x.ream with
    | none => s
    | some r =>
      let s := match s.media.relocs.find? (fun (m : Reloc) => decide (m.src = r)) with
        | some m => (s.releaseReam m.tgt)
        | none => s
      let s := { s with media := { s.media with
        relocs := s.media.relocs.filter (fun (m : Reloc) => decide (m.src ≠ r)), refresh := s.media.refresh.filter (· ≠ r) } }
      (s.dropExtra r).releaseReam r
  (s.modZone nsid z (fun y => { st := .empty, pend := y.pend, lastWrite := y.lastWrite }))

/-- Bytes of the pads and the parity sheet that a FINISH stages (09 R247). -/
def State.finishBytes (s : State) (nsid z : Nat) : Nat :=
  let x := s.zone nsid z
  let sheets := (x.wp % 1984 + 63) / 64
  if x.wp % 1984 = 0 ∨ x.ream = none then 0 else (31 - sheets + 1) * 262144 + (sheets * 64 - x.wp % 1984) * 4096

/-- Finish a zone: pads and the parity sheet of the open quire are staged, the pointer goes to the capacity
(04 R121; 05 R143; 09 R247). -/
def State.zoneFinish (s : State) (nsid z : Nat) : State :=
  let x := s.zone nsid z
  let s := match x.ream with
    | some r =>
      let s := if x.wp % 1984 = 0 then s.modReam r (fun m => { m with ownerDone := true, closed := true })
        else (s.quireExtra r (x.wp / 1984) (s.finishBytes nsid z)).modReam r (fun m => { m with closed := true })
      s.reamClose r ((x.wp + 1983) / 1984)
    | none => s
  (s.modZone nsid z (fun y => { y with wp := y.zcap, accSheets := 0 })).zoneSet nsid z .full

/-- A zone that the controller makes READ_ONLY: its capacity ends at its pointer, and its accumulator returns
(05 R138, R143, R145). -/
def State.zoneReadOnly (s : State) (nsid z : Nat) : State :=
  (s.modZone nsid z (fun y => { y with zcap := y.wp, accSheets := 0 })).zoneAuto nsid z .readOnly

/-- Bytes of the parity sheets that `n` more blocks of a zone complete (05 R143). -/
def State.parityBytes (s : State) (nsid z n : Nat) : Nat :=
  let x := s.zone nsid z
  ((x.wp + n) / 1984 - x.wp / 1984) * 262144

/-- Advance a zone's write pointer over blocks made durable; parity sheets of completed quires are staged, and an open
zone becomes FULL at its capacity (05 R141, R143, R145). -/
def State.zoneAdvance (s : State) (nsid z n : Nat) : State :=
  let x := s.zone nsid z
  let wp := x.wp + n
  let s := match x.ream with
    | some r => (List.range (wp / 1984 - x.wp / 1984)).foldl (fun (s : State) i => s.quireExtra r (x.wp / 1984 + i) 262144) s
    | none => s
  let s := (s.modZone nsid z (fun y => { y with wp := wp, accSheets := wp % 1984 / 64, lastWrite := s.now })).jrec
    (s.zoneDeckle nsid z)
  let s := match x.ream with | some r => s.modReam r (fun m => { m with lastWrite := s.now }) | none => s
  if wp = x.zcap ∧ x.st.isOpen = true then s.zoneAuto nsid z .full else s

/-! ### Random namespaces: bundles and runs (05 R151–R153, 09 R258) -/

/-- The runs of a placement group. -/
def State.grp (s : State) (g : Nat) : Grp := tget s.media.grps g {}

/-- Change a placement group's runs. -/
def State.modGrp (s : State) (g : Nat) (f : Grp → Grp) : State :=
  { s with media := { s.media with grps := tset s.media.grps g (f (s.grp g)) } }

/-- Place `n` blocks in a run, aligned to whole bundles when asked: first block offset, or none when the run is full. -/
def Ream.room (r : Ream) (n : Nat) (whole : Bool) : Option Nat :=
  let o := if whole then (r.fill + 15) / 16 * 16 else r.fill
  if o + n ≤ 507904 && !r.closed then some o else none

/-- What an allocation in a run answers (05 R153, R156; 09 R258). -/
inductive Alloc where
  | ok (s : State) (l : List MediaLoc)
  | wait (s : State)
  | fail (s : State)

/-- Places in a group's open host run. -/
def State.allocIn (s : State) (g n : Nat) (whole : Bool) : Option (State × List MediaLoc) :=
  match (s.grp g).hostRun with
  | none => none
  | some id => match tfind s.media.reams id with
    | none => none
    | some r => (r.room n whole).map (fun o =>
        (s.modReam id (fun r => { r with fill := o + n, lastWrite := s.now }), (List.range n).map (fun i => locAt id (o + i))))

/-- Close a group's host run. -/
def State.closeRun (s : State) (g : Nat) : State :=
  match (s.grp g).hostRun with
  | some id => (s.modReam id (fun r => { r with closed := true })).modGrp g (fun x => { x with hostRun := none })
  | none => s

/-- Open a new host run in the ream taken, and place `n` blocks there. -/
def Take.runs (tk : Take) (n : Nat) (whole : Bool) : Alloc :=
  match tk with
  | .ok t id g =>
    match ((t.closeRun g).modGrp g (fun x => { x with hostRun := some id })).allocIn g n whole with
    | some (t, l) => .ok t l
    | none => .fail t
  | .wait t => .wait t
  | .noFree t => .fail t
  | .offline t => .fail t

/-- Allocate places for `n` blocks of one bundle in the host run of the group that 05 R156 settles on. -/
def State.allocRun (s : State) (nsid : Nat) (ns : Ns) (cls grp n : Nat) (whole : Bool) : Alloc :=
  match s.allocIn grp n whole with
  | some (t, l) => .ok t l
  | none =>
    if grp = ns.home then (s.takeReserved nsid ns 2 0).runs n whole
    else match s.takeUnreserved nsid grp 2 0 with
      | .noFree t =>
        if bitN (s.pv (pCls cls 5)) ns.home then match t.allocIn ns.home n whole with
          | some (t, l) => .ok t l
          | none => (t.takeReserved nsid ns 2 0).runs n whole
        else .fail t
      | x => x.runs n whole

/-- Places for a bundle in a group's garbage-collection run. The run's reams are formed in that very group, from the
reservation at home and from unreserved reams elsewhere: collection stays inside the group that holds the bundle, so no
class and no fallback to another group has a part in it (05 R153, R156; 01 R12; 09 R258). -/
def State.gcPlaces (s : State) (g nsid : Nat) (ns : Ns) : Alloc :=
  let from_ := fun (s : State) (id : Nat) => match tfind s.media.reams id with
    | none => none
    | some r => (r.room 16 true).map (fun o =>
        (s.modReam id (fun r => { r with fill := o + 16, lastWrite := s.now }), (List.range 16).map (fun i => locAt id (o + i))))
  match (s.grp g).gcRun.bind (fun id => from_ s id) with
  | some x => .ok x.1 x.2
  | none =>
    let s := match (s.grp g).gcRun with | some id => s.modReam id (fun r => { r with closed := true }) | none => s
    match (if g = ns.home then s.takeReserved nsid ns 2 0 else s.takeUnreserved nsid g 2 0) with
    | .ok t id _ => match from_ ((t.modGrp g (fun x => { x with gcRun := some id })).modReam id (fun r => { r with gc := true })) id with
      | some x => .ok x.1 x.2
      | none => .fail t
    | .wait t => .wait t
    | .noFree t => .fail t
    | .offline t => .fail t

/-- A bundle's map entry. -/
def State.bun (s : State) (nsid b : Nat) : Bun := tget s.media.buns (bkey nsid b) {}

/-- A free index of the split table: the entry's own where it is split already (09 R244; DESIGN CHOICE, log 69: the lowest). -/
def State.splitIndex (s : State) (k : Nat) : Nat :=
  let l := s.media.buns.filter (fun p => decide (p.2.st = 2))
  match tfind l k with
  | some x => x.split
  | none => ((List.range (l.length + 1)).find? (fun i => l.all (fun p => decide (p.2.split ≠ i)))).getD 0

/-- Set a bundle's map entry; an unmapped one is not listed, and a split one has its index in the split table. -/
def State.setBun (s : State) (nsid b : Nat) (x : Bun) : State :=
  let x := if x.st = 2 then { x with split := s.splitIndex (bkey nsid b) } else x
  { s with media := { s.media with buns := if x.st = 0 then tdel s.media.buns (bkey nsid b) else tset s.media.buns (bkey nsid b) x } }

/-- The split table has a free entry (05 R152). -/
def State.splitRoom (s : State) : Bool :=
  decide ((s.media.buns.filter (fun p => decide (p.2.st = 2))).length < s.pf pSplitCap)

/-- The bundles that a block range touches: bundle, first block, end. -/
def bundleParts (lo hi : Nat) : List (Nat × Nat × Nat) :=
  if hi ≤ lo then []
  else (List.range ((hi - 1) / 16 + 1 - lo / 16)).map (fun i =>
    let b := lo / 16 + i
    (b, max lo (16 * b), min hi (16 * (b + 1))))

/-- Allocate places for a random write, bundle by bundle (04 R117, 05 R156). -/
def State.allocWrite (s : State) (nsid : Nat) (ns : Ns) (cls grp lo hi : Nat) : Alloc :=
  (bundleParts lo hi).foldl (fun acc p => match acc with
    | .ok s l => match s.allocRun nsid ns cls grp (p.2.2 - p.2.1) (decide (p.2.2 - p.2.1 = 16)) with
      | .ok s l' => .ok s (l ++ l')
      | other => other
    | other => other) (.ok s [])

/-- A block has a place in a ream: in staging its native one or one in the flush area, on media where it stands, and where it
stands in the flush area its native one too (09 R258, R261). -/
def Blk.within (b : Blk) (id : Nat) : Bool :=
  match b.staged with
  | some g => decide (g.loc.ream = id) || (match g.flush with | some l => decide (l.ream = id) | none => false)
  | none => (match b.media with | some (_, l) => decide (l.ream = id) | none => false) ||
      (match b.native with | some l => decide (l.ream = id) | none => false)

/-- Blocks of a ream that are still mapped there, in staging or on media (09 R258). -/
def State.validIn (s : State) (id : Nat) : Nat := (s.media.blks.filter (fun p => p.2.within id)).length

/-- Some version of a block has a place in a ream: in staging, on media, or natively behind the flush area. -/
def Blk.holds (b : Blk) (id : Nat) : Bool :=
  b.within id || (match b.media with | some (_, l) => decide (l.ream = id) | none => false)

/-- A command that has not ended holds places in a ream. -/
def State.placesIn (s : State) (id : Nat) : Bool :=
  s.sub.slots.any (fun x => decide (x.2.phase ≠ .fixed) && x.2.locs.any (fun l => decide (l.ream = id)))

/-- A run that is closed and emptied, by overwrites, DEALLOCATE or collection (09 R254); one that takes part in a relocation is
released with it. -/
def State.runEmpty (s : State) (id : Nat) (r : Ream) : Bool :=
  decide (r.kind = 2) && r.closed && !r.target && s.media.relocs.all (fun (m : Reloc) => m.src != id) &&
  s.media.blks.all (fun p => !p.2.holds id) && !s.placesIn id

/-- Some full run of a group holds an invalid bundle, so collection can free space (09 R258). -/
def State.gcCanFree (s : State) (g : Nat) : Bool :=
  s.media.reams.any (fun p => decide (p.2.kind = 2 ∧ p.2.grp = g) && p.2.closed && decide (s.validIn p.1 < p.2.fill))

/-- Reams of a group's random reservation, and those of them that are formed (05 R481; 09 R258). -/
def State.grpReams (s : State) (g : Nat) : Nat × Nat :=
  let l := (s.nss.map Prod.snd).filter (fun n => !n.zoned && decide (n.home = g))
  (l.foldl (fun a n => a + n.charged.foldl (· + ·) 0) 0, l.foldl (fun a n => a + n.formed.foldl (· + ·) 0) 0)

/-- Free reams of a group's random reservation. -/
def State.grpFree (s : State) (g : Nat) : Nat := (s.grpReams g).1 - (s.grpReams g).2

/-- The free fraction of a group's random reservation, in percent (09 R258); a group with none is wholly free. -/
def State.freePct (s : State) (g : Nat) : Nat :=
  if (s.grpReams g).1 = 0 then 100 else 100 * s.grpFree g / (s.grpReams g).1

/-- Whether a group's collection is urgent now: from below `med.gc_urgent_pct` until the free fraction is back above
`med.gc_start_pct` (09 R258). -/
def State.urgencyCheck (s : State) (g : Nat) : State :=
  let now := if s.freePct g < s.pvA pGcUrgent then true else if s.pvA pGcStart ≤ s.freePct g then false else (s.grp g).urgent
  if now = (s.grp g).urgent then s else s.modGrp g (fun x => { x with urgent := now, moved := 0 })

/-- The old copy of a block is read for a merge or a move: one that the last rung cannot read is carried on as unreadable. One
that failed it before is; of the others the spec does not say which are: a free bit decides (05 R152; 09 R250; log 58). -/
def State.carry (s : State) (key : Nat) (l : MediaLoc) (v : BlkVer) : State × BlkVer :=
  let failed := s.media.unread.contains (key, l)
  let (x, s) := s.fresh
  (s, { v with lost := v.lost || failed || x.getLsbD 0 })

/-- The blocks of a bundle that stand on media alone, but for the blocks just written. -/
def State.bundleOld (s : State) (nsid b : Nat) (written : List Nat) : List Nat :=
  ((List.range 16).map (fun i => 16 * b + i)).filter (fun lba =>
    (s.blk nsid lba).staged.isNone && (s.blk nsid lba).media.isSome && !written.contains lba)

/-- A bundle goes to 16 new places: what is staged changes its place, what is on media alone is staged again. It is whole
after a merge, or where all its blocks are mapped, else split (05 R151, R152; 09 R258). None where staging has no room
(01 R28) or no second channel is in service (01 R21). -/
def State.bundleTo (s : State) (nsid b : Nat) (locs : List MediaLoc) (written : List Nat) (merge : Bool) : Option State :=
  let d := (locs.getD 0 { ream := 0 }).ream / 2 ^ 20
  let old := s.bundleOld nsid b written
  if !s.stageFits d (4096 * old.length) || !s.mirrorOk then none
  else
    let whole := merge || decide ((s.bun nsid b).st = 1) || decide ((s.blksIn nsid (16 * b) (16 * (b + 1))).length = 16)
    let s := (List.range 16).foldl (fun s i =>
      let lba := 16 * b + i
      let loc := locs.getD i { ream := 0 }
      let x := s.blk nsid lba
      match x.staged with
      | some g => s.setBlk nsid lba { x with staged := some { g with loc := loc, programming := false } }
      | none => match x.media with
        | some (v, l) =>
          if written.contains lba then s
          else
            let (s, v) := s.carry (bkey nsid lba) l v
            (s.stageTake d 4096).stagePut nsid lba d s.mirrorPair.1 s.mirrorPair.2 v loc
        | none => s) { s with media := { s.media with piece := s.media.piece + 1 } }
    some (s.setBun nsid b { st := if whole then 1 else 2, loc := locs.getD 0 { ream := 0 } })

/-- Read-merge of a bundle at places of a run (05 R152): its other blocks are staged again beside the new ones, as one whole
bundle. -/
def State.readMerge (s : State) (nsid b : Nat) (locs : List MediaLoc) (written : List Nat) : Option State :=
  ({ s with media := { s.media with rdMerge := s.media.rdMerge + 1 } }).bundleTo nsid b locs written true

/-- Map the blocks of one bundle that a piece wrote (05 R151, R152); none where a read-merge has to wait. -/
def State.mapBundle (s : State) (nsid : Nat) (ns : Ns) (cls grp b lo hi : Nat) (loc : MediaLoc) : Option State :=
  let x := s.bun nsid b
  if hi - lo = 16 then some (s.setBun nsid b { st := 1, loc := loc })
  else if x.st = 2 then some s
  else if s.splitRoom then some (s.setBun nsid b { st := 2 })
  else match s.allocRun nsid ns cls grp 16 true with
    | .ok t locs => t.readMerge nsid b locs ((List.range (hi - lo)).map (· + lo))
    | _ => none

end Sys2Proof.Machine
end

