-- ==== Sys2Proof/Machine/MbxOps.lean ====
section
/-! DEFINITION. The mailbox: message types and senders, the doorbell, the relay inbox, and how a message row takes its
request (06 R163–R169, R192, R193; 07 R194, R202; 01 R13, R14). -/

namespace Sys2Proof.Machine

/-- Who may send a message: by a PF, by a VF, over MCTP (06 R167). -/
structure MsgRule where
  /-- 0 any PF, 1 the management PF, 2 a PF for its own VFs -/
  pf : Nat
  /-- 0 direct, 1 relay, 2 no -/
  vf : Nat
  oob : Bool
  deriving DecidableEq, Repr

/-- The message table (06 R167, R193). -/
def msgRule (typ : Nat) : Option MsgRule :=
  match typ with
  | 0x0001 | 0x0002 | 0x0060 => some ⟨0, 0, true⟩
  | 0x0003 | 0x0010 | 0x0011 | 0x0030 | 0x0031 => some ⟨0, 1, false⟩
  | 0x0012 => some ⟨0, 0, false⟩
  | 0x0020 | 0x0021 | 0x0022 | 0x0023 => some ⟨1, 1, false⟩
  | 0x0040 | 0x0041 | 0x0042 | 0x0061 | 0x0062 | 0x0063 | 0x0070 | 0x00B1 => some ⟨1, 2, true⟩
  | 0x0050 | 0x0051 | 0x0080 | 0x0081 | 0x0082 | 0x0083 | 0x00B2 | 0x00C0 => some ⟨1, 2, false⟩
  | 0x0064 => some ⟨0, 1, true⟩
  | 0x0090 | 0x0091 | 0x0092 | 0x0093 | 0x00A0 | 0x00A1 | 0x00A2 | 0x00B0 => some ⟨2, 2, false⟩
  | 0x0094 | 0x0095 => some ⟨0, 2, false⟩
  | _ => none

/-- Messages served in RESCUE (01 R13, 06 R167). -/
def rescueServes (typ : Nat) : Bool := typ == 0x0001 || typ == 0x0040 || typ == 0x0041 || typ == 0x0061

/-- The first refusal of a message before its own rules: status and DETAIL. Unknown type, mode, sender, in this order
(06 R165, R167, R192; 07 R194; DEDUCED, log 26). -/
def State.refuses (s : State) (src : Src) (typ : Nat) : Option (Nat × Nat) :=
  match msgRule typ with
  | none => some (0x401, 0)
  | some m =>
    if s.modeOf = 4 ∧ rescueServes typ = false then some (0x403, 4)
    else match src with
      | none => if m.oob then none else some (0x404, 0)
      | some g =>
        if s.isPf g then (if m.pf = 1 ∧ g ≠ s.mgmtPf then some (0x404, 0) else none)
        else if (s.fn g).vf = .bare ∧ typ ≠ 0x0001 then some (0x404, 0)
        else if m.vf = 2 then some (0x404, 0)
        else none

/-- A VF request that goes to the manager (06 R169). -/
def State.relays (s : State) (g typ : Nat) : Bool :=
  !s.isPf g && (match msgRule typ with | some m => decide (m.vf = 1) | none => false)

/-- The request in a buffer image: header fields and LEN bytes of payload, at most 4,080 (06 R164). -/
def reqOfBytes (l : List Byte) : Req :=
  { typ := fieldLe l 0 2, seq := fieldLe l 2 2, len := fieldLe l 4 4,
    payload := sliceB l 16 (min (fieldLe l 4 4) 4080), rest := sliceB l 8 8 }

/-- Header and payload of a request as written (06 R169). -/
def Req.bytes (r : Req) : List Byte :=
  leBytes 2 r.typ ++ leBytes 2 r.seq ++ leBytes 4 r.len ++ r.rest ++ r.payload

/-- BUSY of MBX_STATUS (02 R46). -/
def State.mbxBusy (s : State) (g : Nat) : Bool := (s.fn g).mbBusy || !s.ready

/-- Post a relayed request to the PF's inbox with its RELAY event (06 R169). -/
def State.relayPost (s : State) (g : Nat) (r : Req) : State :=
  let p := s.portOf g
  let e : Relay := { rid := (s.fn p).rid, gfn := g, fetched := false, req := r }
  let s := s.modFn p (fun f => { f with inbox := f.inbox ++ [e], rid := (f.rid + 1) % 65536 })
  (s.modFn g (fun f => { f with mbRelayed := true })).asyncPost p 0x05 0 g 0

/-- The cut of FUNCTION_QUIESCE: the doorbell write closes the intake of an ACTIVE VF of the sender (07 R205). -/
def State.quiesceCut (s : State) (g : Nat) (r : Req) : State :=
  let v := fieldLe r.payload 0 2
  if r.typ = 0x0091 ∧ byteAt r.payload 2 = 1 ∧ inR 3 4080 r.len = true ∧ s.isPf v = false ∧ s.pfOf v = some g ∧ (s.fn v).flr = false then
    let cut := s.modFn g (fun f => { f with cutOf := some v })
    match (s.fn v).vf with
    | .active => cut.modFn v (fun f => { f with vf := .quiesced, quCount := 0 })
    | .quiesced => cut.modFn v (fun f => { f with quCount := 0 })
    | _ => s
  else s

/-- A captured request of a function: it is refused, relayed, or stands for its message's row. -/
def State.submit (s : State) (g : Nat) (r : Req) : State :=
  match s.refuses (some g) r.typ with
  | some (st, d) => s.reply (some g) st d []
  | none =>
    if s.relays g r.typ then
      (if 4056 < r.len then s.reply (some g) 0x402 0xFFFF [] else s.relayPost g r)
    else s.quiesceCut g r

/-- A request buffer is captured: BUSY is 1 and the reply of before is gone (06 R163). -/
def Fn.capture (f : Fn) (r : Req) : Fn :=
  { f with mbBusy := true, mbDone := false, mbRelayed := false, req := some r, torn := false, cutOf := none }

/-- A write of MBX_DOORBELL (02 R46; 06 R163, R167, R169): dropped with FN_ERR.MBX while BUSY; else the buffer is
captured. During an FLR, where BUSY is 0, it is dropped without a trace (DESIGN CHOICE, log 71). -/
def State.doorbellPost (s : State) (g value : Nat) : State :=
  if !s.reach g || decide (s.modeOf = 5) || !bitN value 0 then s.barWake g s
  else if s.mbxBusy g then s.errSet g 2
  else if (s.fn g).flr then s
  else
    let r := reqOfBytes (memRead (s.fn g).reqBuf 0 4096)
    (({ s with pwr := { s.pwr with gated := false } }).modFn g (fun f => f.capture r)).submit g r

/-- MBX_DOORBELL_RING (02 R46; 06 R163). -/
def execMbxDoorbellRing (g value : Nat) (s : State) : Res :=
  .next (s.posted g (.mbxDoorbellRing g value) false (s.doorbellPost g value))

/-- The GFN by which a sender names itself; MCTP has the rights of the management PF (06 R177, R192). -/
def State.selfOf (s : State) (src : Src) : Nat := src.getD s.mgmtPf

/-- A GFN field: 0xFFFF means the sender itself (06 R177). -/
def State.gfnArg (s : State) (src : Src) (v : Nat) : Nat := if v = 0xFFFF then s.selfOf src else v

/-- The sender may name the function: itself, or a PF one of its own VFs (06 R167). -/
def State.mayName (s : State) (src : Src) (g : Nat) : Bool :=
  decide (g = s.selfOf src) || (s.isPf (s.selfOf src) && decide (s.pfOf g = some (s.selfOf src)))

/-- A message that names one of the sender's VFs (06 R167). -/
def State.ownVf (s : State) (src : Src) (g : Nat) : Bool :=
  !s.isPf g && decide (s.pfOf g = some (s.selfOf src))

/-- The first field that the payload does not wholly hold; fields as (offset, width) (06 R165). -/
def shortAt (len : Nat) (fields : List (Nat × Nat)) : Option Nat :=
  (fields.find? (fun f => decide (len < f.1 + f.2))).map Prod.fst

/-- Was the request torn by a write while BUSY (02 R46). -/
def State.tornOf (s : State) (src : Src) : Bool :=
  match src with | some g => (s.fn g).torn | none => false

/-- Some request of a sender is ready to be taken: none of its earlier stages waits, and it is not with the manager. -/
def State.takeable (s : State) (src : Src) : Bool :=
  (s.waitOf src).isNone && s.ready &&
  (match src with | some g => !(s.fn g).mbRelayed && !(s.fn g).flr | none => true)

/-- The functions whose request waits for the management core. -/
def State.pendingReqs (s : State) : List Nat :=
  (s.fns.filter (fun p => p.2.req.isSome && s.takeable (some p.1) && s.reach p.1)).map Prod.fst

/-- How far a GFN stands after the one served last, round the GFNs. -/
def turnDist (last g : Nat) : Nat := (g + 1023 - last) % 1024

/-- The management core takes requests in GFN order, round-robin: no function that waits stands nearer after the one served
last (06 R166). The MCTP endpoint has no GFN and waits for no function (DESIGN CHOICE, log 67). -/
def State.myTurn (s : State) (src : Src) : Bool :=
  match src with
  | some g => s.pendingReqs.all (fun h => decide (turnDist s.adm.turn g ≤ turnDist s.adm.turn h))
  | none => true

/-- The management core has taken a request (06 R166). -/
def State.tookTurn (s : State) (src : Src) : State :=
  match src with
  | some g => { s with adm := { s.adm with turn := g } }
  | none => s

/-- A torn request as the controller reads it: any sequence number, length and bytes, under a type (02 R46; log 11). -/
def State.tornReq (s : State) (src : Src) (typ : Nat) : State :=
  match src with
  | some g =>
    let (v, s) := s.fresh
    let n := v.toNat
    let r : Req := { typ := typ, seq := n % 65536, len := n / 65536 % 4097, payload := padTo (min (n / 65536 % 4097) 4080) (Config.freeBytes n 4080) }
    s.modFn g (fun f => { f with req := some r, torn := false })
  | none => s

/-- Take a sender's request of a type, in its turn: length and missing fields give 0x402, then the message's own rules follow
(06 R163, R165, R166). A torn request is read as any (02 R46; log 11). -/
def State.serve (s : State) (src : Src) (typ : Nat) (fields : List (Nat × Nat)) (k : State → Req → State) : State :=
  match s.reqOf src with
  | none => s
  | some r =>
    if !(s.takeable src && s.myTurn src) || !(decide (r.typ = typ) || s.tornOf src) || (s.refuses src typ).isSome then s
    else
      let s := s.tookTurn src
      let s := if s.tornOf src then s.tornReq src typ else s
      let r := (s.reqOf src).getD r
      if 4080 < r.len then s.reply src 0x402 0xFFFF []
      else match shortAt r.len fields with
        | some o => s.reply src 0x402 o []
        | none => k s r

/-- The device-wide operation that runs, by TYPE (06 R168). -/
def State.devBusy (s : State) : Option Nat := if s.adm.dlActive then some 0x0040 else s.adm.devOp

/-- Refuse with 0x405 while a device-wide operation runs (06 R168). -/
def State.unlessDev (s : State) (src : Src) (k : State) : State :=
  match s.devBusy with | some t => s.reply src 0x405 t [] | none => k

/-- SET_PARAM and PROFILE_SAVE are refused while PROFILE_SELECT or FW_ACTIVATE runs (06 R168). -/
def State.unlessSwitch (s : State) (src : Src) (k : State) : State :=
  match s.adm.devOp with
  | some t => if t = 0x0050 ∨ t = 0x0042 then s.reply src 0x405 t [] else k
  | none => k

/-- The event of a message that stores a record cannot be recorded while LEDGER is set: 0x40F (15 R426). -/
def State.unlessLedger (s : State) (src : Src) (k : State) : State :=
  if s.glb.ledger then s.reply src 0x40F 0 [] else k

/-- A management I3C request arrives at the endpoint (06 R192): one at a time, held while DORMANT, else refused or
standing for its row. -/
def State.oobTake (s : State) (r : Req) : State :=
  let s := { s with adm := { s.adm with oob := some r, oobWait := none } }
  match s.refuses none r.typ with
  | some (st, d) => s.reply none st d []
  | none => s

end Sys2Proof.Machine
end

