-- ==== Sys2Proof/Machine/ParamRules.lean ====
section
/-! DEFINITION. The rules that a set of parameter values must keep, checked by SET_PARAM, PROFILE_SAVE and PROFILE_SELECT
(06 R171; 02 R38; 03 R65; 05 R155, R159; 09 R258, R259; 10 R312; 11 R324; 12 R353, R357, R361, R370). -/

namespace Sys2Proof.Machine

/-- Sum over a range. -/
def sumN (n : Nat) (f : Nat → Nat) : Nat := (List.range n).foldl (fun a i => a + f i) 0

/-- Every number below `n` keeps a condition. -/
def allN (n : Nat) (f : Nat → Bool) : Bool := (List.range n).all f

/-- 02 R38: VF and queue totals of the profile's grouping. -/
def layoutOk (t : Tbl Nat) : Bool :=
  let n := portCount (pval t pLinkGroup)
  decide (sumN n (fun p => pval t (pTotalVfs p)) ≤ 1016) &&
  decide (sumN n (fun p => pval t (pPfQueues p) + pval t (pTotalVfs p) * pval t (pVfQueues p)) ≤ 16384)

/-- 03 R65: slot quotas. -/
def quotaOk (t : Tbl Nat) : Bool := decide (sumN 1024 (fun g => pval t (pQuota g)) ≤ 65536)

/-- Deckle mask of a group. -/
def pgMask (t : Tbl Nat) (g : Nat) : Nat := pval t (pPgDeckles g)

/-- A class is enabled. -/
def clsOn (t : Tbl Nat) (c : Nat) : Bool := decide (pval t (pCls c 0) = 1)

/-- Two deckle masks share a deckle. -/
def masksMeet (a b : Nat) : Bool := allN 3 (fun d => !(bitN a d && bitN b d)) == false

/-- A class names a group as its default or in its mask. -/
def clsNames (t : Tbl Nat) (c g : Nat) : Bool := decide (pval t (pCls c 4) = g) || bitN (pval t (pCls c 5)) g

/-- 05 R155, 10 R312: groups and default groups; `homes` are the home groups of the namespaces. -/
def groupsOk (t : Tbl Nat) (homes : List Nat) : Bool :=
  allN 16 (fun g =>
    decide (pgMask t g = 0) || decide (pval t (pPgExcl g) = 0) ||
    (allN 16 (fun h => decide (h = g) || !(masksMeet (pgMask t g) (pgMask t h))) &&
     decide (((List.range 64).filter (fun c => clsOn t c && clsNames t c g)).length = 1))) &&
  allN 64 (fun c => !clsOn t c ||
    (decide (pgMask t (pval t (pCls c 4)) ≠ 0) && bitN (pval t (pCls c 5)) (pval t (pCls c 4)))) &&
  homes.all (fun h => decide (pgMask t h ≠ 0)) &&
  allN 16 (fun g => allN 3 (fun d => !(bitN (pgMask t g) d) ||
    allN 32 (fun i => decide (pval t (pLinkEnable (32 * d + i)) = 1))))

/-- Settings to be checked, where a link that is held DOWN since the last boot counts as disabled too (10 R312). -/
def State.ruleTbl (s : State) (t : Tbl Nat) : Tbl Nat :=
  (List.range 96).foldl (fun t k => if s.pf (pLinkEnable k) = 0 then tset t (pLinkEnable k) 0 else t) t

/-- The enabled class that names a loop slot. -/
def slotClass (t : Tbl Nat) (n : Nat) : Option Nat :=
  (List.range 64).find? (fun c => clsOn t c && decide (pval t (pCls c 6) = n))

/-- The functions that a value table gives a binding, handle or page. -/
def boundFns (t : Tbl Nat) : List Nat :=
  (t.filter (fun p => decide (p.1 / 2 ^ 24 = 4 ∧ p.1 % 4096 = 1 ∧ 4 * 2 ^ 24 + 1 ≤ p.1))).map (fun p => p.1 / 4096 % 4096)

/-- Handles that a value table maps: function, handle. -/
def mappedPlh (t : Tbl Nat) : List (Nat × Nat) :=
  (t.filter (fun p => decide (p.1 / 2 ^ 24 = 5) && inR 0x401 0x43F (p.1 % 4096) && decide (p.2 ≠ 0xFF))).map
    (fun p => (p.1 / 4096 % 4096, p.1 % 4096 - 0x400))

/-- A page lies in a class's range. -/
def inPages (t : Tbl Nat) (c p : Nat) : Bool :=
  decide (pval t (pCls c 7) ≤ p ∧ p < pval t (pCls c 7) + pval t (pCls c 8))

/-- 05 R158, R159, R162: classes, key pages, handles. -/
def classesOk (t : Tbl Nat) : Bool :=
  clsOn t 0 &&
  allN 64 (fun c => !clsOn t c || (decide (pval t (pCls c 7) + pval t (pCls c 8) ≤ 256) &&
    allN c (fun b => !clsOn t b ||
      ((decide (pval t (pCls c 6) = 0xFF) || decide (pval t (pCls c 6) ≠ pval t (pCls b 6))) &&
       (decide (pval t (pCls c 7) + pval t (pCls c 8) ≤ pval t (pCls b 7)) || decide (pval t (pCls c 8) = 0) ||
        decide (pval t (pCls b 8) = 0) || decide (pval t (pCls b 7) + pval t (pCls b 8) ≤ pval t (pCls c 7))))))) &&
  (boundFns t).all (fun g => clsOn t (pval t (pTclass g))) &&
  (mappedPlh t).all (fun p => let g := pval t (pPlh p.1 p.2)
    decide (pgMask t g ≠ 0) && bitN (pval t (pCls (pval t (pTclass p.1)) 5)) g) &&
  allN 256 (fun p => let o := pval t (pPageOwner p)
    decide (o = 0xFFFF) || inPages t (pval t (pTclass o)) p)

/-- Output range of an actuator kind (12 R353), as Q16.16. -/
def actRange (kind : Nat) : Option (Int × Int) :=
  match kind with
  | 1 => some (65536, 128 * 65536)
  | 2 => some (0, 7 * 65536)
  | 3 => some (3 * 65536, 75 * 65536)
  | 4 => some (10 * 65536, 100 * 65536)
  | 5 => some (0, 8 * 65536)
  | _ => none

/-- The actuator a slot drives and whether it runs (12 R359). -/
def slotActuator (t : Tbl Nat) (n : Nat) : Nat × Bool :=
  match (if 8 ≤ n then slotClass t n else none) with
  | some c => (5 + 256 * c, true)
  | none => (pval t (pLoop n 5), decide (pval t (pLoop n 1) = 1))

/-- One calender slot's own fields (12 R353, R361, R370). -/
def loopOk (t : Tbl Nat) (n : Nat) : Bool :=
  let lo := pvalS t (pLoop n 8)
  let hi := pvalS t (pLoop n 9)
  let ys := pvalS t (pLoop n 0xB)
  let mode := pval t (pLoop n 0x13)
  decide (lo < hi) &&
  (match actRange ((slotActuator t n).1 % 256) with
   | some (a, b) => decide (a ≤ lo ∧ hi ≤ b)
   | none => true) &&
  decide (lo ≤ ys ∧ ys ≤ hi) &&
  (decide (mode = 0) || (decide (pval t (pLoop n 0x10) ≠ 0) && decide (pval t (pLoop n 0x11) ≠ 0) &&
    (decide (mode = 1) || decide (pval t (pLoop n 0x12) ≠ 0)))) &&
  ([0x20, 0x21, 0x22, 0x23].any (fun i => decide (pval t (pLoop n i) ≠ 0)))

/-- Slot n is bound to a class (12 R359). -/
def slotBound (t : Tbl Nat) (n : Nat) : Bool := decide (8 ≤ n) && (slotClass t n).isSome

/-- 12 R357: no two slots drive or name one actuator entry. -/
def drivesOk (t : Tbl Nat) : Bool :=
  allN 32 (fun n => allN n (fun m =>
    let (a, on) := slotActuator t n
    let (b, om) := slotActuator t m
    !(decide (a = b) && decide (a % 256 ≠ 0) && ((on && om) || decide (a % 256 = 5)))))

/-- 09 R258, R259; 11 R324: pairs of values. -/
def pairsOk (t : Tbl Nat) : Bool :=
  decide (pval t pGcUrgent < pval t pGcStart) && decide (pval t pLlrWeak < pval t pLlrStrong) &&
  (decide (pval t pPlp = 0) || decide (20 ≤ pval t pHoldup))

/-- Every rule that a set of values keeps as such. -/
def rulesOk (t : Tbl Nat) (homes : List Nat) : Bool :=
  layoutOk t && quotaOk t && groupsOk t homes && classesOk t && allN 32 (loopOk t) && drivesOk t && pairsOk t

/-- Deckles of a mask. -/
def maskDeckles (m : Nat) : List Nat := [0, 1, 2].filter (fun d => bitN m d)

/-- What stands on deckle d through group h blocks a change to a value set: d leaves h, or another group becomes exclusive
on d (05 R155). -/
def State.blocked (s : State) (t : Tbl Nat) (d h : Nat) : Bool :=
  (bitN (pgMask s.par.live h) d && !bitN (pgMask t h) d) ||
  (List.range 16).any (fun g => decide (g ≠ h) && decide (pval t (pPgExcl g) = 1) && bitN (pgMask t g) d
    && !(decide (s.pv (pPgExcl g) = 1) && bitN (pgMask s.par.live g) d))

/-- BLOCKERS of a change to a value set (05 R155), each ream once: a ream of a reservation is counted with its charge. -/
def State.blockers (s : State) (t : Tbl Nat) : Nat :=
  sumN 3 (fun d =>
    s.nss.foldl (fun a p => a + (if s.blocked t d p.2.home then p.2.charged.getD d 0 else 0)) 0 +
    (s.media.reams.filter (fun p => decide (p.2.deckle = d ∧ p.2.resvOf = 0 ∧ p.2.kind ≤ 2) && s.blocked t d p.2.grp)).length)

/-- Home groups of the namespaces. -/
def State.homes (s : State) : List Nat := s.nss.map (fun p => p.2.home)

/-- A page holds a loaded key (07 R196). -/
def State.pageLoaded (s : State) (p : Nat) : Bool :=
  s.cip.keys.any (fun k => decide (k.1 / 16 = p) && k.2.loaded)

/-- What a move of a key-slot page gives: none, or a refusal with its DETAIL (07 R196). -/
def State.pageMove (s : State) (src : Src) (p new : Nat) : Option (Nat × Nat) :=
  let old := s.pageOwner p
  let me := s.selfOf src
  let mgmt := src.isNone || decide (me = s.mgmtPf)
  let mine := fun (g : Nat) => decide (g = me) || decide (s.pfOf g = some me)
  if mgmt = false ∧ new ≠ 0xFFFF ∧ mine new = false then some (0x404, 0)
  else if old = 0xFFFF then (if s.pageLoaded p && !mgmt then some (0x404, 0) else none)
  else if mgmt = false ∧ mine old = false then some (0x404, 0)
  else if new = old then none
  else if s.isPf old then
    (if (s.slotsOfFn old).any (fun x => x.2.keyed && decide (x.2.kslot / 16 = p)) then some (0x405, 0x0003) else none)
  else if (s.pfOf old).isSome && ((s.fn old).vf ≠ .quiesced || !(s.slotsOfFn old).isEmpty) then some (0x405, 0x0003)
  else none

end Sys2Proof.Machine
end

