-- ==== Sys2Proof/Machine/Weights.lean ====
section
/-! DEFINITION. What a class's settings and its pressure make of dispatch: values kept until a sample boundary, actuators,
effective weights, shares (05 R160, R162; 12 R355, R356). -/

namespace Sys2Proof.Machine

/-- Calender loop n. -/
def State.loop (s : State) (n : Nat) : Loop := tget s.cal.loops n {}

/-- Change a calender loop. -/
def State.modLoop (s : State) (n : Nat) (f : Loop → Loop) : State :=
  { s with cal := { s.cal with loops := tset s.cal.loops n (f (s.loop n)) } }

/-! ### Settings that wait for a sample boundary (05 R162) -/

/-- The live parameters with the latency target, percentile and loop that classes keep until a sample boundary. -/
def State.calTbl (s : State) : Tbl Nat :=
  s.cal.kept.foldl (fun t p => tset (tset (tset t (pCls p.1 2) p.2.1) (pCls p.1 3) p.2.2.1) (pCls p.1 6) p.2.2.2) s.par.live

/-- The latency target that serves a command of a class, accepted while it was v: the class's loop moves it at a sample boundary
(05 R162); without a loop a change counts for commands accepted after it (01 R10). -/
def State.targetFor (s : State) (c v : Nat) : Nat := if inR 8 31 (pval s.calTbl (pCls c 6)) then s.clsTarget c else v

/-- From s to t settings changed: a class whose loop is concerned keeps its target, percentile and loop until that loop's
next sample boundary (05 R162). A class that no loop concerns has its new values at once (DEDUCED, log 55). -/
def State.keepCls (s t : State) : State :=
  let vals := fun (l : Tbl Nat) (c : Nat) => (pval l (pCls c 2), pval l (pCls c 3), pval l (pCls c 6))
  let old := s.calTbl
  { t with cal := { t.cal with kept := (List.range 64).foldl (fun k c =>
      let o := vals old c
      let n := vals t.par.live c
      if decide (o ≠ n) && (inR 8 31 o.2.2 || inR 8 31 n.2.2) then tset k c o else tdel k c) s.cal.kept } }

/-- A sample boundary of slot n: the settings of the classes it concerns take effect (05 R162). -/
def State.clsBoundary (s : State) (n : Nat) : State :=
  { s with cal := { s.cal with kept := s.cal.kept.filter (fun p =>
      decide (p.2.2.2 ≠ n) && decide (s.pv (pCls p.1 6) ≠ n)) } }

/-! ### Actuators and pressure (12 R353–R357) -/

/-- Start value of an actuator, Q16.16: TENANT at the `cal.fixed_p` of the restart (12 R356). -/
def State.actDflt (s : State) (a : Nat) : Int :=
  match a % 256 with
  | 1 => 32 * 65536
  | 3 => 10 * 65536
  | 4 => 100 * 65536
  | 5 => s.cal.bootP
  | _ => 0

/-- The value an actuator holds, by kind + 256 × entry. -/
def State.act (s : State) (a : Nat) : Int := tget s.cal.acts a (s.actDflt a)

/-- The slot that drives TENANT of a class, by the settings in force: the bound one, else an unbound one from 8 to 31 that
names it (12 R355). -/
def State.tenantSlot (s : State) (c : Nat) : Option Nat :=
  let ns := (List.range 24).map (· + 8)
  match ns.find? (fun n => (s.loop n).cfg.cls == some c) with
  | some n => some n
  | none => ns.find? (fun n => (s.loop n).cfg.cls.isNone && decide ((s.loop n).cfg.act = 5 + 256 * c))

/-- Pressure of a class, Q16.16 (12 R355). -/
def State.pressure (s : State) (c : Nat) : Int :=
  match s.tenantSlot c with
  | some _ => s.act (5 + 256 * c)
  | none => sx32 (s.pvA pFixedP)

/-! ### Dispatch by weight (05 R160) -/

/-- The effective weight of a class: its base weight, scaled by its pressure where a slot drives it (12 R355). -/
def State.weightOf (s : State) (c : Nat) : Nat :=
  let b := s.pv (pCls c 1)
  match s.tenantSlot c with
  | none => b
  | some _ => min 0xFFFFF (b * (65536 + (s.pressure c).toNat) / 65536)

/-- Where a class stands in dispatch: its share used, or the share reached by the others while it had nothing waiting. The
spec asks for starts in proportion to the weights and names no algorithm (DESIGN CHOICE, log 56). -/
def State.shareOf (s : State) (c : Nat) : Nat := max (tget s.sub.share c 0) s.sub.shareNow

/-- A command of a class is started: its class uses the share that one start is worth at its weight. -/
def State.useShare (s : State) (c : Nat) : State :=
  { s with sub := { s.sub with share := tset s.sub.share c (s.shareOf c + 2 ^ 32 / max 1 (s.weightOf c)), shareNow := s.shareOf c } }

end Sys2Proof.Machine
end

