-- ==== Sys2Proof/Machine/IoDispatch.lean ====
section
/-! DEFINITION. Dispatch: order, validation checks 1 to 8, list fetches, in-flight entries (03 R94; 04 R109, R114, R125;
14 R397–R400). -/

namespace Sys2Proof.Machine

/-- Block ranges that a command addresses, as (namespace, first, end) (04 R113, 14 R398). The unwritten part of a zone
runs from its write pointer to the end of its span. -/
def State.cmdRanges (s : State) (x : Slot) : List (Nat × Nat × Nat) :=
  let c := cmdOf x.cmd
  let z := zoneOfLba c.slba
  let tailOf := (c.nsid, zslba z + (s.zone c.nsid z).wp, zslba (z + 1))
  match c.opc with
  | 1 | 2 | 7 | 8 | 10 => if c.nlb = 0 then [] else [(c.nsid, c.slba, c.slba + c.nlb)]
  | 3 => [tailOf]
  | 5 => if c.all then [(c.nsid, 0, ((s.nsAny c.nsid).map Ns.size).getD 1)] else [(c.nsid, zslba z, zslba (z + 1))]
  | 9 => (x.ranges.map (fun r => (r.2.2.2, r.2.1, r.2.1 + r.2.2.1))) ++ [tailOf]
  | _ => []

/-- Two ranges overlap in one namespace. -/
def rangesMeet (a b : Nat × Nat × Nat) : Bool := decide (a.1 = b.1 ∧ a.2.1 < b.2.2 ∧ b.2.1 < a.2.2)

/-- The command has not inserted its in-flight entry (03 R94). -/
def Slot.uninserted (x : Slot) : Bool := decide (x.phase = .waiting ∨ x.phase = .listFetch ∨ x.phase = .hazWait)

/-- An earlier command holds this one back (03 R94). -/
def State.holdsBack (s : State) (e x : Slot) : Bool :=
  let c := cmdOf x.cmd
  let ec := cmdOf e.cmd
  if ec.opc = 9 && !e.listKnown then
    let z := zoneOfLba ec.slba
    decide (c.nsid = ec.nsid) && (s.cmdRanges x).any (fun r => rangesMeet r (ec.nsid, zslba z, zslba (z + 1))) ||
    ((opWrite c.opc || c.opc = 7 || c.opc = 5) &&
      ((s.nsAny c.nsid).map (fun n => n.fns.contains e.gfn)).getD false)
  else (s.cmdRanges e).any (fun a => (s.cmdRanges x).any (fun b => rangesMeet a b))

/-- No earlier command that has not inserted its in-flight entry holds this one back (03 R94). -/
def State.mayStart (s : State) (i : Nat) (x : Slot) : Bool :=
  s.sub.slots.all (fun p => decide (p.1 = i) || !(p.2.before x) || !p.2.uninserted || !(s.holdsBack p.2 x))

/-- Another command waits in the store and may be started. -/
def State.rivals (s : State) (i j : Nat) (y : Slot) : Bool :=
  decide (j ≠ i) && decide (y.loc = .store ∧ y.phase = .waiting) && s.mayStart j y

/-- The command may be started: nothing holds it back, no earlier command of its class that may be started waits, and no
other class with such a command stands lower in its share (03 R94, 05 R160). After a hold the same order applies: 08 R230 asks
for acceptance order, which is kept within a class and left to the weights across classes (DESIGN CHOICE, log 57). -/
def State.eligible (s : State) (i : Nat) (x : Slot) : Bool :=
  s.mayStart i x && s.sub.slots.all (fun p => !(s.rivals i p.1 p.2)
    || (if p.2.cls = x.cls then !(p.2.before x) else decide (s.shareOf x.cls ≤ s.shareOf p.2.cls)))

/-- Commands are dispatched in SERVICE and LIMITED (01 R13, 08 R231). -/
def State.dispatchRuns (s : State) : Bool :=
  (decide (s.modeOf = 1 ∨ s.modeOf = 2) || s.entering) && !s.mode.resetting && !s.pwr.pfailLow

/-- The namespace of a command at check 2 (04 R100). -/
def State.nsOf (s : State) (x : Slot) (nsid : Nat) : Option Ns := if x.early.contains nsid then s.nsAny nsid else s.nsFor x.gfn nsid

/-- Free in-flight entries (14 R400). -/
def hzRoom (h : Hz) (n : Nat) : Bool := decide (hzUsed h 0 8 + n ≤ 16384)

/-- Insert the command's entries, or wait: for an earlier command that now holds it back, as the sources of a COPY may show
(03 R94), or for room, a wait that is counted once (14 R397, R398, R400). -/
def State.insertEntries (s : State) (i : Nat) : State :=
  match s.slot i with
  | none => s
  | some x =>
    let rs := s.cmdRanges x
    let w := !opReads (cmdOf x.cmd).opc
    let src := x.ranges.length
    if rs.isEmpty then s.setSlot i { x with phase := .ready }
    else if !s.mayStart i x then s.setSlot i { x with phase := .hazWait }
    else if !hzRoom s.hz rs.length then
      let s := if x.hzCounted then s else { s with hz := { s.hz with full0 := satInc s.hz.full0 } }
      s.setSlot i { x with phase := .hazWait, hzCounted := true }
    else
      let (h, own, _) := rs.foldl (fun (a : Hz × List Nat × Nat) r =>
        let (h, own, n) := a
        match hzFreeIn h false with
        | some k => (hzPut h k { lo := r.2.1, last := r.2.2 - 1, nsid := r.1, w := w && decide (src ≤ n) } (some i), own ++ [k], n + 1)
        | none => (h, own, n + 1)) (s.hz, [], 0)
      (({ s with hz := { h with searches := h.searches + BitVec.ofNat 32 rs.length } }).setSlot i
        { x with hz := own }).hzGo i

/-- Target group of a write-type command (01 R17). -/
def State.targetGroup (s : State) (c : Cmd) (ns : Ns) (grp : Nat) : Nat :=
  let z := s.zone c.nsid (zoneOfLba c.slba)
  if ns.zoned && z.ream.isSome then z.pgroup else grp

/-- Check 8: LIMITED refuses the write (01 R17, 04 R114). -/
def State.writeRefused (s : State) (g : Nat) : Bool :=
  s.glb.dram || s.glb.ledger || s.glb.thermal || s.gmask.contains g

/-- The piece limit (04 R131). -/
def tooManyPieces (c : Cmd) (ns : Ns) : Bool := opWrite c.opc && decide (8 < (pieceSplit ns.zoned c.slba c.nlb).length)

/-- Check 5 for the command itself (04 R114). -/
def outOfRange (c : Cmd) (ns : Ns) : Bool :=
  match c.opc with
  | 4 | 15 => false
  | 5 => !c.all && decide (ns.size ≤ c.slba)
  | 6 => decide (ns.size ≤ c.slba)
  | _ => decide (ns.size < c.slba + c.nlb)

/-- Checks 4 to 8, then the in-flight entries (04 R114). The group is the one resolved at check 3 (04 R103). -/
def State.checkRest (s : State) (i : Nat) (x : Slot) (c : Cmd) (ns : Ns) : State :=
  let badSrc := x.ranges.find? (fun r => match s.nsOf x r.2.2.2 with
    | some n => decide (n.size < r.2.1 + r.2.2.1)
    | none => true)
  if (opKeyed c.opc && decide (512 < c.nlb)) || tooManyPieces c ns then s.fix i 0x006 0
  else if outOfRange c ns then s.fix i 0x005 0
  else match badSrc with
    | some r => s.fix i 0x005 (badEntry r.1)
    | none =>
      if opZeroOk c.opc && decide (c.nlb = 0) then s.fix i 0 0
      else
        let k := kslotOf c ns
        match (if opKeyed c.opc then s.keyUsable x.gfn k else some 0) with
        | none => s.fix i 0x202 (badBlocks 0 c.nlb)
        | some gen =>
          if opWrite c.opc && s.writeRefused (s.targetGroup c ns x.grp) then
            s.fix i 0x00A (BitVec.ofNat 64 (s.limited % 2 ^ 32))
          else (s.setSlot i { x with kslot := k, kgen := gen, keyed := opKeyed c.opc }).insertEntries i

/-- The list that a command names: address and length (04 R108, R125). With NLB 0 no host memory is read (04 R129). -/
def listOf (c : Cmd) : Option (Nat × Nat) :=
  if c.opc = 9 then (if inR 1 128 c.b40 && !c.sgl then some (c.addr, 16 * c.b40) else none)
  else if opSgl c.opc && c.sgl && !(opZeroOk c.opc && c.nlb == 0) then some (c.addr, 16 * c.len)
  else none

/-- Send a DMA read request; a fenced function sends none (02 R35, R59). -/
def State.dmaAsk (s : State) (g a n : Nat) : State := if s.dmaOk g then s.emit (.dmaRead g a n) else s

/-- A stream carries a function's traffic: its RID range association covers it (02 R56; log 36). -/
def State.ideCovers (s : State) (x : Ide) (g : Nat) : Bool :=
  decide (s.pfOf g = some x.port) &&
  (match x.rids with | none => true | some (a, b) => decide (a ≤ s.vfIndex g ∧ s.vfIndex g ≤ b))

/-- A stream that covers the function has failed and no other Secure stream covers it: its TLPs are dropped until a new
K_SET_GO (02 R56, R57). -/
def State.ideBlocked (s : State) (g : Nat) : Bool :=
  s.hif.ide.any (fun p => p.2.failed && s.ideCovers p.2 g) && !s.hif.ide.any (fun p => p.2.secure && s.ideCovers p.2 g)

/-- A command whose DMA needs a failed stream ends with 0x007 (02 R57). -/
def State.unlessIde (s : State) (i g : Nat) (k : State) : State := if s.ideBlocked g then s.fix i 0x007 0 else k

/-- First check-3 offset of a list, or go on (04 R114). -/
def State.firstBad (s : State) (i : Nat) (l : List Nat) (k : State) : State :=
  match l with
  | [] => k
  | o :: _ => s.fix i 0x002 (badField o none)

/-- The check-3 faults that end a command before its list is fetched. The faults that a COPY's list shows rank among its
others, so a COPY whose list can be fetched waits for it; a fetch that cannot be made ranks at offset 24 (04 R109, R114). -/
def State.badFirst (s : State) (x : Slot) (c : Cmd) : List Nat :=
  if c.opc ≠ 9 then x.bad.filter (fun o => decide (o < 40))
  else if x.bad.contains 24 || x.bad.contains 32 then x.bad
  else if s.ideBlocked x.gfn then x.bad.filter (fun o => decide (o < 24))
  else []

/-- Checks 1 to 3 and, where a list is named, its fetch (04 R109, R114). -/
def State.validate (s : State) (i : Nat) (x : Slot) : State :=
  let c := cmdOf x.cmd
  if !opDefined c.opc then s.fix i 0x001 0
  else if c.opc = 15 then s.setSlot i { x with phase := .ready }
  else if c.opc = 4 && decide (c.nsid = 0xFFFFFFFF) then
    s.firstBad i (s.badFlush x.gfn c) (s.setSlot i { x with phase := .ready })
  else match s.nsOf x c.nsid with
    | none => s.fix i 0x004 0
    | some ns =>
      if c.opc = 4 then s.firstBad i (s.badFlush x.gfn c) (s.setSlot i { x with phase := .ready })
      else
        let x := { x with grp := (s.resolveGroup x.gfn x.cls c.plh).getD 0, bad := s.badFields x.gfn x.cls c ns }
        match listOf c with
        | some (a, n) =>
          s.firstBad i (s.badFirst x c)
            (s.unlessIde i x.gfn <| (s.setSlot i { x with phase := .listFetch, dma := true }).dmaAsk x.gfn a n)
        | none => s.firstBad i x.bad (s.checkRest i { x with segs := directSegs c } c ns)

/-- DISPATCH (03 R94; 04 R114; 14 R397, R400). -/
def execDispatch (i : Nat) (s : State) : Res :=
  .next (match s.slot i with
    | none => s
    | some x =>
      if !s.dispatchRuns || decide (x.loc ≠ .store) then s
      else if x.phase = .hazWait then s.insertEntries i
      else if x.phase = .waiting && s.eligible i x then (s.useShare x.cls).validate i x
      else s)

/-- The bytes of a list or buffer that a DMA read brought (log 3). -/
def dmaBytes : DmaRes → Option (List Byte)
  | .data b => some b
  | _ => none

/-- A range list has arrived: the source checks of 2, the faults of 3 with the sum among them, and the rest (04 R109, R114,
R125). -/
def State.copyList (s : State) (i : Nat) (x : Slot) (c : Cmd) (ns : Ns) (l : List Byte) : State :=
  let es := rangeEntries c l
  let sum := es.foldl (fun a e => a + e.2.2.1) 0
  match es.find? (fun e => (s.nsOf x e.2.2.2).isNone) with
  | some e => s.fix i 0x004 (badEntry e.1)
  | none =>
    let y := { x with ranges := es, listKnown := true }
    let bad := x.bad.filter (fun o => decide (o < 16)) ++ (if sum ≠ c.nlb ∨ x.bad.contains 16 = true then [16] else [])
      ++ x.bad.filter (fun o => decide (16 < o))
    s.firstBad i bad (s.checkRest i y c ns)

/-- A list has arrived (04 R108, R109). -/
def State.listArrived (s : State) (i : Nat) (x : Slot) (l : List Byte) : State :=
  let c := cmdOf x.cmd
  match s.nsOf x c.nsid with
  | none => s.fix i 0x004 0
  | some ns =>
    if c.opc = 9 then s.copyList i x c ns l
    else match checkScatter c l with
      | .inl e => s.fix i 0x002 (badField 24 (some e))
      | .inr segs => s.firstBad i (x.bad.filter (fun o => decide (40 ≤ o)))
          (s.checkRest i { x with segs := segs } c ns)

/-- Ask for a command's write data (01 write trace step 7; 02 R35). -/
def State.askData (s : State) (i : Nat) (x : Slot) : State :=
  x.segs.foldl (fun (s : State) p => s.dmaAsk x.gfn p.1 p.2) (s.setSlot i { x with phase := .dataFetch, dma := true })

/-- A block-tag list has arrived (04 R109, R110). -/
def State.tagsArrived (s : State) (i : Nat) (x : Slot) (l : List Byte) : State :=
  let n := (cmdOf x.cmd).nlb
  s.askData i { x with tags := (List.range n).map (fun j => fieldLe l (8 * j) 8), dma := false }

end Sys2Proof.Machine
end

