-- ==== Sys2Proof/Machine/IoExec.lean ====
section
/-! DEFINITION. Shared steps of the I/O commands: lanes, reads of blocks, write data, pieces, zone checks (04 R115–R132;
05 R141–R150; 11 R326–R338, R347). -/

namespace Sys2Proof.Machine

/-! ### Cipher lanes (11) -/

/-- The next lane in turn for host-side work of a placement group: an unfenced lane of its deckles, or, where all are fenced,
the lowest-numbered unfenced lane of the device (11 R329, R330). -/
def State.nextLane (s : State) (g : Nat) : Option Nat :=
  match ((List.range 96).map (fun i => (tget s.cip.turns g 95 + 1 + i) % 96)).find? (fun l => s.inGroup g (l / 32) && s.laneUp l) with
  | some l => some l
  | none => (List.range 96).find? (fun l => s.laneUp l)

/-- A placement group's turn passes by a lane. -/
def State.laneTurn (s : State) (g : Nat) : State :=
  match s.nextLane g with
  | some l => { s with cip := { s.cip with turns := tset s.cip.turns g l } }
  | none => s

/-- Lanes for n units of a placement group, in turn (11 R329). -/
def State.takeLanes (s : State) (g : Nat) : Nat → State × List (Option Nat)
  | 0 => (s, [])
  | n + 1 =>
    let (t, l) := State.takeLanes (s.laneTurn g) g n
    (t, s.nextLane g :: l)

/-- Unfenced lanes of a deckle. -/
def State.lanesUp (s : State) (d : Nat) : Nat := (((List.range 32).map (· + 32 * d)).filter (fun l => s.laneUp l)).length

/-- CIPHER is set for a deckle short of its quorum (11 R331). -/
def State.quorumCheck (s : State) (d : Nat) : State :=
  if s.lanesUp d < s.pv pQuorum then
    s.watching (fun s => { s with glb := { s.glb with cipher := s.glb.cipher ||| (1#3 <<< d) } })
  else s

/-- Fence a lane: what is queued for it moves to its replacement in order, and ledger record, health event, quorum follow
(11 R328, R331). -/
def State.laneFence (s : State) (k cause : Nat) : State :=
  let q := (s.lane k).queue
  let s := s.modLane k (fun l => { l with fenced := true, katfail := l.katfail || decide (cause = 1), queue := [] })
  let s := q.foldl (fun s u => s.enterLane (s.laneRoute k) u.1 u.2) s
  let s := (s.ledEvent 0x1001 (leBytes 1 k ++ leBytes 1 cause)).healthEvent
  s.quorumCheck (k / 32)

/-- A checker mismatch (11 R328): the third fences the lane. -/
def State.laneFault (s : State) (k : Nat) : State :=
  let s := s.modLane k (fun l => { l with faults := satInc l.faults, units := l.units + 1 })
  if (s.lane k).faults = 3 ∧ (s.lane k).fenced = false then s.laneFence k 0 else s

/-- A unit of a key passes a lane: its count and key cache (11 R332). -/
def State.laneUse (s : State) (k slot gen : Nat) : State :=
  s.modLane k (fun l => { l with
    units := l.units + 1
    cache := ((l.cache.filter (· ≠ (slot, gen))) ++ [(slot, gen)]).drop
      (((l.cache.filter (· ≠ (slot, gen))) ++ [(slot, gen)]).length - 16) })

/-- The lane's key check (11 R337, R338; 04 R104): the slot is loaded with that generation and its page is the
function's. -/
def State.laneKey (s : State) (gfn slot gen : Nat) : Bool :=
  match s.keyUsable gfn slot with
  | some g => decide (g = gen)
  | none => false

/-! ### Reading blocks -/

/-- Release the staged copies of a range that stand on media, in their quire or in the flush area, once no read holds them
(01 R22). -/
def State.heldRelease (s : State) (nsid lo last : Nat) : State :=
  (s.blksIn nsid lo (last + 1)).foldl (fun s lba =>
    let b := s.blk nsid lba
    match b.staged with
    | some g => if b.onMedia then (s.stageGive g.deckle 4096).setBlk nsid lba { b with staged := none } else s
    | none => s) s

/-- Change the reader count of the staging window that covers a block (14 R402). -/
def State.winReaders (s : State) (nsid lba : Nat) (up : Bool) : State :=
  match s.hz.entries.find? (fun p => decide (8 ≤ hzBank p.1 ∧ hzBank p.1 < 12 ∧ p.2.nsid = nsid ∧ p.2.lo ≤ lba ∧ lba ≤ p.2.last)) with
  | some (i, e) =>
    let e := { e with readers := if up then e.readers + 1 else e.readers - 1 }
    let s := { s with hz := { s.hz with entries := tset s.hz.entries i e } }
    if up then s else if e.readers = 0 then (s.heldRelease nsid e.lo e.last).windowsRelease else s.windowsRelease
  | none => s

/-- The link can carry operations: ACTIVE and its hub answers (09 R248, 10 R275). -/
def State.linkUp (s : State) (k : Nat) : Bool := decide ((s.link k).st = 4) && !(s.link k).lost

/-- The READ operation of a place for an owner (10 R288). -/
def State.readOp (s : State) (l : MediaLoc) (opc lset : Nat) (owner : OpOwner) : Option (Nat × LinkOp) :=
  match s.reamBlk l.ream l.pos with
  | none => none
  | some k => some (s.locLink l,
      { opc := opc, die := k / 8192 % 128, block := k % 8192, page := l.quire * 16 + l.cw / 4, cwmask := 2 ^ (l.cw % 4),
        lset := lset, sstep := if opc = 2 then 1 else 0, len := if opc = 2 then 9216 else 4608, owner := owner,
        mode := if l.flushArea then 1 else 0 })

/-- The place is gone for reads: no block, its link in FAULT or its die retired (10 R306, R311). -/
def State.placeDead (s : State) (l : MediaLoc) : Bool :=
  match s.reamBlk l.ream l.pos with
  | some k => decide ((s.link (s.locLink l)).st = 6) || !s.dieOk (s.locLink l) (k / 8192 % 128)
  | none => true

/-- The place can be read directly: its link is up, and its die is neither retired nor unknown (10 R307). -/
def State.placeUp (s : State) (l : MediaLoc) : Bool :=
  match s.reamBlk l.ream l.pos with
  | some k => s.linkUp (s.locLink l) && !(s.placeDead l) && !(tget (s.link (s.locLink l)).dies (k / 8192 % 128) {}).unknown
  | none => false

/-- The level set of a first read: the one that succeeded last in the die's block group (09 R249; 10 R288; DEDUCED,
log 59). -/
def State.firstSet (s : State) (l : MediaLoc) : Nat :=
  match s.reamBlk l.ream l.pos with
  | some b => tget (tget (s.link (s.locLink l)).dies (b / 8192 % 128) {}).levels (Config.blockGroup (b % 8192)) 0
  | none => 0

/-- A reconstruct around a place is possible (09 R248): its quire has verified, and the other 31 places can be read. What
stands in the flush area was released by the verify of its flush-area quire (09 R261). -/
def State.reconOk (s : State) (l : MediaLoc) : Bool :=
  (l.flushArea || ((tfind s.media.reams l.ream).map (fun r => (tget r.quires l.quire {}).verified)).getD false) &&
  (List.range 32).all (fun p => decide (p = l.pos) || s.placeUp { l with pos := p })

/-- Place of a slice's buffer among those of its command; a block's own stands at 64 × block. -/
def sliceBuf (idx p : Nat) : Nat := 64 * idx + 1 + p

/-- A read's request for the buffer of one codeword, by the link sequencer of its link (01 read trace; 11 R342–R344). -/
def State.askRead (s : State) (k i place : Nat) (plain : Bool) : State :=
  s.vatAsk (0x40 + k / 16) { size := 4096, plain := plain, readPath := true, use := some (i, place) }

/-- Queue the read of a slice that has its buffer. -/
def State.queueSlice (s : State) (l : MediaLoc) (i idx p : Nat) : State :=
  let m := { l with pos := p }
  match s.readOp m 1 (s.firstSet m) (.slice i idx p) with
  | some (k, op) => s.linkQueue k op true
  | none => s

/-- Ask for the buffers of the 31 slice reads of a reconstruct, those of the other positions of the quire, and queue the reads
that have theirs (01 R19; 09 R248). Answers the slices. -/
def State.queueSlices (s : State) (l : MediaLoc) (i idx : Nat) : State × Tbl Slice :=
  (List.range 32).foldl (fun a p =>
    let m := { l with pos := p }
    if p = l.pos ∨ (a.1.readOp m 1 0 (.slice i idx p)).isNone then a
    else
      let t := a.1.askRead (a.1.locLink m) i (sliceBuf idx p) false
      let has := t.hasBuf i (sliceBuf idx p)
      (if has then t.queueSlice l i idx p else t, a.2 ++ [(p, { lset := a.1.firstSet m, waits := !has })])) (s, [])

/-- Change a unit of a command. -/
def State.modUnit (s : State) (i idx : Nat) (f : IoUnit → IoUnit) : State :=
  match s.slot i with
  | none => s
  | some x => match tfind x.units idx with
    | none => s
    | some u => s.setSlot i { x with units := tset x.units idx (f u) }

/-- Link of a media unit's codeword. -/
def State.unitLink (s : State) (u : IoUnit) : Nat :=
  match (s.blk u.nsid u.lba).media with | some (_, l) => s.locLink l | none => 0

/-- Post a unit's completion to the source queue of a slice (11 R347). -/
def State.collect (s : State) (k i idx : Nat) (u : IoUnit) (res : Nat) : State :=
  let q := tget s.sub.ccq k []
  let s := { s with sub := { s.sub with ccq := tset s.sub.ccq k (q ++ [(i, idx)]) } }
  s.modUnit i idx (fun _ => { u with st := .posted, res := res })

/-- The slice's source queue is full. -/
def State.collectFull (s : State) (k : Nat) : Bool := decide (8 ≤ (tget s.sub.ccq k []).length)

/-- Count a stalled source (11 R347). -/
def State.collectStall (s : State) (k : Nat) : State :=
  { s with sub := { s.sub with ccStall := tset s.sub.ccStall k (satInc (tget s.sub.ccStall k 0)) } }

/-- Post a unit's completion, or stall with it until an entry drains (11 R347). -/
def State.postUnit (s : State) (k i idx : Nat) (u : IoUnit) (res : Nat) : State :=
  if s.collectFull k then
    ({ s.collectStall k with sub := { (s.collectStall k).sub with ccWait := tset s.sub.ccWait k (tget s.sub.ccWait k [] ++ [(i, idx)]) } }).modUnit
      i idx (fun _ => { u with st := .posted, res := res })
  else s.collect k i idx u res

/-- A reconstruct of a unit starts (09 R248). -/
def State.startRecon (s : State) (i idx : Nat) (l : MediaLoc) (rung : Nat) : State :=
  let (t, g) := s.queueSlices l i idx
  t.modUnit i idx (fun u => { u with st := .media, rung := rung, slices := g, recon := true })

/-- Schedule a refresh of the ream that holds a place (09 R250). -/
def State.refreshAt (s : State) (l : MediaLoc) : State :=
  if l.flushArea then s else { s with media := { s.media with refresh := addOnce s.media.refresh l.ream } }

/-- A block failed the last rung at a place: a relocation carries it as unreadable (09 R250). -/
def State.failedAt (s : State) (key : Nat) (l : MediaLoc) : State :=
  { s with media := { s.media with unread := if s.media.unread.contains (key, l) then s.media.unread else s.media.unread ++ [(key, l)] } }

/-- Start the read of one block, which has its vat buffer (04 R116; 09 R248; 14 R402). A staged one is decrypted by the next lane of the placement group
whose ream it goes to (11 R329; DEDUCED, log 77). A reconstruct that takes the place of a read of a link or die out
of service follows no decode failure, so its rung is that of a first read (04 R116). Where neither is possible the read waits
for its link, and fails where that is gone for good (01 R19; 09 R249). -/
def State.startUnit (s : State) (i idx : Nat) (u : IoUnit) : State :=
  match (s.blk u.nsid u.lba).staged with
  | some b =>
    let g := ((tfind s.media.reams b.loc.ream).map Ream.grp).getD 0
    ((((s.winReaders u.nsid u.lba true).laneTurn g).enterLane (s.nextLane g) i idx).bufFill i (64 * idx) b.ver.data.cipher []).modUnit i
      idx (fun u => { u with st := .cipher, staged := true, lane := s.nextLane g })
  | none => match (s.blk u.nsid u.lba).media with
    | none => s
    | some (_, l) => match s.readOp l 1 (s.firstSet l) (.unit i idx) with
      | none => s.postUnit (s.unitLink u) i idx { u with rung := 5 } 0x200
      | some (k, op) =>
        if s.placeUp l || !(s.placeDead l || s.reconOk l) then
          (s.linkQueue k op true).modUnit i idx (fun u => { u with st := .media, rung := 1, lset := op.lset })
        else if s.reconOk l then s.startRecon i idx l 1
        else ((s.refreshAt l).failedAt (bkey u.nsid u.lba) l).postUnit (s.unitLink u) i idx { u with rung := 5 } 0x200

/-- The link sequencer of the block's codeword, or the DRAM mover for a staged one (01 read trace; 11 R343, R344). -/
def State.readPort (s : State) (u : IoUnit) : Nat :=
  match (s.blk u.nsid u.lba).staged, (s.blk u.nsid u.lba).media with
  | none, some (_, l) => 0x40 + s.locLink l / 16
  | _, _ => 0x60

/-- The read of one block takes its vat buffer, or waits for it, and starts (01 R18, R19). -/
def State.readUnit (s : State) (i idx : Nat) (u : IoUnit) : State :=
  let s := s.vatAsk (s.readPort u) { size := 4096, plain := true, readPath := true, use := some (i, 64 * idx) }
  if s.hasBuf i (64 * idx) then s.startUnit i idx u else s.modUnit i idx (fun u => { u with st := .vat })

/-- Place on media of a block that a command reads. -/
def State.placeOf (s : State) (u : IoUnit) : Option MediaLoc := (s.blk u.nsid u.lba).media.map Prod.snd

/-- Slices of a unit whose buffers have been granted go to their links' queues. -/
def State.slicesGo (s : State) (i idx : Nat) (u : IoUnit) : State :=
  match s.placeOf u with
  | none => s
  | some l =>
    let go := (u.slices.filter (fun c => c.2.waits && s.hasBuf i (sliceBuf idx c.1))).map Prod.fst
    (go.foldl (fun s p => s.queueSlice l i idx p) s).modUnit i idx (fun u => { u with
      slices := tmap u.slices (fun p c => if go.contains p then { c with waits := false } else c) })

/-- The reads of a command that have been granted their buffers since start (01 R19; 11 R345). -/
def State.readsGo (s : State) (i : Nat) (x : Slot) : State :=
  x.units.foldl (fun s p =>
    if p.2.st = .vat then (if s.hasBuf i (64 * p.1) then s.startUnit i p.1 p.2 else s)
    else if p.2.recon && p.2.slices.any (fun c => c.2.waits) then s.slicesGo i p.1 p.2
    else s) s

/-- The units of a read over block ranges: an unwritten block is ready at once (04 R112, R116). -/
def State.mkUnits (s : State) (ranges : List (Nat × Nat × Nat)) : Tbl IoUnit :=
  let blocks := ranges.flatMap (fun r => (List.range r.2.2).map (fun j => (r.1, r.2.1 + j)))
  (List.range blocks.length).zip (blocks.map (fun b =>
    match (s.blk b.1 b.2).ver with
    | some v => { nsid := b.1, lba := b.2, st := .media, tag := v.tag : IoUnit }
    | none => { nsid := b.1, lba := b.2, st := .ok, unwritten := true, plain := zeros 4096,
                tag := ((s.nsAny b.1).map (fun n => zeroTag n b.2)).getD 0 : IoUnit }))

/-- A unit has its final outcome. -/
def UnitSt.final : UnitSt → Bool
  | .ok => true
  | .failed _ => true
  | _ => false

/-- The failed units: block offset and status, in order. -/
def Slot.failures (x : Slot) : List (Nat × Nat) :=
  x.units.filterMap (fun p => match p.2.st with | .failed st => some (p.1, st) | _ => none)

/-- Host writes of a finished READ: the blocks that succeeded, and their tags with BTAG (04 R110, R116). -/
def State.readOut (s : State) (x : Slot) : State :=
  let c := cmdOf x.cmd
  let tagged := ((s.nsAny c.nsid).map (fun n => decide (n.tagMode ≠ 0))).getD false
  x.units.foldl (fun s p => match p.2.st with
    | .ok =>
      let s := s.bufWrite x.gfn x.segs (4096 * p.1) p.2.plain
      if c.btag && tagged then s.hostData x.gfn (c.tlptr + 8 * p.1) (leBytes 8 p.2.tag) else s
    | _ => s) s

/-- RESULT of a successful READ (04 R116). -/
def readResult (x : Slot) : BitVec 64 :=
  let us := x.units.map Prod.snd
  BitVec.ofNat 64 (us.foldl (fun a u => max a u.rung) 0 + 16 * b2n (us.any IoUnit.staged) + 32 * b2n (us.any IoUnit.rbusy)
    + 64 * b2n (us.any IoUnit.susp))

/-- RESULT of a successful VERIFY (04 R124). -/
def verifyResult (x : Slot) : BitVec 64 :=
  let us := x.units.map Prod.snd
  BitVec.ofNat 64 (us.foldl (fun a u => max a u.rung) 0 + 2 ^ 32 * (us.filter (fun u => decide (2 ≤ u.rung))).length)

/-- The command's blocks go to encryption (01 write trace step 9): one unit per block, on the lanes of its placement group in
turn (11 R329). The spec does not say which group that is for a write to a zone that already holds a ream, where PLH has no effect (04
R103): it is the group that check 3 resolved (DESIGN CHOICE, log 77). -/
def State.encrypt (s : State) (i : Nat) (data : List (List Byte)) (tags : List Nat) : State :=
  match s.slot i with
  | none => s
  | some x =>
    let c := cmdOf x.cmd
    let (s, ls) := s.takeLanes x.grp data.length
    let us := (List.range data.length).zip
      ((data.zip ls).map (fun d => ({ nsid := c.nsid, lba := 0, st := .cipher, plain := d.1, lane := d.2 } : IoUnit)))
    us.foldl (fun s u => s.enterLane u.2.lane i u.1)
      (s.setSlot i { x with phase := .units, enc := true, units := us, data := data, tags := tags })

/-- GUARD and REF of a block the controller computes itself (04 R111); LBA mode sets REF where the block lands. -/
def ownTag (ns : Ns) (d : List Byte) : Nat := if ns.tagMode = 0 then 0 else guardOf d

/-- Sources of a COPY are all read: their plaintext and tags (04 R125). -/
def State.copyGathered (s : State) (i : Nat) (x : Slot) : State :=
  let c := cmdOf x.cmd
  match s.nsAny c.nsid with
  | none => s.fix i 0x004 0
  | some ns =>
    let us := x.units.map Prod.snd
    let tags := us.map (fun u => if ns.tagMode = 0 then 0
      else if ((s.nsAny u.nsid).map Ns.tagMode).getD 0 = 0 then ownTag ns u.plain else u.tag)
    s.encrypt i (us.map IoUnit.plain) tags

/-- The last unit of a command is recorded (11 R347). -/
def State.unitsDone (s : State) (i : Nat) (x : Slot) : State :=
  let c := cmdOf x.cmd
  match x.failures with
  | (o, st) :: r =>
    let s := if c.opc = 1 && !x.enc then s.readOut x else s
    s.fix i st (badBlocks o (r.length + 1))
  | [] =>
    if x.enc then
      if c.opc = 3 ∨ c.opc = 9 then
        ({ s with sub := { s.sub with nextReady := s.sub.nextReady + 1 } }).setSlot i { x with phase := .appendReady, readyAt := s.sub.nextReady }
      else s.setSlot i { x with phase := .mirror }
    else if c.opc = 1 then (s.readOut x).fix i 0 (readResult x)
    else if c.opc = 8 then s.fix i 0 (verifyResult x)
    else s.copyGathered i x

/-- Fix or go on if every unit of the command has its outcome. -/
def State.unitsCheck (s : State) (i : Nat) : State :=
  match s.slot i with
  | none => s
  | some x => if x.phase = .units ∧ x.units.all (fun p => p.2.st.final) = true then s.unitsDone i x else s

/-- Start the reads of a command (04 R116, R124, R125). -/
def State.startReads (s : State) (i : Nat) (x : Slot) (ranges : List (Nat × Nat × Nat)) : State :=
  let us := s.mkUnits ranges
  let s := s.setSlot i { x with phase := .units, units := us }
  let s := us.foldl (fun s p => if p.2.unwritten then s else s.readUnit i p.1 p.2) s
  s.unitsCheck i

/-- A zone of a range is OFFLINE (04 R116). -/
def State.touchesOffline (s : State) (nsid lo hi : Nat) : Bool :=
  (s.zonesOf nsid).any (fun p =>
    let z := p.1 % 2 ^ 21
    decide (p.2.st = .offline ∧ zslba z < hi ∧ lo < zslba (z + 1)))

/-- A command of an opcode that may run its own step. -/
def State.atStep (s : State) (i opc : Nat) (k : Slot → Cmd → State) : State :=
  match s.slot i with
  | none => s
  | some x => if x.phase = .ready ∧ (cmdOf x.cmd).opc = opc ∧ s.pwr.pfailLow = false then k x (cmdOf x.cmd) else s

/-- A command of an opcode whose reads run and that is not writing yet. -/
def State.reading (s : State) (i opc : Nat) : Option Slot :=
  match s.slot i with
  | none => none
  | some x => if x.phase = .units ∧ x.enc = false ∧ (cmdOf x.cmd).opc = opc ∧ s.pwr.pfailLow = false then some x else none

/-- READ and VERIFY (04 R116, R124); again, the reads that waited for buffers go on (01 R19). -/
def State.doRead (s : State) (i opc : Nat) : State :=
  match s.reading i opc with
  | some x => (s.readsGo i x).unitsCheck i
  | none => s.atStep i opc (fun x c =>
    if s.touchesOffline c.nsid c.slba (c.slba + c.nlb) then s.fix i 0x102 0
    else if c.opc = 1 && s.ideBlocked x.gfn then s.fix i 0x007 0
    else s.startReads i x [(c.nsid, c.slba, c.nlb)])

/-! ### Write data -/

/-- Deckle whose staging a command's blocks take: its zone's ream, its run, or a member of the group that will hold
them (01 R28). -/
def State.stageDeckle (s : State) (x : Slot) (ns : Ns) : Nat :=
  let c := cmdOf x.cmd
  match x.locs with
  | l :: _ => l.ream / 2 ^ 20
  | [] => match (s.zone c.nsid (zoneOfLba c.slba)).ream with
    | some r => r / 2 ^ 20
    | none => (s.bestDeckle (if ns.zoned then x.grp else ns.home) (fun _ => 1)).getD 0

/-- The host DMA engine that reads for a function (02 R33; 11 R343). -/
def State.dmaPort (s : State) (g : Nat) : Nat := if s.portOf g < s.nPf / 2 then 0x48 else 0x4A

/-- Ask for the vat buffers of a write's data, one per block (01 write trace step 6; 11 R342). -/
def State.askWrite (s : State) (i g n : Nat) : State :=
  (List.range n).foldl (fun s j =>
    s.vatAsk (s.dmaPort g) { size := 4096, plain := true, readPath := false, use := some (i, 64 * j) }) s

/-- A write whose buffers are all granted asks for its data, tags first (01 write trace step 7; 04 R109). -/
def State.writeFetch (s : State) (i : Nat) (c : Cmd) (ns : Ns) : State :=
  match s.slot i with
  | none => s
  | some x =>
    if x.phase ≠ .vatWait ∨ x.bufs.length < c.nlb then s
    else if c.btag && decide (ns.tagMode ≠ 0) then
      (s.setSlot i { x with phase := .tagFetch, dma := true }).dmaAsk x.gfn c.tlptr (8 * c.nlb)
    else s.askData i x

/-- Reserve staging, then take the vat buffers, and ask for the data (01 R18, R28, write trace steps 6, 7). WRITE_ZEROES has its
data and moves none. -/
def State.startWrite (s : State) (i : Nat) (x : Slot) (c : Cmd) (ns : Ns) : State :=
  let d := s.stageDeckle x ns
  if c.opc ≠ 10 && s.ideBlocked x.gfn then s.fix i 0x007 0
  else if !s.stageRoom d (c.nlb * 4096) then s
  else
    let x := { x with resv := c.nlb * 4096, resvDk := d }
    let s := s.stageTake d (c.nlb * 4096)
    if c.opc = 10 then
      (s.setSlot i x).encrypt i (List.replicate c.nlb (zeros 4096)) (List.replicate c.nlb (if ns.tagMode = 0 then 0 else guardZero))
    else ((s.setSlot i { x with phase := .vatWait }).askWrite i x.gfn c.nlb).writeFetch i c ns

/-- While collection is urgent a host write of n bundles goes only as fast as collection moves bundles; where collection can
free nothing it does not wait (09 R258; DEDUCED, log 61). -/
def State.gcPaced (s : State) (g n : Nat) : Bool := (s.grp g).urgent && decide ((s.grp g).moved < n) && s.gcCanFree g

/-- A random write placed on a group has ended with 0x00B: SPARES for every group of its deckles (09 R269). -/
def State.sparesGrouped (s : State) (g : Nat) : State :=
  let gs := (List.range 16).filter (fun h => decide (h = g) || [0, 1, 2].any (fun d => s.inGroup g d && s.inGroup h d))
  s.watching (fun s => { s with glb := { s.glb with
    sparesGroups := gs.foldl (fun m h => m ||| (1#16 <<< h)) s.glb.sparesGroups } })

/-- Some free ream of the group's random reservation is left to another namespace, while this one's is used up: the free fraction is
not 0 (05 R153; 09 R258). -/
def State.reamsLeft (s : State) (g : Nat) (ns : Ns) : Bool :=
  decide (g = ns.home) && (s.bestDeckle ns.home ns.unformed).isNone && decide (0 < s.grpFree g)

/-- Capacity of a random write (04 R117; 05 R153, R156; 09 R258, R269): places, a wait for collection in the group that the
steps of R156 settle on, or 0x00B with SPARES. -/
def State.randomPlaces (s : State) (i : Nat) (x : Slot) (c : Cmd) (ns : Ns) : State × Option Slot :=
  let s := s.urgencyCheck ns.home
  let n := (bundleParts c.slba (c.slba + c.nlb)).length
  if s.gcPaced ns.home n then (s, none)
  else match s.allocWrite c.nsid ns x.cls x.grp c.slba (c.slba + c.nlb) with
  | .ok t l => (t.modGrp ns.home (fun x => { x with moved := x.moved - n }), some { x with locs := l })
  | .wait t => (t, none)
  | .fail t =>
    let g := if x.grp ≠ ns.home && (s.bestDeckle x.grp s.unreserved).isNone && bitN (s.pv (pCls x.cls 5)) ns.home then ns.home else x.grp
    if s.gcCanFree g || s.reamsLeft g ns then (t, none) else ((t.fix i 0x00B 0).sparesGrouped g, none)

/-- WRITE and WRITE_ZEROES (04 R117, R127): a zone write follows its zone sequence, a random write takes its places. No step
starts once PFAIL# is sampled (08 R233). -/
def State.doWrite (s : State) (i opc : Nat) : State :=
  match s.slot i with
  | none => s
  | some x =>
    let c := cmdOf x.cmd
    if c.opc ≠ opc || s.pwr.pfailLow then s
    else match s.nsAny c.nsid with
      | none => s
      | some ns =>
        if x.phase = .vatWait then s.writeFetch i c ns
        else if ns.zoned then (if x.phase = .seqPassed then s.startWrite i x c ns else s)
        else if x.phase ≠ .ready then s
        else if x.locs.isEmpty then
          match s.randomPlaces i x c ns with
          | (t, some y) => (t.setSlot i y).startWrite i y c ns
          | (t, none) => t
        else s.startWrite i x c ns

/-- ZONE_APPEND (04 R118) up to its staging. -/
def State.doAppend (s : State) (i : Nat) : State :=
  match s.slot i with
  | none => s
  | some x => match s.nsAny (cmdOf x.cmd).nsid with
    | none => s
    | some ns =>
      if (cmdOf x.cmd).opc ≠ 3 || s.pwr.pfailLow then s
      else if x.phase = .vatWait then s.writeFetch i (cmdOf x.cmd) ns
      else if x.phase = .ready then s.startWrite i x (cmdOf x.cmd) ns else s

/-- COPY (04 R125) up to its staging: staging is reserved, then every source block is read, and encrypted again in the buffer
that it was read into. -/
def State.doCopy (s : State) (i : Nat) : State :=
  match s.reading i 9 with
  | some x => (s.readsGo i x).unitsCheck i
  | none => s.atStep i 9 (fun x c => match s.nsAny c.nsid with
    | none => s
    | some ns =>
      let d := s.stageDeckle x ns
      if !s.stageRoom d (c.nlb * 4096) then s
      else
        let x := { x with resv := c.nlb * 4096, resvDk := d }
        (s.stageTake d (c.nlb * 4096)).startReads i x (x.ranges.map (fun r => (r.2.2.2, r.2.1, r.2.2.1))))

/-- Host tags against the data (04 R111): the offsets that mismatch. -/
def tagMismatch (c : Cmd) (ns : Ns) (data : List (List Byte)) (tags : List Nat) : List Nat :=
  (List.range data.length).filter (fun j =>
    let t := tags.getD j 0
    decide (t % 65536 ≠ guardOf (data.getD j [])) ||
    (decide (ns.tagMode = 2) && c.opc == 2 && decide (t / 65536 ≠ (c.slba + j) % 2 ^ 48)))

/-- Write data has arrived (04 R110, R111). -/
def State.dataArrived (s : State) (i : Nat) (x : Slot) (bytes : List Byte) : State :=
  let c := cmdOf x.cmd
  match s.nsAny c.nsid with
  | none => s
  | some ns =>
    let data := (List.range c.nlb).map (blockOf bytes)
    let s := (List.range c.nlb).foldl (fun s j => s.bufFill i (64 * j) (blockOf bytes j) []) s
    if x.tags.isEmpty then s.encrypt i data (data.map (ownTag ns))
    else match tagMismatch c ns data x.tags with
      | [] => s.encrypt i data x.tags
      | o :: r => s.fix i 0x201 (badBlocks o (r.length + 1))

/-! ### Zone sequence and staging of appends -/

/-- Checks 9 of a write to a zone before the limits (04 R114, R117, R118, R125): status and RESULT, or pass.
`wp` is the pointer the command is validated against. -/
def State.zoneChecks (s : State) (x : Slot) (c : Cmd) (z : Zone) (wp : Nat) (append : Bool) : Option (Nat × BitVec 64) :=
  let zs := zslba (zoneOfLba c.slba)
  let badSrc := if c.opc = 9 then
      x.ranges.find? (fun r => s.touchesOffline r.2.2.2 r.2.1 (r.2.1 + r.2.2.1)) else none
  if z.st = .offline then some (0x102, 0)
  else match badSrc with
    | some r => some (0x102, badEntry r.1)
    | none =>
      if z.st = .readOnly then some (0x101, 0)
      else if z.st = .full then some (0x100, 0)
      else if append then (if z.zcap < wp + c.nlb then some (0x103, 0) else none)
      else if zs + z.zcap < c.slba + c.nlb then some (0x103, 0)
      else if c.slba ≠ zs + wp then some (0x104, BitVec.ofNat 64 (zs + wp))
      else none

/-- Open the zone for a write where it is not open (04 R117; 05 R141, R149). -/
def State.openForWrite (s : State) (i : Nat) (x : Slot) (c : Cmd) (ns : Ns) : Opened :=
  let z := zoneOfLba c.slba
  if (s.zone c.nsid z).st.isOpen then .ok s else s.openZone i c.nsid z ns x.cls x.grp .implicitOpen

/-- The status of checks 9 and 10 that an append would end with now, if it would (04 R114, R118). -/
def State.appendRefused (s : State) (i : Nat) (x : Slot) (c : Cmd) : Option (State × Nat × BitVec 64) :=
  match s.nsAny c.nsid with
  | none => none
  | some ns => match s.zoneChecks x c (s.zone c.nsid (zoneOfLba c.slba)) (s.zone c.nsid (zoneOfLba c.slba)).wp true with
    | some (st, r) => some (s, st, r)
    | none => match s.openForWrite i x c ns with
      | .fail t st => some (t, st, 0)
      | _ => none

/-- A failed DMA read (02 R35, R47; 04 R109): the sticky bits and 0x007. A range list's failure ranks after the faults in
bytes 0–23, an append's tag list after checks 9 and 10. -/
def State.dmaFailed (s : State) (i : Nat) (x : Slot) (poison : Bool) : State :=
  let c := cmdOf x.cmd
  let s := if poison then s.errSet x.gfn 7 else s.errSet x.gfn 5
  if x.phase = .listFetch ∧ c.opc = 9 then s.firstBad i (x.bad.filter (fun o => decide (o < 24))) (s.fix i 0x007 0)
  else if x.phase = .tagFetch ∧ c.opc = 3 then
    match s.appendRefused i x c with
    | some (t, st, r) => t.fix i st r
    | none => s.fix i 0x007 0
  else s.fix i 0x007 0

/-- A host read ends (02 R35; 01 R30; 08 R221): a failure decides the command's status, else a stop that waits takes effect,
else what the read brought does. -/
def State.dmaDone (s : State) (i : Nat) (x : Slot) (res : DmaRes) : State :=
  let y := { x with dma := false }
  let s := s.setSlot i y
  match dmaBytes res with
  | none => s.dmaFailed i y (decide (res = .poison))
  | some l => match x.stop with
    | some st => s.stopNow i st
    | none =>
      if x.phase = .listFetch then s.listArrived i y l
      else if x.phase = .tagFetch then s.tagsArrived i y l
      else s.dataArrived i y l

/-- LIST_FETCH_DONE (04 R109). -/
def execListFetchDone (i : Nat) (res : DmaRes) (s : State) : Res :=
  .next (s.unlessPfail (match s.slot i with
    | none => s
    | some x => if x.dma && decide (x.phase = .listFetch ∨ x.phase = .tagFetch) then s.dmaDone i x res else s))

/-- No earlier command of the zone is undecided in its sequence (04 R117). -/
def State.isHead (s : State) (i : Nat) (x : Slot) (c : Cmd) : Bool :=
  s.sub.slots.all (fun p =>
    let d := cmdOf p.2.cmd
    decide (p.1 = i) || !(p.2.before x) || !(d.opc == 2 || d.opc == 10) || decide (d.nsid ≠ c.nsid)
    || decide (zoneOfLba d.slba ≠ zoneOfLba c.slba)
    || !(p.2.uninserted || decide (p.2.phase = .blocked ∨ p.2.phase = .ready)))

/-- A WRITE or WRITE_ZEROES at the head of its zone's sequence (04 R117). -/
def State.writeHead (s : State) (i : Nat) (x : Slot) (c : Cmd) (ns : Ns) : State :=
  let zi := zoneOfLba c.slba
  let z := s.zone c.nsid zi
  match s.zoneChecks x c z (z.wp + z.pend) false with
  | some (st, r) => s.fix i st r
  | none => match s.openForWrite i x c ns with
    | .wait t => t
    | .fail t st => t.fix i st 0
    | .ok t =>
      let t := t.modZone c.nsid zi (fun z => { z with pend := z.pend + c.nlb })
      t.setSlot i { x with phase := .seqPassed, adv := c.nlb }

/-- A command of a zone is being staged (04 R118; 05 R146). -/
def Slot.stages (y : Slot) (nsid z : Nat) : Bool :=
  let d := cmdOf y.cmd
  opWrite d.opc && decide (d.nsid = nsid ∧ zoneOfLba d.slba = z) && decide (y.phase = .mirror)
    && (d.opc == 3 || d.opc == 9 || decide (y.mirrored ≠ 0))

/-- Another command of the zone is being staged, or an append of it was ready before this one (04 R118). -/
def State.zoneStaging (s : State) (i : Nat) (x : Slot) (c : Cmd) : Bool :=
  s.sub.slots.any (fun p => decide (p.1 ≠ i) && (p.2.stages c.nsid (zoneOfLba c.slba)
    || (decide (p.2.phase = .appendReady ∧ p.2.readyAt < x.readyAt) && decide ((cmdOf p.2.cmd).nsid = c.nsid)
      && decide (zoneOfLba (cmdOf p.2.cmd).slba = zoneOfLba c.slba))))

/-- Move a command's staging reservation to the deckle of its ream. -/
def State.moveReserve (s : State) (x : Slot) (d : Nat) : State × Slot :=
  ((s.stageGive x.resvDk x.resv).stageTake d x.resv, { x with resvDk := d })

/-- Stage an append whose data is ready at the write pointer (04 R118): checks 9 and 10, the landing, the narrowed
in-flight entry. It waits where the deckle of its ream has no room to stage it (01 R28). -/
def State.doAppendStage (s : State) (i : Nat) : State :=
  match s.slot i with
  | none => s
  | some x =>
    let c := cmdOf x.cmd
    let zi := zoneOfLba c.slba
    if x.phase ≠ .appendReady || s.zoneStaging i x c then s
    else match s.nsAny c.nsid with
      | none => s.fix i 0x004 0
      | some ns =>
        let z := s.zone c.nsid zi
        match s.zoneChecks x c z z.wp true with
        | some (st, r) => s.fix i st r
        | none => match s.openForWrite i x c ns with
          | .wait t => t
          | .fail t st => t.fix i st 0
          | .ok t =>
            let d := t.zoneDeckle c.nsid zi
            if d ≠ x.resvDk && !(t.stageFits d x.resv) then s
            else
              let land := zslba zi + (t.zone c.nsid zi).wp
              let (t, y) := t.moveReserve x d
              let t := t.setSlot i { y with landing := land, phase := .mirror }
              match x.hz.getLast? with
              | some h => t.hzModify h land (land + c.nlb - 1)
              | none => t

/-- ZONE_SEQUENCE_HEAD (04 R117, R118): a WRITE is validated; an append whose data is ready is staged. -/
def State.doSequenceHead (s : State) (i : Nat) : State :=
  match s.slot i with
  | none => s
  | some x =>
    let c := cmdOf x.cmd
    if c.opc = 3 ∨ c.opc = 9 then s.doAppendStage i
    else if x.phase = .ready ∧ (c.opc = 2 ∨ c.opc = 10) then
      match s.nsAny c.nsid with
      | none => s
      | some ns => if ns.zoned && s.isHead i x c then s.writeHead i x c ns else s
    else s

/-! ### Pieces -/

/-- First block of a write-type command's pieces. -/
def Slot.base (x : Slot) : Nat := let c := cmdOf x.cmd; if c.opc = 3 ∨ c.opc = 9 then x.landing else c.slba

/-- The stored tag of block j, landing at an LBA (04 R111). -/
def Slot.tagAt (x : Slot) (ns : Ns) (j lba : Nat) : Nat :=
  let t := x.tags.getD j 0
  if ns.tagMode = 2 then t % 65536 + 65536 * (lba % 2 ^ 48) else if ns.tagMode = 0 then 0 else t

/-- Where block j of the command lands on media. -/
def State.locOf (s : State) (x : Slot) (ns : Ns) (j lba : Nat) : MediaLoc :=
  if ns.zoned then
    let z := zoneOfLba lba
    locAt ((s.zone (cmdOf x.cmd).nsid z).ream.getD 0) (lba - zslba z)
  else x.locs.getD j { ream := 0 }

/-- Put the blocks of a piece into staging (01 write trace steps 10, 11). -/
def State.stagePiece (s : State) (x : Slot) (ns : Ns) (lo hi chA chB : Nat) : State :=
  let c := cmdOf x.cmd
  (List.range (hi - lo)).foldl (fun s k =>
    let lba := lo + k
    let j := lba - x.base
    let v : BlkVer := { data := { slot := x.kslot, gen := x.kgen, lba := lba, plain := x.data.getD j [] }, tag := x.tagAt ns j lba }
    s.stagePut c.nsid lba x.resvDk chA chB v (s.locOf x ns j lba)) s

/-- Map the bundles of a random piece; none where one of them has to wait (05 R152). -/
def State.mapPiece (s : State) (x : Slot) (ns : Ns) (lo hi : Nat) : Option State :=
  (bundleParts lo hi).foldl (fun o p => o.bind (fun s => s.mapBundle (cmdOf x.cmd).nsid ns x.cls x.grp p.1 p.2.1 p.2.2
    (x.locs.getD (p.2.1 - x.base) { ream := 0 }))) (some s)

/-- The piece is in staging: the zone's pointer advances over it, or its bundles are mapped (04 R117; 05 R151). None where a
parity sheet finds no room in staging (01 R28) or a read-merge has to wait. -/
def State.placePiece (s : State) (x : Slot) (c : Cmd) (ns : Ns) (lo hi : Nat) : Option State :=
  let z := zoneOfLba c.slba
  if ns.zoned then
    let n := s.parityBytes c.nsid z (hi - lo)
    if n ≠ 0 && !(s.stageFits (s.zoneDeckle c.nsid z) n) then none
    else some ((s.zoneAdvance c.nsid z (hi - lo)).modZone c.nsid z
      (fun z => { z with pend := if x.adv = 0 then z.pend else z.pend - (hi - lo) }))
  else (s.mapPiece x ns lo hi).map (fun s => s.jrec x.resvDk)

/-- Make one piece durable: its window, staging, the zone's pointer or the bundle map; the last one ends the command
(01 R20; 04 R117; 14 R401). -/
def State.applyPiece (s : State) (i p : Nat) (x : Slot) (c : Cmd) (ns : Ns) : State :=
  let ps := x.pieceList ns.zoned
  let (lo, hi) := ps.getD p (0, 0)
  match s.stageWindow c.nsid lo (hi - 1) with
  | none =>
    if x.stgCounted then s
    else ({ s with hz := { s.hz with full8 := satInc s.hz.full8 } }).setSlot i { x with stgCounted := true }
  | some t =>
    let ch := tget x.chans p 1
    let t := { t with media := { t.media with piece := t.media.piece + 1, hostBytes := t.media.hostBytes + 4096 * (hi - lo) } }
    match (t.stagePiece x ns lo hi (ch / 32) (ch % 32)).placePiece x c ns lo hi with
    | none => s
    | some t =>
      let y := { x with
        pieces := x.pieces ||| (1#8 <<< p), resv := x.resv - 4096 * (hi - lo), stgCounted := false
        adv := x.adv - (hi - lo) }
      let t := t.setSlot i y
      if y.pieces.toNat = allPieces ps.length then
        t.fix i 0 (if c.opc = 3 ∨ c.opc = 9 then BitVec.ofNat 64 x.landing else 0)
      else t

/-- The pieces that may become durable next: in a zone the first that is not, in a random namespace the one named. -/
def nextPiece (x : Slot) (zoned : Bool) (p : Nat) : Nat :=
  if zoned then ((List.range 8).find? (fun j => !x.pieces.getLsbD j)).getD 0 else p

/-- After a step: a stop that waited for its end takes effect (01 R30). -/
def State.stopDue (s : State) (i : Nat) : State :=
  match s.slot i with
  | none => s
  | some x => match x.stop with
    | none => s
    | some st => if s.inStep i x then s else s.stopNow i st

/-- MIRROR_WRITE_ACK (01 R20, R21; 04 R115, R117; 08 R226): both copies of a piece are acknowledged on two channels; once
every piece is mirrored, a stop that waited takes effect (01 R30), or pieces become durable, one at each acknowledgement. A WRITE validated against an advance that an
earlier one did not make ends at the pointer after that one's pieces. -/
def State.mirrorAck (s : State) (i p chA chB : Nat) (ok : Bool) : State :=
  match s.slot i with
  | none => s
  | some x =>
    let c := cmdOf x.cmd
    match s.nsAny c.nsid with
    | none => s
    | some ns =>
      let n := (x.pieceList ns.zoned).length
      if x.phase ≠ .mirror ∨ n ≤ p then s
      else if !ok then (if x.pieces = 0 then s.fix i 0x204 0 else s)
      else if chA % 8 = chB % 8 || !s.dramUp chA || !s.dramUp chB then s
      else
        let isWrite := decide (c.opc = 2 ∨ c.opc = 10) && ns.zoned
        if isWrite && !(s.stageTurn i x c) then s
        else match (if isWrite then s.stageBad x c else none) with
          | some (st, r) => s.fix i st r
          | none =>
            let y := if x.mirrored.getLsbD p then x
              else { x with mirrored := x.mirrored ||| (1#8 <<< p), chans := tset x.chans p (32 * chA + chB) }
            let s := s.setSlot i y
            let q := nextPiece y ns.zoned p
            if y.mirrored.toNat ≠ allPieces n then s
            else if y.stop.isSome then s.stopDue i
            else if !y.pieces.getLsbD q then s.applyPiece i q y c ns else s

/-! ### Cipher units and the collector -/

/-- Key slot and generation under which a unit is processed, and whether the lane takes it (04 R104, R125; 11 R337). -/
def State.unitKey (s : State) (x : Slot) (u : IoUnit) : Nat × Nat × Bool :=
  if x.enc then (x.kslot, x.kgen, s.laneKey x.gfn x.kslot x.kgen)
  else match (s.blk u.nsid u.lba).ver with
    | none => (0, 0, false)
    | some v =>
      if (cmdOf x.cmd).opc = 9 then (v.data.slot, v.data.gen, s.laneKey x.gfn v.data.slot v.data.gen)
      else (v.data.slot, v.data.gen,
        decide (v.data.slot = x.kslot ∧ v.data.gen = x.kgen) && s.laneKey x.gfn x.kslot x.kgen)

/-- A read unit's plaintext and end-to-end check (04 R111). -/
def State.openUnit (s : State) (u : IoUnit) : IoUnit × Nat :=
  match (s.blk u.nsid u.lba).ver with
  | none => ({ u with plain := zeros 4096 }, 0)
  | some v =>
    let u := { u with plain := v.data.plain, tag := v.tag }
    match s.nsAny u.nsid with
    | none => (u, 0)
    | some ns =>
      if ns.tagMode ≠ 0 ∧ v.tag % 65536 ≠ guardOf v.data.plain then (u, 0x201)
      else if ns.tagMode = 2 ∧ v.tag / 65536 ≠ u.lba % 2 ^ 48 then (u, 0x201)
      else (u, 0)

/-- CIPHER_UNIT_DONE (11 R328–R330, R337, R338, R347): of a unit inside the lane, which posts to the queue of the lane's slice; where no
lane of the device is in service a unit that waits for one ends with 0x203. -/
def State.cipherDone (s : State) (lane i idx : Nat) (ok : Bool) : State :=
  match s.slot i with
  | none => s
  | some x => match tfind x.units idx with
    | none => s
    | some u =>
      let noLane := (List.range 96).all (fun l => !s.laneUp l)
      let here := (s.lane lane).inside.contains (i, idx)
      if u.st ≠ .cipher || 96 ≤ lane || (!noLane && !here) then s
      else if s.collectFull lane then s.collectStall lane
      else
        let s := if u.staged then s.winReaders u.nsid u.lba false else s
        let (ks, kg, good) := s.unitKey x u
        let s := if !here then s.collect lane i idx u 0x203
          else if !good then s.collect lane i idx u 0x202
          else if !ok then (s.collect lane i idx u 0x203).laneFault lane
          else
            let s := s.laneUse lane ks kg
            if x.enc then s.collect lane i idx u 0
            else let (v, st) := s.openUnit u; s.collect lane i idx v st
        (if here then s.modLane lane (fun l => l.leave (fun u => decide (u = (i, idx)))) else s).stopDue i

/-- The first non-empty source queue after the one served last (11 R347). -/
def ccPick (t : Tbl (List (Nat × Nat))) (last : Nat) : Option Nat :=
  ((List.range 96).map (fun i => (last + 1 + i) % 96)).find? (fun k => !(tget t k []).isEmpty)

/-- COMPLETION_COLLECTOR_ENTRY (11 R347). -/
def State.collectorStep (s : State) : State :=
  match ccPick s.sub.ccq s.sub.ccLast with
  | none => s
  | some k => match tget s.sub.ccq k [] with
    | [] => s
    | (i, idx) :: r =>
      let s := { s with
        sub := { s.sub with
          ccq := tset s.sub.ccq k (r ++ (tget s.sub.ccWait k []).take 1), ccLast := k
          ccWait := if (tget s.sub.ccWait k []).isEmpty then s.sub.ccWait else tset s.sub.ccWait k ((tget s.sub.ccWait k []).drop 1) }
        pwr := { s.pwr with gated := false } }
      let s := s.modUnit i idx (fun u => if u.st = .posted then
        { u with st := if u.res = 0 then .ok else .failed u.res } else u)
      s.unitsCheck i

/-! ### Direct commands -/

/-- Deckles that hold reams of a namespace's blocks (04 R120). -/
def State.nsDeckles (s : State) (nsid : Nat) : List Nat :=
  ((s.zonesOf nsid).filterMap (fun p => p.2.ream.map (fun r => r / 2 ^ 20))) ++
  (s.media.blks.filter (fun p => decide (p.1 / 2 ^ 40 = nsid))).filterMap (fun p => match p.2.staged with
    | some g => some g.deckle
    | none => p.2.media.map (fun m => m.2.ream / 2 ^ 20))

/-- The namespaces a FLUSH covers (04 R119). -/
def State.flushSet (s : State) (x : Slot) (c : Cmd) : List Nat :=
  if c.nsid = 0xFFFFFFFF then (s.nss.filter (fun p => p.2.fns.contains x.gfn)).map Prod.fst else [c.nsid]

/-- FLUSH has no earlier command to wait for (04 R119). -/
def State.flushFree (s : State) (x : Slot) (l : List Nat) : Bool :=
  s.sub.slots.all (fun p =>
    let d := cmdOf p.2.cmd
    !(p.2.before x) || !(opWrite d.opc || d.opc == 7 || d.opc == 5) || !l.contains d.nsid)

/-- A quire's record. -/
def Ream.quire (r : Ream) (q : Nat) : Quire := tget r.quires q {}

/-- Blocks of a ream written so far, in order of place. -/
def State.filled (s : State) (r : Ream) : Nat :=
  if r.kind = 1 then (s.zone r.nsid (zoneOfLba r.zslba)).wp else r.fill

/-- Every data sheet of a quire has its data; a closed ream's last quire is filled with pads (09 R247). -/
def State.quireFull (s : State) (r : Ream) (q : Nat) : Bool :=
  decide ((q + 1) * 1984 ≤ s.filled r) || (r.closed && decide (q * 1984 < s.filled r))

/-- A staged block's quire can not verify as things are: it is not full yet, or its zone is READ_ONLY (09 R251, R253). -/
def State.quirePartial (s : State) (g : Staged) : Bool :=
  match tfind s.media.reams g.loc.ream with
  | some r => !s.quireFull r g.loc.quire || (decide (r.kind = 1) && decide ((s.zone r.nsid (zoneOfLba r.zslba)).st = .readOnly))
  | none => true

/-- A staged block of such a quire without a place in the flush area: only an eviction frees it. Whole sheets of the quire that are
programmed natively are no exception (04 R120; 09 R261). -/
def State.isPartial (s : State) (g : Staged) : Bool := g.flush.isNone && s.quirePartial g

/-- Blocks that an SLC ream holds: 64 quires (09 R238). -/
def slcBlocks : Nat := 64 * 1984

/-- An open flush-area ream of a deckle. -/
def State.flushReam (s : State) (d : Nat) : Option (Nat × Ream) :=
  s.media.reams.find? (fun r => decide (r.2.kind = 4 ∧ r.2.deckle = d ∧ r.2.fill < slcBlocks))

/-- A deckle's flush area holds its 16 reams. -/
def State.flushAll (s : State) (d : Nat) : Bool :=
  decide (16 ≤ (s.media.reams.filter (fun r => decide (r.2.kind = 4 ∧ r.2.deckle = d))).length)

/-- No flush sheet of a deckle can be programmed (04 R120): no open ream, and none can be formed. -/
def State.flushNone (s : State) (d : Nat) : Bool :=
  (s.flushReam d).isNone && (s.flushAll d || (match s.formReam d 4 0 0 0 0 with | .fail _ => true | _ => false))

/-- The first place of an SLC ream from its fill on that stands in its bundle where the block's native place stands: a whole bundle
so keeps its blocks in one bundle of the flush area (09 R244). -/
def Ream.flushAt (r : Ream) (cw : Nat) : Nat := r.fill + (16 + cw % 16 - r.fill % 16) % 16

/-- The next place in a deckle's flush area for a block whose native codeword is `cw`; none where no ream is open and none can be
formed now. -/
def State.flushPlace (s : State) (d cw : Nat) : State × Option MediaLoc :=
  let take := fun (s : State) (id : Nat) (r : Ream) =>
    (s.modReam id (fun r => { r with fill := r.flushAt cw + 1, lastWrite := s.now }), some { locAt id (r.flushAt cw) with flushArea := true })
  match s.flushReam d with
  | some (id, r) => take s id r
  | none =>
    if s.flushAll d then (s, none)
    else match s.formReam d 4 0 0 0 0 with
      | .ok t id => match tfind t.media.reams id with | some r => take t id r | none => (t, none)
      | .wait t => (t, none)
      | .fail t => (t, none)

/-- A FLUSH with MEDIA cannot be met: a block it covers waits for the flush area of a deckle where no flush sheet can be
programmed (04 R120). -/
def State.flushStuck (s : State) (l : List Nat) (order : Nat) : Bool :=
  s.media.blks.any (fun p => l.contains (p.1 / 2 ^ 40) && !p.2.onMedia &&
    (match p.2.staged with | some g => decide (g.order ≤ order) && s.isPartial g && s.flushNone g.deckle | none => false))

/-- Everything that stood when a FLUSH with MEDIA began is on media: the blocks staged before an order, or what was staged over
them since then, and the journal records of each deckle up to a count (04 R119, R120). -/
def State.flushed (s : State) (l : List Nat) (order : Nat) (jrnl : List (Nat × Nat)) : Bool :=
  s.media.blks.all (fun p => !l.contains (p.1 / 2 ^ 40) || p.2.onMedia ||
    (match p.2.staged with | none => true | some g => decide (order < g.first))) &&
  jrnl.all (fun p => decide (p.2 ≤ (s.dk p.1).jprog))

/-- The journal records of the deckles that hold the covered namespaces' reams, as they stand (04 R120). -/
def State.flushJournals (s : State) (l : List Nat) : List (Nat × Nat) :=
  (l.flatMap s.nsDeckles).foldl (fun a d => addOnce a d) [] |>.map (fun d => (d, (s.dk d).jbuf))

/-- FLUSH (04 R119, R120): it waits for the earlier writes, and with MEDIA for what stands then to be on media; 0x204 where
no flush sheet can take it. -/
def State.doFlush (s : State) (i : Nat) : State :=
  match s.slot i with
  | none => s
  | some x =>
    let c := cmdOf x.cmd
    let l := s.flushSet x c
    let j := s.flushJournals l
    if c.opc ≠ 4 || s.pwr.pfailLow then s
    else if x.phase = .flushing then
      (if s.flushed l x.flushOrder x.flushJrnl then s.fix i 0 0
       else if s.flushStuck l x.flushOrder then s.fix i 0x204 0 else s)
    else if x.phase ≠ .ready || !(s.flushFree x l) then s
    else if !c.media || s.flushed l s.media.order j then s.fix i 0 0
    else s.setSlot i { x with phase := .flushing, flushOrder := s.media.order, flushJrnl := j }

/-- The zones of a namespace in some states, in order. -/
def State.zonesIn (s : State) (nsid : Nat) (f : ZState → Bool) : List Nat :=
  ((s.zonesOf nsid).filter (fun p => f p.2.st)).map (fun p => p.1 % 2 ^ 21)

/-- A FINISH or RESET cannot record its change in the media journal: no copy pair of a record can be held (04 R121;
09 R246; DEDUCED, log 62). -/
def State.jrnlStuck (s : State) (action : Nat) : Bool := inR 3 4 action && !s.mirrorOk

/-- One step of ZONE_MGMT with ALL: the action on the next zone of its source set; the last one ends the command (05 R142).
A zone whose action has to wait makes the command wait, and one whose change cannot be recorded ends it. -/
def State.mgmtStep (s : State) (i : Nat) (x : Slot) (c : Cmd) (l : List Nat) (f : ZState → Bool)
    (act : State → Nat → Nat → Option State) : State :=
  match l with
  | [] => s.fix i 0 (BitVec.ofNat 64 x.changed)
  | z :: r =>
    let here := f (s.zone c.nsid z).st
    if here && s.jrnlStuck c.b40 then s.fix i 0x204 0
    else match (if here then act s c.nsid z else some s) with
    | none => s
    | some t =>
      if r.isEmpty then t.fix i 0 (BitVec.ofNat 64 (x.changed + b2n here))
      else t.setSlot i { x with todo := some r, changed := x.changed + b2n here }

/-- A ZONE_MGMT action of its own row (04 R121, 05 R142, R144): the source set of ALL, its limit check before any zone
changes, its effect there, zone by zone, and the effect on one zone. -/
def State.doMgmt (s : State) (i action : Nat) (src : ZState → Bool) (act : State → Nat → Nat → Option State)
    (limit : Ns → Bool) (one : Slot → Cmd → Ns → Nat → State) : State :=
  s.atStep i 5 (fun x c =>
    if c.b40 ≠ action then s
    else match s.nsAny c.nsid with
      | none => s.fix i 0x004 0
      | some ns =>
        if c.all then match x.todo with
          | some l => s.mgmtStep i x c l src act
          | none => if limit ns then s.fix i 0x106 0 else s.mgmtStep i x c (s.zonesIn c.nsid src) src act
        else
          let z := zoneOfLba c.slba
          if (s.zone c.nsid z).st = .offline then s.fix i 0x102 0 else one x c ns z)

/-- One zone changed, or none (04 R121). -/
def State.mgmtOk (s : State) (i n : Nat) : State := s.fix i 0 (BitVec.ofNat 64 n)

/-- Zone descriptor (04 R122). -/
def State.zoneDesc (s : State) (nsid z : Nat) : List Byte :=
  let x := s.zone nsid z
  let wp := match x.st with | .full | .readOnly | .offline => x.zcap | _ => x.wp
  leBytes 1 x.st.code ++ zeros 1 ++ leBytes 2 (if x.ream.isSome then x.pgroup else 0xFFFF) ++ zeros 4 ++ leBytes 8 x.zcap
    ++ leBytes 8 (zslba z) ++ leBytes 8 (zslba z + wp) ++ zeros 32

/-- Zones from `z0` whose state matches a filter; a zone not listed is EMPTY. -/
def State.zoneMatches (s : State) (nsid z0 f nz : Nat) : Nat :=
  let listed := (s.zonesOf nsid).filter (fun p => decide (z0 ≤ p.1 % 2 ^ 21))
  if f = 0 then nz - z0
  else if f = 1 then nz - z0 - (listed.filter (fun p => decide (p.2.st ≠ .empty))).length
  else (listed.filter (fun p => decide (p.2.st.code = f))).length

/-- The first `cap` matching zones from `z0`. -/
def State.zoneList (s : State) (nsid z0 f nz cap : Nat) : List Nat :=
  let listed := ((s.zonesOf nsid).map (fun p => p.1 % 2 ^ 21)).filter (fun z => decide (z0 ≤ z))
  let cand := if f ≤ 1 then (List.range (min (nz - z0) (cap + listed.length))).map (· + z0) else listed
  (cand.filter (fun z => decide (f = 0) || decide ((s.zone nsid z).st.code = f))).take cap

/-- ZONE_REPORT (04 R122). -/
def State.doReport (s : State) (i : Nat) : State :=
  s.atStep i 6 (fun x c => s.unlessIde i x.gfn <| match s.nsAny c.nsid with
    | none => s.fix i 0x004 0
    | some ns =>
      let len := x.segs.foldl (fun a p => a + p.2) 0
      let nz := ns.size / zspan
      let z0 := zoneOfLba c.slba
      let l := s.zoneList c.nsid z0 c.b40 nz (len / 64 - 1)
      let n := if c.partialF then l.length else s.zoneMatches c.nsid z0 c.b40 nz
      let bytes := leBytes 8 n ++ zeros 56 ++ l.flatMap (s.zoneDesc c.nsid)
      (s.bufWrite x.gfn x.segs 0 bytes).fix i 0 (BitVec.ofNat 64 l.length))

/-- SPARES of a group clears when its free fraction is restored (09 R269). -/
def State.sparesRecover (s : State) (g : Nat) : State :=
  if s.glb.sparesGroups.getLsbD g ∧ s.pvA pGcStart ≤ s.freePct g then
    s.watching (fun s => { s with glb := { s.glb with sparesGroups := s.glb.sparesGroups &&& ~~~(1#16 <<< g) } })
  else s

/-- Collection of a group ends when the free fraction is back (09 R258, R269). -/
def State.gcOver (s : State) (g : Nat) : State :=
  let s := s.urgencyCheck g
  if s.pvA pGcStart ≤ s.freePct g then (s.modGrp g (fun x => { x with gcOn := false })).sparesRecover g else s

/-- Runs that are emptied are released (09 R254): collection may end then. A run goes only when no version of a block stands in it any
more, so that what was moved has verified elsewhere. -/
def State.runTrim (s : State) : State :=
  (s.media.reams.filter (fun r => s.runEmpty r.1 r.2)).foldl (fun s r =>
    (((s.dropExtra r.1).releaseReam r.1).modGrp r.2.grp (fun x => { x with victim := if x.victim = some r.1 then none else x.victim })).gcOver r.2.grp) s

/-- Unmap part of one bundle (04 R123, 05 R151). With the split table full the bundle is merged at a place of the group's
collection run, the reserve held for it; none where it has to wait for one. -/
def State.unmapPart (s : State) (nsid : Nat) (ns : Ns) (b lo hi : Nat) : Option State :=
  let x := s.bun nsid b
  if x.st = 0 then some s
  else
    let t := s.dropRange nsid lo hi
    if hi - lo = 16 then some (t.setBun nsid b {})
    else if x.st = 2 then some (if (t.blksIn nsid (16 * b) (16 * (b + 1))).isEmpty then t.setBun nsid b {} else t)
    else if s.splitRoom then some (t.setBun nsid b { st := 2 })
    else
      let g := ((tfind s.media.reams x.loc.ream).map Ream.grp).getD ns.home
      match t.gcPlaces g nsid ns with
      | .ok t l => t.readMerge nsid b l ((List.range (hi - lo)).map (· + lo))
      | _ => none

/-- The bundles of a range that are mapped, in order. -/
def State.mappedIn (s : State) (nsid lo hi : Nat) : List Nat :=
  (s.media.buns.filter (fun p => decide (bkey nsid (lo / 16) ≤ p.1 ∧ p.1 ≤ bkey nsid ((hi - 1) / 16)) && decide (p.2.st ≠ 0))).map
    (fun p => p.1 - bkey nsid 0)

/-- DEALLOCATE (04 R123): each run unmaps the next bundle of its range; the last one ends the command. -/
def State.doDeallocate (s : State) (i : Nat) : State :=
  s.atStep i 7 (fun x c => match s.nsAny c.nsid with
    | none => s.fix i 0x004 0
    | some ns => match x.todo.getD (s.mappedIn c.nsid c.slba (c.slba + c.nlb)) with
      | [] => (s.runTrim.sparesRecover ns.home).fix i 0 0
      | b :: r => match s.unmapPart c.nsid ns b (max c.slba (16 * b)) (min (c.slba + c.nlb) (16 * (b + 1))) with
        | none => s
        | some t =>
          let t := t.jrec (t.zoneDeckle c.nsid 0)
          if r.isEmpty then (t.runTrim.sparesRecover ns.home).fix i 0 0
          else t.setSlot i { x with todo := some r, changed := x.changed + 1 })

/-- NOP (04 R128). -/
def State.doNop (s : State) (i : Nat) : State := s.atStep i 15 (fun _ _ => s.fix i 0 0)

end Sys2Proof.Machine
end

