-- ==== Sys2Proof/Machine/MediaCap.lean ====
section
/-! DEFINITION. The staging cap and what telemetry reports of the media (09 R245, R259, R263, R264, R268, R270). -/

namespace Sys2Proof.Machine

/-- DRAM in service, in bytes: 32 GiB for each logical rank of 16 Gb devices, 64 GiB for 32 Gb (13 R373). -/
def State.dramBytes (s : State) : Nat :=
  s.drc.chans.foldl (fun a p => a +
    (if p.2.st = 1 then popN 4 p.2.insvc.toNat * (if p.2.dev32 then 2 ^ 36 else 2 ^ 35) else 0)) 0

/-- The fixed DRAM need of the configuration (09 R245). -/
def State.fixedNeed (s : State) : Nat :=
  let zones := s.nss.foldl (fun a p => a + (if p.2.zoned then p.2.size / zspan else 0)) 0
  let random := s.nss.foldl (fun a p => a + (if p.2.zoned then 0 else p.2.size / 16)) 0
  4 * zones + 128 * 2949120 + 4 * 100663296 + 8 * random + 128 * s.pf pSplitCap + 4096 * 262144 * 2 + 64 * 262144 * 2
    + 3 * 67108864 * 2

/-- Step 1 of 09 R264 under a hold-up declaration: the smallest of the first three terms of R259. -/
def State.cap0For (s : State) (plp : Bool) (holdup : Nat) : Nat :=
  let m := min (s.pf pStagingMax * 1048576) ((s.dramBytes - s.drc.need) / 2)
  if plp then min ((holdup - 15) * 250000000) m else m

/-- Dump reams that a deckle wants (09 R263). -/
def dumpWanted (c0 : Nat) : Nat := 8 * ((c0 / 3 + 8 * 520093696 - 1) / (8 * 520093696)) + 8

/-- Fourth term of 09 R259: 3 × the data capacity of the ready dump reams of the deckle that holds fewest, less 8. -/
def State.dumpTerm (s : State) : Nat :=
  3 * 520093696 * ((min (s.dk 0).dumpReady (min (s.dk 1).dumpReady (s.dk 2).dumpReady)) - 8)

/-- The cap C under a declaration (09 R264 step 4). -/
def State.capFor (s : State) (plp : Bool) (holdup : Nat) : Nat :=
  if plp then min (s.cap0For plp holdup) s.dumpTerm else s.cap0For plp holdup

/-- A ledger event of class 0x5 whose code the spec does not name (09 R264; 08 R237): the code's low digits are a free
value (log 11). -/
def State.ledClass5 (s : State) : State :=
  let (v, s) := s.fresh
  s.ledEvent (0x5000 + v.toNat % 4096) []

/-- Put a cap in force, under a lowered hold-up already while staging drains for it (09 R260); a cap of 0 under a hold-up
declaration is a health event (09 R264). -/
def State.recap (s : State) : State :=
  let c0 := s.cap0For s.media.plp s.media.holdup
  let c := s.capFor s.media.plp (s.media.drainTo.getD s.media.holdup)
  let was := s.media.cap
  let s := { s with media := { s.media with cap0 := c0, cap := c } }
  if s.media.plp && decide (c = 0) && decide (was ≠ 0) then s.ledClass5.healthEvent else s

/-- No drain of staging for a hold-up declaration runs (09 R260). -/
def State.drainStop (s : State) : State := { s with media := { s.media with draining := false, drainTo := none } }

/-- The deckles hold no more staged bytes than a cap allows (09 R260). -/
def State.stagedWithin (s : State) (c : Nat) : Bool := [0, 1, 2].all (fun d => decide ((s.dk d).staged ≤ c / 3))

/-- Staging holds nothing that is not verified on media (09 R260). -/
def State.stagingEmpty (s : State) : Bool := s.media.blks.all (fun p => p.2.staged.isNone)

/-- Journal buffers are programmed. -/
def State.journalsDone (s : State) : Bool := [0, 1, 2].all (fun d => decide ((s.dk d).jprog = (s.dk d).jbuf))

/-- Mean erase count of the native blocks in ream service, in percent of the rated cycles (09 R268). The spec does not say which
blocks are in ream service: they are the native blocks that stand in a ream at present (DESIGN CHOICE, log 89). -/
def State.wearPct (s : State) : Nat :=
  let l := s.media.mblks.filter (fun p => decide (p.2.st = .inReam) && decide (p.2.role ≠ .system))
  if l.isEmpty || decide (s.media.rated = 0) then 0
  else min 65535 (100 * l.foldl (fun a p => a + p.2.erases) 0 / (l.length * s.media.rated))

/-- Spare blocks of a link that are left (09 R240, R268): 448 of each die that is not retired (10 R306), less those used. -/
def State.sparesLeft (s : State) (k : Nat) : Nat :=
  448 * ((List.range 128).filter (fun d => s.dieOk k d)).length
    - ((s.listedBlks k).filter (fun p => inR 7680 8127 (p.1 % 8192) && decide (p.2.st ≠ .spare) && s.dieOk k (p.1 / 8192 % 128))).length

/-- A link without a spare block left sets SPARES for its deckle's groups for good (09 R269). -/
def State.sparesCheck (s : State) (k : Nat) : State :=
  if s.sparesLeft k = 0 then
    s.watching (fun s => { s with glb := { s.glb with sparesDeckles := s.glb.sparesDeckles ||| (1#3 <<< (k / 32)) } })
  else s

/-- `tel.spare_pct` (09 R268). -/
def State.sparePct (s : State) : Nat :=
  (List.range 96).foldl (fun a k => min a (100 * s.sparesLeft k / (448 * 128))) 100

/-- A spare block on a die. -/
def State.spareOn (s : State) (k d : Nat) : Option Nat :=
  if !s.dieOk k d then none
  else match unlisted s.media.mblks 8128 ((s.listedBlks k).length + 1) (blockKey k d 0) 7680 with
    | some b => some b
    | none => pickBlk (s.listedBlks k) (fun b m => decide (m.st = .spare) && decide (b / 8192 % 128 = d)) false

/-- A usable block of a die, the lowest that was never used. -/
def State.usableOn (s : State) (k d : Nat) : Option Nat :=
  unlisted s.media.mblks 7680 ((s.listedBlks k).length + 1) (blockKey k d 0) 0

/-- What stands in for a block that was bad at first format: a spare of its die, for a system block of a die without a spare left
one of its usable blocks; a bad spare and a usable block without a spare have no stand-in (09 R240). -/
def State.badFirstBlk (s : State) (b : Nat) : State :=
  let k := b / 2 ^ 20
  let d := b / 8192 % 128
  let role : BlkSt := if b % 8192 < 7680 then .free else .system
  let nb := if inR 7680 8127 (b % 8192) then none else match s.spareOn k d with
    | some x => some x
    | none => if b % 8192 < 7680 then none else s.usableOn k d
  match nb with
  | some x => s.modBlk x (fun y => { y with st := role, role := role })
  | none => s

/-- Usable blocks of a link that first format gave up beyond the spares. -/
def State.excessBad (s : State) (k : Nat) : Nat :=
  let l := s.listedBlks k
  (l.filter (fun p => decide (p.1 % 8192 < 7680 ∧ p.2.st ≠ .free))).length
    - (l.filter (fun p => inR 7680 8127 (p.1 % 8192) && decide (p.2.st = .free))).length

/-- First format, at the first power-on (09 R240; log 68): the blocks bad then, and the reams that the links' usable blocks
bound. -/
def State.firstFormat (s : State) (bad : List Nat) : State :=
  if s.media.formatted then s
  else
    let s := bad.foldl (fun s b => s.modBlk b (fun x => { x with st := .retired })) { s with media := { s.media with formatted := true } }
    let s := bad.foldl (fun s b => s.badFirstBlk b) s
    if bad.isEmpty then s
    else [0, 1, 2].foldl (fun s d =>
      let e := (List.range 32).foldl (fun a i => max a (s.excessBad (32 * d + i))) 0
      s.modDk d (fun x => { x with capacity := x.capacity - e })) s

/-! ### Header pages and table entries as they are laid out (09 R242, R244) -/

/-- Record bytes with their CRC-32C. -/
def withCrc (l : List Byte) : List Byte := l ++ leBytes 4 (crc32c l).toNat

/-- A ream-table entry: die, block, VALID (09 R244). -/
def reamEntry (k : Option Nat) : Nat := match k with | some k => k / 8192 % 128 + 2 ^ 7 * (k % 8192) + 2 ^ 31 | none => 0

/-- Codeword 0 of a header page (09 R242). -/
def MBlk.stampBytes (b : MBlk) (k : Nat) : List Byte :=
  if b.stamped then withCrc (leBytes 4 0x57544D01 ++ leBytes 4 b.serases ++ leBytes 8 b.eseq ++ leBytes 4 (reamEntry (some k)))
  else []

/-- Codeword 1 of a header page (09 R242). -/
def MBlk.ownerBytes (b : MBlk) : List Byte :=
  match b.owner with
  | some o => withCrc (leBytes 4 0x57544D02 ++ leBytes 4 o.ream ++ leBytes 1 o.pos ++ leBytes 1 o.kind ++ leBytes 2 o.grp
      ++ leBytes 4 o.nsid ++ leBytes 8 o.zslba ++ leBytes 8 o.epoch)
  | none => []

/-- Codeword 2 of a header page (09 R242). -/
def MBlk.closeBytes (b : MBlk) : List Byte :=
  match b.close with
  | some (id, e, q) => withCrc (leBytes 4 0x57544D03 ++ leBytes 4 id ++ leBytes 8 e ++ leBytes 2 q ++ zeros 2)
  | none => []

/-- The zone table's entry (09 R244). -/
def Zone.entry (z : Zone) : Nat := match z.ream with | some r => r % 2 ^ 22 + 2 ^ 31 | none => 0

/-- A place in a map entry from bit 2 on: ream, quire, position (09 R244). -/
def MediaLoc.bits (l : MediaLoc) : Nat := 2 ^ 2 * (l.ream % 2 ^ 22) + 2 ^ 24 * l.quire + 2 ^ 32 * l.pos

/-- A ream is one of the flush area: AREA of a map entry (09 R244). -/
def State.inFlush (s : State) (l : MediaLoc) : Bool := match tfind s.media.reams l.ream with | some r => decide (r.kind = 4) | none => false

/-- Where a whole bundle stands: in the flush area while its copies are there (09 R244, R261), else at its place in its run. -/
def State.bunPlace (s : State) (nsid b : Nat) : MediaLoc :=
  match (s.blk nsid (16 * b)).media with
  | some (_, l) => if s.inFlush l then l else (s.bun nsid b).loc
  | none => (s.bun nsid b).loc

/-- The bundle map's entry (09 R244). -/
def State.bunEntry (s : State) (nsid b : Nat) : Nat :=
  let x := s.bun nsid b
  let l := s.bunPlace nsid b
  if x.st = 0 then 0
  else if x.st = 2 then 2 + 2 ^ 39 * x.split
  else 1 + l.bits + 2 ^ 37 * (l.cw / 16) + 2 ^ 63 * b2n (s.inFlush l)

/-- A block's entry of the split table (09 R244). -/
def State.splitEntry (s : State) (nsid lba : Nat) : Nat :=
  match (s.blk nsid lba).media with
  | some (_, l) => 1 + l.bits + 2 ^ 37 * l.cw + 2 ^ 63 * b2n (s.inFlush l)
  | none => 0

/-- Times within the last hour. -/
def State.lastHour (s : State) (l : List Nat) : List Nat := l.filter (fun t => decide (s.now - t ≤ 36000000000))

/-- `tel.soft_ppm` (09 R268). -/
def State.softPpm (s : State) : Nat :=
  let n := (s.lastHour s.media.mediaReads).length
  if n = 0 then 0 else 1000000 * (s.lastHour s.media.softDecodes).length / n

/-- Value of a read-only parameter (06 R173, 09 R268). -/
def State.telValue (s : State) (id : Nat) : Nat :=
  if id = pid 17 0 1 then s.wearPct else if id = pid 17 0 2 then s.sparePct else s.softPpm

end Sys2Proof.Machine
end

