-- ==== Sys2Proof/Machine/PowerOps.lean ====
section
/-! DEFINITION. Holds and the start of a dormant entry (01 R13–R16; 08 R230, R231; 12 R365; 16 R436–R439). -/

namespace Sys2Proof.Machine

/-- The current power state, 0–5 (16 R436, R437). -/
def State.pstate (s : State) : Nat :=
  if 3 ≤ s.pwr.cur.toNat then s.pwr.cur.toNat else if s.pwr.gated then 2 else if s.pwr.run1 then 1 else 0

/-- Step 1 of 16 R439: MODE becomes DORMANT and READY clears. -/
def State.beginEntry (s : State) (target : Nat) : State :=
  s.watching (fun s => { s with
    mode := { s.mode with dormant := true, latchedPs := none }
    pwr := { s.pwr with phase := 1, goal := BitVec.ofNat 3 target, entryStep := 1, gated := false,
                        ewin := false, heldWake := none } })

/-- A request for PS3, PS4 or PS5: acted on in SERVICE and LIMITED, latched in QUIESCE (01 R16, 16 R438). -/
def State.askDormant (s : State) (target : Nat) : State :=
  if s.modeOf = 3 then { s with mode := { s.mode with latchedPs := some target } }
  else if s.modeOf = 1 ∨ s.modeOf = 2 then s.beginEntry target
  else s

/-- Enter QUIESCE (01 R13, 08 R230): 1 firmware activation, 2 profile switch. Maintenance has no trigger in the spec and no
hold here (DESIGN CHOICE, log 75). -/
def State.startHold (s : State) (kind : Nat) : State :=
  s.watching (fun s => { s with mode := { s.mode with hold := kind, drained := false } })

/-- Every dispatched command has its result (08 R230). -/
def State.ioDrained (s : State) : Bool :=
  s.sub.slots.all (fun p => decide (p.2.phase = .waiting ∨ p.2.phase = .hazWait ∨ p.2.phase = .fixed))

/-- The bound slots stay held for `window` samples after QUIESCE (12 R365). -/
def State.holdLoops (s : State) : State :=
  (List.range 32).foldl (fun (s : State) n =>
    if (s.loop n).cfg.cls.isSome then s.modLoop n (fun l => { l with holdLeft := l.cfg.window }) else s) s

/-- Leave QUIESCE; a latched power request is acted on (01 R16). -/
def State.endHold (s : State) : State :=
  let latched := s.mode.latchedPs
  let s := s.watching (fun s => { s.holdLoops with mode := { s.mode with hold := 0, drained := false, latchedPs := none } })
  match latched with
  | some t => s.askDormant t
  | none => s

end Sys2Proof.Machine
end

