-- ==== Sys2Proof/Machine/StoreOps.lean ====
section
/-! DEFINITION. The firmware store's erases, programs and flag cells, and the checks of an image (15 R406–R415). -/

namespace Sys2Proof.Machine

/-! ### Erases and flag cells -/

/-- Cells of one half of the erase-flag area: four sectors (15 R410). -/
def flagCells : Nat := 4 * 8184

/-- A cell's event bit is recorded: programmed from 1 to 0 (15 R410). -/
def cellHas (st bit : Nat) : Bool := !bitN st bit

/-- A cell that a full half carries over: INTENT or INTERRUPTED without DONE (15 R410). -/
def cellOpen (c : Nat × Nat) : Bool := (cellHas c.2 7 || cellHas c.2 6) && !cellHas c.2 0

/-- A sector of the erase-flag area. -/
def flagSector (k : Nat) : Bool := inR 0x590 0x597 k

/-- The four sectors of the half with a generation's parity. -/
def flagHalf (gen : Nat) : List Nat := [0, 1, 2, 3].map (· + (0x590 + 4 * (gen % 2)))

/-- Program a flag cell: in a full half the open cells move to the other half, and the old one is erased (15 R410). -/
def Fst.addCell (f : Fst) (sector state : Nat) : Fst :=
  if f.cells.length < flagCells then { f with cells := f.cells ++ [(sector, state)] }
  else { f with
    cells := f.cells.filter cellOpen ++ [(sector, state)]
    flagGen := f.flagGen + 1
    eraseQ := (flagHalf f.flagGen).foldl addOnce f.eraseQ }

/-- Clear one bit in the newest cell of a sector. -/
def markLast (sector bit : Nat) : List (Nat × Nat) → List (Nat × Nat)
  | [] => []
  | c :: r =>
    if c.1 = sector && !(r.any (fun d => d.1 == sector)) then (c.1, if bitN c.2 bit then c.2 - 2 ^ bit else c.2) :: r
    else c :: markLast sector bit r

/-- A flag mode of `fst.pfail_mode` is in force: FLAG 0, CLEAN_END 1, BOTH 2 (15 R409). -/
def State.flagMode (s : State) : Bool := decide (s.pvA pFstPfail ≠ 1)

/-- CLEAN_END or BOTH (15 R409). -/
def State.cleanMode (s : State) : Bool := decide (s.pvA pFstPfail ≠ 0)

/-- The store erases: no brown-out lasts, and PFAIL# is high (15 R409; 09 R262). -/
def State.storeUp (s : State) : Bool := !s.pwr.pfailLow && !s.fst.low

/-- Start the next erase when none runs: FLAG and BOTH program INTENT first (15 R409). -/
def State.storePump (s : State) : State :=
  if !s.storeUp then s else
  match s.fst.erasing, s.fst.eraseQ with
  | none, k :: r =>
    let f := { s.fst with eraseQ := r }
    let f := if s.flagMode && !flagSector k then f.addCell k 0x7F else f
    { s with fst := { f with erasing := some k, susp := false, resumed := false, erResume := s.now, verified := f.verified.filter (· ≠ k) } }
  | _, _ => s

/-- Ask for the erase of a sector. -/
def State.storeErase (s : State) (k : Nat) : State :=
  (if s.fst.erasing = some k then s else { s with fst := { s.fst with eraseQ := addOnce s.fst.eraseQ k } }).storePump

/-- PFAIL# or a brown-out meets a running erase (15 R409): CLEAN_END and BOTH end it at once with an INTERRUPTED cell, and
the sector waits for its erase again; in FLAG it runs on. -/
def State.storeCut (s : State) : State :=
  match s.fst.erasing with
  | none => s
  | some k =>
    if !s.cleanMode then s
    else
      let f := if flagSector k then s.fst else s.fst.addCell k 0xBF
      { s with fst := { f with erasing := none, susp := false, eraseQ := k :: f.eraseQ.filter (· ≠ k) } }

/-- The running erase may be suspended: 1 ms after a resume (15 R408). -/
def State.mayHalt (s : State) : Bool := !s.fst.susp && (!s.fst.resumed || decide (s.fst.erResume + 10000 ≤ s.now))

/-- Suspend the erase of a sector and serve the reads of other sectors (15 R408). -/
def State.storeHalt (s : State) (k : Nat) : State :=
  { s with fst := { s.fst with susp := true, reads := s.fst.reads.filter (· == k) } }

/-- Reads that waited for the end of the 1 ms suspend the erase as it passes (15 R408; log 1). -/
def State.storeTick (s : State) : State :=
  match s.fst.erasing with
  | some k => if s.mayHalt && s.fst.reads.any (· != k) then s.storeHalt k else s
  | none => s

/-- A sector may be programmed: erased and verified since power-on, or its newest cell shows DONE and it was not
programmed since (15 R411). -/
def State.sectorReady (s : State) (k : Nat) : Bool := s.fst.verified.contains k

/-! ### Images -/

/-- Little-endian field of an image header (15 R414). -/
def imgField (l : List Byte) (off n : Nat) : Nat := fieldLe l off n

/-- SVN of an image (15 R414). -/
def imgSvn (l : List Byte) : Nat := imgField l 12 4

/-- REVISION of an image (15 R414). -/
def imgRev (l : List Byte) : List Byte := padTo 32 (sliceB l 16 32)

/-- The region of a slot in bytes: 32 MiB, 8 MiB for the rescue image (15 R406). -/
def imgRegion (slot : Nat) : Nat := if slot = 2 then 8388608 else 33554432

/-- The checks of 15 R415 in order: 0, or the reason code of the first that fails. -/
def imgCheck (fz : Fuses) (slot : Nat) (l : List Byte) : Nat :=
  let keyslot := byteAt l 6
  let pub := sliceB l 96 97
  if imgField l 0 4 ≠ 0x4B564D49 ∨ imgField l 4 2 ≠ 1 ∨ l.length ≠ 4096 + imgField l 8 4 ∨ imgRegion slot < l.length then 6
  else if 1 < keyslot ∨ Config.sha384 pub ≠ (if keyslot = 0 then fz.key0 else fz.key1) then 1
  else if fz.krev.getLsbD keyslot then 4
  else if !Config.ecdsaVerify pub (Config.sha384 (l.take 200)) (sliceB l 200 96) then 1
  else if Config.sha384 (l.drop 4096) ≠ sliceB l 48 48 then 2
  else if slot ≠ 2 ∧ imgSvn l < fz.arb then 3
  else 0

/-- The image of a slot. -/
def State.img (s : State) (slot : Nat) : Image := tget s.fst.imgs slot {}

/-- Change the image of a slot. -/
def State.modImg (s : State) (slot : Nat) (f : Image → Image) : State :=
  { s with fst := { s.fst with imgs := tset s.fst.imgs slot (f (s.img slot)) } }

/-- The slot's download stored every byte (06 R180, R182). -/
def Image.complete (i : Image) : Bool := decide (i.total ≠ 0) && decide (i.bytes.length = i.total)

/-- The image digest (15 R414). -/
def imgDigest (l : List Byte) : List Byte := padTo 48 (Config.sha384 l)

end Sys2Proof.Machine
end

