-- ==== Sys2Proof/Machine/Params.lean ====
section
/-! DEFINITION. IDENTIFY, GET_PARAM, SET_PARAM and the profile messages (06 R167–R176, R480; 09 R260). -/

namespace Sys2Proof.Machine

/-- IDENTIFY (06 R167): the spec gives the reply no layout, so its payload is free (log 11). -/
def execIdentify (src : Src) (s : State) : Res :=
  .next (s.serve src 0x0001 [] (fun s _ =>
    let (n, s) := s.fresh
    let s' := { s with freeCtr := s.freeCtr + 1 }
    s'.reply src 0 0 ((Config.freeBytes s.freeCtr (n.toNat % 4081)).take 4080)))

/-! ### GET_PARAM (06 R170) -/

/-- A VF reads block `glb` and the parameters of its own instance. -/
def vfMayRead (g id : Nat) : Bool :=
  let b := id / 2 ^ 24
  let i := id / 2 ^ 12 % 4096
  let x := id % 4096
  decide (b = 1) || (decide (i = g) && ((decide (b = 4 ∨ b = 3) && decide (x = 1)) || (decide (b = 5) && inR 0x401 0x43F x)))

/-- PENDING: the live value waits for a reset (06 R170, R480). -/
def State.pendingParam (s : State) (id : Nat) : Bool :=
  decide (paramEff id ≠ .live) && decide (s.pv id ≠ s.pf id)

/-- The value GET_PARAM shows. -/
def State.paramShown (s : State) (id : Nat) : Nat :=
  match paramInfo id with
  | some p => if p.readOnly then s.telValue id else s.pv id
  | none => 0

/-- One entry of a GET_PARAM reply. -/
def State.paramEntry (s : State) (src : Src) (id : Nat) : List Byte :=
  let me := s.selfOf src
  match paramInfo id with
  | none => leBytes 4 id ++ leBytes 2 0x40D ++ zeros 10
  | some p =>
    if !s.isPf me && !vfMayRead me id then leBytes 4 id ++ leBytes 2 0x404 ++ zeros 10
    else leBytes 4 id ++ leBytes 2 (4096 * b2n (s.pendingParam id)) ++ leBytes 1 p.cls ++ zeros 1
      ++ leBytes 8 (s.paramShown id)

/-- GET_PARAM (06 R170). -/
def execGetParam (src : Src) (s : State) : Res :=
  .next (s.serve src 0x0002 [(0, 4)] (fun s r =>
    let n := fieldLe r.payload 0 4
    if !inR 1 255 n then s.reply src 0x402 0 []
    else match (List.range n).find? (fun i => decide (r.len < 8 + 4 * i)) with
      | some i => s.reply src 0x402 (4 + 4 * i) []
      | none => s.reply src 0 0
          ((List.range n).flatMap (fun i => s.paramEntry src (fieldLe r.payload (4 + 4 * i) 4)))))

/-! ### SET_PARAM (06 R168, R171) -/

/-- The function that a function-scoped parameter names, or the page (06 R168). -/
inductive Scope where
  | device
  | fn (g : Nat)
  | page (p : Nat)

/-- Scope of a parameter ID (06 R168). -/
def scopeOf (id : Nat) : Scope :=
  let b := id / 2 ^ 24
  let i := id / 2 ^ 12 % 4096
  let x := id % 4096
  if b = 4 ∧ x = 1 then .fn i
  else if b = 5 ∧ inR 0x401 0x43F x = true then .fn i
  else if b = 9 ∧ x = 1 then .page i
  else .device

/-- The refusal of one entry: status and DETAIL (06 R168, R171; 07 R196). -/
def State.entryRefused (s : State) (src : Src) (off id v : Nat) : Option (Nat × Nat) :=
  let me := s.selfOf src
  match paramInfo id with
  | none => some (0x40D, 0)
  | some p =>
    let named : Option (Nat × Nat) := match scopeOf id with
      | .device => if me = s.mgmtPf then none else some (0x404, 0)
      | .fn g => if s.mayName src g then none else some (0x404, 0)
      | .page _ => none
    match named with
    | some x => some x
    | none =>
      if p.readOnly ∨ p.cls = 3 then some (0x404, 0)
      else if p.ok v = false then some (0x402, off + 4)
      else match scopeOf id with
        | .page q => s.pageMove src q v
        | _ => none

/-- The entries of a SET_PARAM: payload offset, ID, VALUE. -/
def setEntries (l : List Byte) (n : Nat) : List (Nat × Nat × Nat) :=
  (List.range n).map (fun i => (8 + 12 * i, fieldLe l (8 + 12 * i) 4, fieldLe l (12 + 12 * i) 8))

/-- A value table after some writes; an ID named twice takes its last value. -/
def applyVals (t : Tbl Nat) (vs : List (Nat × Nat)) : Tbl Nat := vs.foldl (fun t p => tset t p.1 p.2) t

/-- `cal.loop[n].flags_clr`: the loop it names (12 R370). -/
def clrLoop (id : Nat) : Option Nat :=
  if id / 2 ^ 24 = 11 ∧ id % 4096 = 0x30 ∧ id / 2 ^ 12 % 4096 < 32 then some (id / 2 ^ 12 % 4096) else none

/-- Store `glb.profile_lock` in boot control at once: the older copy is programmed, and its successor is erased in the
background (06 R174; 15 R412, R413). -/
def State.storeLock (s : State) (v : Nat) : State :=
  ({ s with par := { s.par with lock := v }, fst := { s.fst with bcOlderErased := false } }).storeErase 0x5A8

/-- Write one parameter. -/
def State.writeParam (s : State) (id v : Nat) : State :=
  match clrLoop id with
  | some n => s.modLoop n (fun l => { l with clr := l.clr ||| v })
  | none =>
    let s := s.setPv id v
    if id = pProfileLock then s.storeLock v else s

/-- A quorum that was raised above a deckle's unfenced lanes limits it (11 R331). -/
def State.quorumRaised (s : State) : State := [0, 1, 2].foldl (fun s d => s.quorumCheck d) s

/-- Write all parameters of one change, together (06 R171), and put the hold-up declaration in force (09 R260). -/
def State.writeAll (s : State) (vs : List (Nat × Nat)) : State :=
  let s := vs.foldl (fun s p => s.writeParam p.1 p.2) s
  let s := if vs.any (fun p => decide (p.1 = pQuorum)) then s.quorumRaised else s
  if vs.any (fun p => decide (p.1 = pPlp ∨ p.1 = pHoldup)) then
    ({ s with media := { s.media with plp := decide (s.pv pPlp = 1), holdup := s.pv pHoldup } }).recap
  else s

/-- A change of settings, of which a class's target, percentile and loop wait for a sample boundary (05 R162; 06 R171). -/
def State.writeParams (s : State) (vs : List (Nat × Nat)) : State := s.keepOld (s.keepCls (s.writeAll vs))

/-- A change of the hold-up declaration that must drain staging first (09 R260). -/
def State.drainsFirst (s : State) (t : Tbl Nat) : Bool :=
  (s.media.plp && decide (pval t pPlp = 0)) ||
  (s.media.plp && decide (pval t pPlp = 1) && decide (pval t pHoldup < s.media.holdup))

/-- Start the drain: for a lowered hold-up, C is recomputed at once (09 R260). -/
def State.startDrain (s : State) (t : Tbl Nat) : State :=
  if pval t pPlp = 0 then { s with media := { s.media with draining := true } }
  else { s with media := { s.media with cap := s.capFor true (pval t pHoldup), drainTo := some (pval t pHoldup) } }

/-- The drain of a declaration is over (09 R260). -/
def State.drainedFor (s : State) (t : Tbl Nat) : Bool :=
  if pval t pPlp = 0 then s.stagingEmpty else s.stagedWithin s.media.cap

/-- Reply payload of SET_PARAM: FIRST and BLOCKERS (06 R171). -/
def setReply (first blockers : Nat) : List Byte := leBytes 4 first ++ leBytes 4 blockers

/-- An assignment of a page that lies outside the class range of its new owner, in the set as it would stand (05 R159; 07 R196). -/
def pageOutside (t : Tbl Nat) (e : Nat × Nat × Nat) : Bool :=
  match scopeOf e.2.1 with
  | .page p => let o := pval t (pPageOwner p); decide (o ≠ 0xFFFF) && !inPages t (pval t (pTclass o)) p
  | _ => false

/-- SET_PARAM (06 R171): every entry, then the rules of the set, then all at once. A page that the request assigns outside its owner's
class range is refused with 0x404 (07 R196), any other break of a rule of the set with 0x40A (log 74). -/
def State.setParam (s : State) (src : Src) (r : Req) : State :=
  let n := fieldLe r.payload 0 4
  if !inR 1 255 n then s.reply src 0x402 0 (setReply 0xFFFFFFFF 0)
  else match (List.range n).find? (fun i => decide (r.len < 20 + 12 * i)) with
    | some i => s.reply src 0x402 (if r.len < 12 + 12 * i then 8 + 12 * i else 12 + 12 * i) (setReply i 0)
    | none =>
      let es := setEntries r.payload n
      match es.findIdx? (fun e => (s.entryRefused src e.1 e.2.1 e.2.2).isSome) with
      | some i =>
        let e := es.getD i (0, 0, 0)
        let (st, d) := (s.entryRefused src e.1 e.2.1 e.2.2).getD (0, 0)
        s.reply src st d (setReply i 0)
      | none =>
        let vs := es.map Prod.snd
        let t := applyVals s.par.live vs
        let b := s.blockers t
        match es.findIdx? (pageOutside t) with
        | some i => s.reply src 0x404 0 (setReply i 0)
        | none =>
        if !rulesOk (s.ruleTbl t) s.homes || decide (b ≠ 0) then s.reply src 0x40A 0 (setReply 0xFFFFFFFF b)
        else if bitN (fieldLe r.payload 4 4) 0 then s.reply src 0 0 (setReply 0xFFFFFFFF 0)
        else if s.drainsFirst t then (s.startDrain t).setWait src (.stagingDrain vs)
        else if vs.any (fun p => decide (p.1 = pProfileLock)) && !s.fst.bcOlderErased then
          s.setWait src (.storeErase 0x5A8)
        else (s.writeParams vs).reply src 0 0 (setReply 0xFFFFFFFF 0)

/-- SET_PARAM (06 R171). -/
def execSetParam (src : Src) (s : State) : Res :=
  .next (s.serve src 0x0003 [(0, 4), (4, 4)] (fun s r => s.unlessSwitch src (s.setParam src r)))

/-! ### Profiles (06 R174–R176) -/

/-- The copy of a profile that counts: the valid one with the higher generation (06 R174). -/
def State.profCopy (s : State) (p : Nat) : Option ProfCopy :=
  let a := tget s.par.profiles (2 * p) {}
  let b := tget s.par.profiles (2 * p + 1) {}
  if a.valid && (!b.valid || decide (b.gen ≤ a.gen)) then some a else if b.valid then some b else none

/-- The P-class part of a value table. -/
def pVals (t : Tbl Nat) : Tbl Nat := t.filter (fun p => decide (paramCls p.1 = 2) && decide (p.1 ≠ pProfileLock))

/-- The values that stay when another profile comes in force: K-class and A-class ones, and the shared lock. -/
def keepVals (t : Tbl Nat) : Tbl Nat := t.filter (fun p => decide (paramCls p.1 ≠ 2) || decide (p.1 = pProfileLock))

/-- The live values under a profile (06 R175). -/
def underProfile (live prof : Tbl Nat) : Tbl Nat := (pVals prof).foldl (fun t p => tset t p.1 p.2) (keepVals live)

/-- Start the hold of a profile switch. -/
def State.profileHold (s : State) : State := s.startHold 2

/-- PROFILE_SELECT (06 R175). A profile without a valid copy is answered 0x40D, before the lock is looked at (DESIGN CHOICE,
log 70). -/
def State.profileSelect (s : State) (src : Src) (r : Req) : State :=
  let p := byteAt r.payload 0
  if 3 < p then s.reply src 0x402 0 []
  else match s.profCopy p with
    | none => s.reply src 0x40D 0 []
    | some c =>
      if s.par.lock ≤ 3 ∧ s.par.lock ≠ p then s.reply src 0x404 0 []
      else
        let t := underProfile s.par.live c.values
        if !rulesOk (s.ruleTbl t) s.homes || decide (s.blockers t ≠ 0) then s.reply src 0x40A 0 []
        else
          let s := ({ s with adm := { s.adm with devOp := some 0x0050, devArg := p } }).setWait src (.profileSelect p)
          if s.drainsFirst t && decide (pval t pPlp = 1) then (s.startDrain t).profileHold else s.profileHold

/-- PROFILE_SELECT (06 R175): one device-wide operation at a time, and none that LEDGER could not record. -/
def execProfileSelect (src : Src) (s : State) : Res :=
  .next (s.serve src 0x0050 [(0, 1)] (fun s r => s.unlessDev src (s.unlessLedger src (s.profileSelect src r))))

/-- DEFERRED of PROFILE_SELECT (06 R175). -/
def State.deferred (s : State) (t : Tbl Nat) : Nat :=
  b2n (decide (pval t pLinkGroup ≠ s.pf pLinkGroup)) +
  2 * b2n ((t ++ s.par.inForce).any (fun p => decide (p.1 ≠ pLinkGroup) && decide (paramEff p.1 ≠ .live)
    && decide (pval t p.1 ≠ s.pf p.1)))

/-- Apply a profile's values after the drain, leave QUIESCE and reply (06 R175; 08 R231). -/
def State.applyProfile (s : State) (p : Nat) : State :=
  match s.profCopy p with
  | none => s
  | some c =>
    let t := underProfile s.par.live c.values
    let d := s.deferred t
    let old := s.par.loaded
    let s0 := s
    let s := { s with par := { s.par with live := t, loaded := p },
                      media := { s.media with plp := decide (pval t pPlp = 1), holdup := pval t pHoldup } }
    let s := (s0.keepOld (s0.keepCls s)).recap.ledCommit 0x0010 (leBytes 1 old ++ leBytes 1 p ++ zeros 2 ++ leBytes 4 c.gen)
    let s := { s.quorumRaised with adm := { s.adm with devOp := none } }
    (s.replyWaiters (.profileSelect p) 0 0 (leBytes 4 d)).endHold

/-- The live values as a profile switch that holds dispatch will leave them. -/
def State.switchTo (s : State) : Tbl Nat := match s.profCopy s.adm.devArg with | some c => underProfile s.par.live c.values | none => s.par.live

/-- The dispatched commands of a profile switch have drained: the values are applied, or staging drains first, which no write can fill
again while the hold stands (06 R175; 09 R260). -/
def State.profileDrained (s : State) : State :=
  if !s.drainsFirst s.switchTo then s.applyProfile s.adm.devArg
  else if s.drainedFor s.switchTo then s.drainStop.applyProfile s.adm.devArg
  else if s.media.drainTo.isSome then s
  else s.startDrain s.switchTo

/-- HOLD_DRAIN_DONE (08 R231): the dispatched commands have drained. -/
def execHoldDrainDone (s : State) : Res :=
  .next (if s.mode.hold = 0 || s.mode.drained || !s.ioDrained then s
    else
      let s := { s with mode := { s.mode with drained := true } }
      if s.mode.hold = 2 then s.profileDrained else s)

/-- PROFILE_SAVE (06 R176): the set is validated, then the older copy is programmed and read back. -/
def State.profileSave (s : State) (src : Src) (r : Req) (ok : Bool) : State :=
  let p := byteAt r.payload 0
  if 3 < p then s.reply src 0x402 0 []
  else if !rulesOk (s.ruleTbl s.par.live) s.homes then s.reply src 0x40A 0 []
  else
    let a := tget s.par.profiles (2 * p) {}
    let b := tget s.par.profiles (2 * p + 1) {}
    let older := if !a.valid then 0 else if !b.valid then 1 else if a.gen ≤ b.gen then 0 else 1
    let gen := (if a.valid then a.gen else 0).max (if b.valid then b.gen else 0) + 1
    let c : ProfCopy := if ok then { valid := true, gen := gen, values := pVals s.par.live } else {}
    let s := { s with par := { s.par with profiles := tset s.par.profiles (2 * p + older) c } }
    if ok then
      (s.ledCommit 0x0010 (leBytes 1 s.par.loaded ++ leBytes 1 p ++ leBytes 1 1 ++ zeros 1 ++ leBytes 4 gen)).reply src 0 0 []
    else s.reply src 0x40F 0 []

/-- PROFILE_SAVE (06 R168, R176). -/
def execProfileSave (src : Src) (ok : Bool) (s : State) : Res :=
  .next (s.serve src 0x0051 [(0, 1)] (fun s r => s.unlessDev src (s.unlessLedger src (s.profileSave src r ok))))

/-- STAGING_DRAIN_DONE (09 R260): the new declaration comes in force with the reply, or the profile switch goes on. -/
def execStagingDrainDone (s : State) : Res :=
  .next (
    let ws := s.fns.filterMap (fun p => p.2.wait) ++ (match s.adm.oobWait with | some w => [w] | none => [])
    match ws.findSome? (fun w => match w with | .stagingDrain vs => some vs | _ => none) with
    | some vs =>
      let t := applyVals s.par.live vs
      if s.drainedFor t then
        (s.drainStop.writeParams vs).replyWaiters (.stagingDrain vs) 0 0 (setReply 0xFFFFFFFF 0)
      else s
    | none =>
      if s.adm.devOp ≠ some 0x0050 ∨ s.mode.hold ≠ 2 ∨ s.mode.drained = false ∨ s.drainedFor s.switchTo = false then s
      else s.drainStop.applyProfile s.adm.devArg)

end Sys2Proof.Machine
end

