-- ==== Sys2Proof/Machine/AdminNs.lean ====
section
/-! DEFINITION. CREATE_QUEUE, DELETE_QUEUE, QUEUE_RESET and the namespace messages (06 R177, R178; 03 R63, R65, R96, R97;
05 R135, R136, R481; 08 R227, R232; 09 R241). -/

namespace Sys2Proof.Machine

/-! ### Queues -/

/-- A message that names a function for its queues: its sender may name it, it is there, it is not BARE and no FLR runs
(06 R167; 07 R194, R198; DEDUCED, log 27). -/
def State.onFn (s : State) (src : Src) (g : Nat) (k : State) : State :=
  if !s.mayName src g then s.reply src 0x404 0 []
  else match (s.fn g).vf with
    | .absent => s.reply src 0x40D 0 []
    | .bare => s.reply src 0x404 0 []
    | _ => if (s.fn g).flr then s.reply src 0x405 0 [] else k

/-- Slots that a function's queues hold (03 R65). -/
def State.depthUsed (s : State) (g : Nat) : Nat :=
  (s.qs.filter (fun p => decide (p.1 / 4096 = g))).foldl (fun a p => a + p.2.depth) 0

/-- The attributes of a CREATE_QUEUE (06 R177). -/
structure QReq where
  qid : Nat
  gfn : Nat
  depth : Nat
  vector : Nat
  base : Nat
  entries : Nat
  ccount : Nat
  chk : Bool
  ctime : Nat

/-- Read the payload of CREATE_QUEUE. -/
def State.qreqOf (s : State) (src : Src) (l : List Byte) : QReq :=
  { qid := fieldLe l 0 2, gfn := s.gfnArg src (fieldLe l 2 2), depth := fieldLe l 4 2, vector := fieldLe l 6 2,
    base := fieldLe l 8 8, entries := fieldLe l 16 4, ccount := byteAt l 20, chk := bitN (byteAt l 21) 0,
    ctime := fieldLe l 22 2 }

/-- The first malformed field of a CREATE_QUEUE (03 R63; 06 R177). -/
def State.qreqBad (s : State) (q : QReq) : Option Nat :=
  if s.queuesMax q.gfn ≤ q.qid then some 0
  else if !inR 1 4096 q.depth then some 4
  else if q.vector ≠ 0xFFFF ∧ inR 1 (s.vectors q.gfn) q.vector = false then some 6
  else if q.base % 4096 ≠ 0 then some 8
  else if !(inR 16 65536 q.entries && isPow2 q.entries) then some 16
  else if q.ccount = 0 then some 20
  else if !inR 1 1024 q.ctime then some 22
  else none

/-- Create the queue; a QUIESCED function's queue starts closed with it (03 R63–R70; 07 R207). -/
def State.createQueue (s : State) (src : Src) (r : Req) : State :=
  let q := s.qreqOf src r.payload
  s.onFn src q.gfn (match s.qreqBad q with
    | some o => s.reply src 0x402 o []
    | none =>
      if (s.q q.gfn q.qid).isSome || decide (q.entries ≤ q.depth) then s.reply src 0x40A 0 []
      else if s.pv (pQuota q.gfn) < s.depthUsed q.gfn + q.depth then s.reply src 0x406 0 []
      else
        ({ s with
          qs := tset s.qs (qkey q.gfn q.qid)
            { depth := q.depth, base := q.base, entries := q.entries, vector := q.vector, ccount := q.ccount,
              ctime := q.ctime, chken := q.chk, avail := q.depth } }).reply src 0 0 (leBytes 2 q.qid))

/-- CREATE_QUEUE (06 R177). -/
def execCreateQueue (src : Src) (s : State) : Res :=
  .next (s.serve src 0x0010 [(0, 2), (2, 2), (4, 2), (6, 2), (8, 8), (16, 4), (20, 1), (21, 1), (22, 2)]
    (fun s r => s.createQueue src r))

/-- Close a queue and reach its tags with 0x305 (03 R97; 08 R227). -/
def State.startDelete (s : State) (g qid : Nat) : State :=
  let s := s.modQ g qid (fun q => { q with deleting := true, presence := 0, cnt305 := 0 })
  (s.markAll 0x305 (s.slotsOf g qid)).settleQueue g qid

/-- DELETE_QUEUE (03 R97). -/
def execDeleteQueue (src : Src) (s : State) : Res :=
  .next (s.serve src 0x0011 [(0, 2), (2, 2)] (fun s r =>
    let qid := fieldLe r.payload 0 2
    let g := s.gfnArg src (fieldLe r.payload 2 2)
    s.onFn src g (match s.q g qid with
      | none => s.reply src 0x40D 0 []
      | some q => if q.deleting then s.reply src 0x405 0x0011 []
          else (s.setWait src (.deleteQueue g qid)).startDelete g qid)))

/-- QUEUE_RESET (03 R96; 08 R227, R232). -/
def execQueueReset (src : Src) (s : State) : Res :=
  .next (s.serve src 0x0012 [(0, 2), (2, 2)] (fun s r =>
    let qid := fieldLe r.payload 0 2
    let g := s.gfnArg src (fieldLe r.payload 2 2)
    s.onFn src g (match s.q g qid with
      | none => s.reply src 0x40D 0 []
      | some q =>
        if q.resetting || q.deleting then s.setWait src (.queueResetMerged g qid)
        else (s.setWait src (.queueReset g qid)).startQueueReset g qid)))

/-! ### Namespaces -/

/-- The attributes of an NS_CREATE (06 R177). -/
structure NsReq where
  nsid : Nat
  typ : Nat
  tag : Nat
  home : Nat
  op : Nat
  size : Nat
  kslot : Nat
  mar : Nat
  mor : Nat
  gfn : Nat

/-- Read the payload of NS_CREATE. -/
def State.nsReqOf (s : State) (src : Src) (l : List Byte) : NsReq :=
  { nsid := fieldLe l 0 4, typ := byteAt l 4, tag := byteAt l 5, home := byteAt l 6, op := byteAt l 7,
    size := fieldLe l 8 8, kslot := fieldLe l 16 2, mar := fieldLe l 18 2, mor := fieldLe l 20 2,
    gfn := s.gfnArg src (fieldLe l 22 2) }

/-- The first malformed field of an NS_CREATE (05 R135; 06 R177). -/
def nsReqBad (n : NsReq) : Option Nat :=
  if !inR 1 1024 n.nsid then some 0
  else if 1 < n.typ then some 4
  else if 2 < n.tag then some 5
  else if 15 < n.home then some 6
  else if n.typ = 1 ∧ n.op ≠ 0 ∧ inR 7 100 n.op = false then some 7
  else if n.typ = 0 ∧ inR 1 2097152 n.size = false then some 8
  else if n.typ = 1 ∧ (inR 16 (2 ^ 34) n.size = false ∨ n.size % 16 ≠ 0) then some 8
  else if 4095 < n.kslot then some 16
  else if n.typ = 0 ∧ 4096 < n.mar then some 18
  else if n.typ = 0 ∧ 4096 < n.mor then some 20
  else none

/-- OP in force: 0 selects 12 % (05 R135). -/
def NsReq.opOf (n : NsReq) : Nat := if n.op = 0 then 12 else n.op

/-- Size in blocks. -/
def NsReq.blocks (n : NsReq) : Nat := if n.typ = 0 then n.size * zspan else n.size

/-- User capacity that a new namespace adds (09 R241). -/
def NsReq.capacity (n : NsReq) : Nat := if n.typ = 0 then n.size * 507904 else n.size

/-- User capacity of a namespace (09 R241). -/
def nsCapacity (n : Ns) : Nat := if n.zoned then n.size / zspan * 507904 else n.size

/-- Reams to reserve (05 R136). -/
def NsReq.need (n : NsReq) : Nat :=
  if n.typ = 0 then n.size else (n.size * (100 + n.opOf) + 50790399) / 50790400

/-- A rule of 05 R135 that the device's state breaks. -/
def State.nsRuleBroken (s : State) (n : NsReq) : Bool :=
  (tfind s.nss n.nsid).isSome || decide (s.pv (pPgDeckles n.home) = 0) ||
  (n.typ == 1 && decide (2 ^ 34 < n.size + s.nss.foldl (fun a p => a + (if p.2.zoned then 0 else p.2.size)) 0)) ||
  (n.typ == 0 && decide (n.mar ≠ 0 ∧ n.mor ≠ 0 ∧ n.mar < n.mor)) ||
  decide (s.pageOwner (n.kslot / 16) ≠ n.gfn)

/-- Charge `k` reams one at a time to the member deckle with the most unreserved reams (05 R481): unreserved counts and
charges, both by deckle. -/
def chargeLoop (member : Nat → Bool) : Nat → List Nat → List Nat → List Nat
  | 0, _, ch => ch
  | k + 1, un, ch =>
    let best := [0, 1, 2].foldl (fun (b : Option Nat) d =>
      if member d && decide (0 < un.getD d 0) then match b with
        | none => some d
        | some e => if un.getD e 0 < un.getD d 0 then some d else some e
      else b) none
    match best with
    | none => ch
    | some d => chargeLoop member k (un.set d (un.getD d 0 - 1)) (ch.set d (ch.getD d 0 + 1))

/-- A record in the journal of every deckle of a group: attributes are held with the media journal (05 R135). -/
def State.jrecGroup (s : State) (g : Nat) : State :=
  [0, 1, 2].foldl (fun s d => if s.inGroup g d then s.jrec d else s) s

/-- NS_CREATE (05 R135, R136, R481; 06 R177; 09 R241). -/
def State.nsCreate (s : State) (src : Src) (r : Req) : State :=
  let n := s.nsReqOf src r.payload
  match nsReqBad n with
  | some o => s.reply src 0x402 o []
  | none =>
    if (s.pfOf n.gfn).isNone || decide ((s.fn n.gfn).vf = .absent) then s.reply src 0x40D 0 []
    else if s.nsRuleBroken n then s.reply src 0x40A 0 []
    else if 2 ^ 40 < n.capacity + s.nss.foldl (fun a p => a + nsCapacity p.2) 0 ∨ s.groupUnreserved n.home < n.need then
      s.reply src 0x406 0 []
    else
      let ch := chargeLoop (s.inGroup n.home) n.need [s.unreserved 0, s.unreserved 1, s.unreserved 2] [0, 0, 0]
      let ns : Ns := { zoned := decide (n.typ = 0), size := n.blocks, home := n.home, tagMode := n.tag, kslot := n.kslot,
                       op := n.opOf, mar := if n.typ = 0 then n.mar else 0, mor := if n.typ = 0 then n.mor else 0,
                       fns := [n.gfn], charged := ch, busy := if s.adm.sanitize = 0 then 0 else 3 }
      let s := ({ s with nss := tset s.nss n.nsid ns }).jrecGroup n.home
      (s.reply src 0 0 (leBytes 8 n.need)).asyncFree [n.gfn] 0x03 n.nsid

/-- NS_CREATE (06 R177). -/
def execNsCreate (src : Src) (s : State) : Res :=
  .next (s.serve src 0x0020
    [(0, 4), (4, 1), (5, 1), (6, 1), (7, 1), (8, 8), (16, 2), (18, 2), (20, 2), (22, 2)] (fun s r => s.nsCreate src r))

/-- Commands in flight of some functions keep finding a namespace that becomes inaccessible (06 R178, R190). -/
def State.keepEarly (s : State) (nsid : Nat) (fns : List Nat) : State :=
  { s with sub := { s.sub with slots := tmap s.sub.slots (fun _ x =>
      if fns.contains x.gfn then { x with early := addOnce x.early nsid } else x) } }

/-- A command may still act on a namespace. -/
def Slot.names (x : Slot) (nsid : Nat) : Bool :=
  let c := cmdOf x.cmd
  decide (c.nsid = nsid) || (c.opc == 4 && decide (c.nsid = 0xFFFFFFFF)) ||
  (c.opc == 9 && (!x.listKnown || x.ranges.any (fun r => decide (r.2.2.2 = nsid))))

/-- The earlier commands of a namespace, and of one function where given, have completed (06 R178). -/
def State.earlyDone (s : State) (nsid : Nat) (g : Option Nat) : Bool :=
  s.sub.slots.all (fun p => !p.2.early.contains nsid || !p.2.names nsid
    || (match g with | some g => decide (p.2.gfn ≠ g) | none => false))

/-- Empty a namespace: every zone EMPTY with its ream released, every bundle unmapped (06 R178; 05 R141). -/
def State.nsEmpty (s : State) (nsid : Nat) : State :=
  let s := ((s.zonesOf nsid).map (fun p => p.1 % 2 ^ 21)).foldl (fun s z => s.zoneEmpty nsid z) s
  let s := s.dropRange nsid 0 (2 ^ 40)
  { s with zones := s.zones.filter (fun p => decide (p.1 / 2 ^ 21 ≠ nsid))
           media := { s.media with buns := s.media.buns.filter (fun p => decide (p.1 / 2 ^ 40 ≠ nsid)) } }

/-- The reservation goes back: reams that other namespaces still use become unreserved uses (05 R136, R481). -/
def State.unreserve (s : State) (nsid : Nat) : State :=
  let mine := s.media.reams.filter (fun p => decide (p.2.resvOf = nsid))
  mine.foldl (fun s p => (s.modReam p.1 (fun r => { r with resvOf := 0 })).modDk p.2.deckle
    (fun x => { x with unresv := x.unresv + 1 })) s

/-- NS_DELETE ends once the earlier commands have completed (06 R178). -/
def State.nsDeleteEnd (s : State) (nsid : Nat) : State :=
  match tfind s.nss nsid with
  | none => s
  | some n =>
    if !s.earlyDone nsid none then s
    else
      let s := ((s.nsEmpty nsid).unreserve nsid).jrecGroup n.home
      let s := s.asyncFree n.fns 0x03 nsid
      ({ s with nss := tdel s.nss nsid }).replyWaiters (.nsDelete nsid) 0 0 []

/-- NS_FORMAT ends once the earlier commands have completed (06 R178). -/
def State.nsFormatEnd (s : State) (nsid tag : Nat) : State :=
  match tfind s.nss nsid with
  | none => s
  | some n =>
    if !s.earlyDone nsid none then s
    else
      let s := ((s.nsEmpty nsid).modNs nsid (fun n => { n with busy := 0, tagMode := tag })).jrecGroup n.home
      (s.asyncFree n.fns 0x03 nsid).replyWaiters (.nsFormat nsid tag) 0 0 []

/-- A detach ends once the function's earlier commands have completed (06 R178). -/
def State.nsDetachEnd (s : State) (nsid g : Nat) : State :=
  if !s.earlyDone nsid (some g) then s
  else s.replyWaiters (.nsDetach nsid g) 0 0 (leBytes 4 (((tfind s.nss nsid).map (fun n => n.fns.length)).getD 0))

/-- TYPE of the operation that holds a namespace. -/
def nsBusyType (b : Nat) : Nat := if b = 1 then 0x0021 else if b = 2 then 0x0022 else 0x00B2

/-- A namespace message finds its namespace free (06 R177). -/
def State.onNs (s : State) (src : Src) (nsid : Nat) (k : Ns → State) : State :=
  match tfind s.nss nsid with
  | none => s.reply src 0x40D 0 []
  | some n => if n.busy ≠ 0 then s.reply src 0x405 (nsBusyType n.busy) [] else k n

/-- NS_DELETE (06 R178); run again while it waits, it looks whether the earlier commands have completed (log 28). -/
def execNsDelete (src : Src) (s : State) : Res :=
  .next (match s.waitOf src with
    | some (.nsDelete n) => s.nsDeleteEnd n
    | _ => s.serve src 0x0021 [(0, 4)] (fun s r =>
        let nsid := fieldLe r.payload 0 4
        s.onNs src nsid (fun n =>
          let s := (s.modNs nsid (fun n => { n with busy := 1 })).keepEarly nsid n.fns
          (s.setWait src (.nsDelete nsid)).nsDeleteEnd nsid)))

/-- NS_FORMAT (06 R178). -/
def execNsFormat (src : Src) (s : State) : Res :=
  .next (match s.waitOf src with
    | some (.nsFormat n t) => s.nsFormatEnd n t
    | _ => s.serve src 0x0022 [(0, 4), (4, 1)] (fun s r =>
        let nsid := fieldLe r.payload 0 4
        let t := byteAt r.payload 4
        if 2 < t then s.reply src 0x402 4 []
        else s.onNs src nsid (fun n =>
          let s := (s.modNs nsid (fun n => { n with busy := 2 })).keepEarly nsid n.fns
          (s.setWait src (.nsFormat nsid t)).nsFormatEnd nsid t)))

/-- Fields of NS_ATTACH. -/
def attachFields : List (Nat × Nat) := [(0, 4), (4, 2), (6, 1)]

/-- An NS_ATTACH of one ACTION: other values are refused by either row (06 R177). -/
def State.nsAttach (s : State) (src : Src) (action : Nat) (k : State → Nat → Nat → Ns → State) : State :=
  s.serve src 0x0023 attachFields (fun s' r =>
    let nsid := fieldLe r.payload 0 4
    let g := s'.gfnArg src (fieldLe r.payload 4 2)
    let a := byteAt r.payload 6
    if 1 < a then s'.reply src 0x402 6 []
    else if a ≠ action then s
    else s'.onNs src nsid (fun n =>
      if (s'.pfOf g).isNone || decide ((s'.fn g).vf = .absent) then s'.reply src 0x40D 0 [] else k s' nsid g n))

/-- NS_ATTACH, ACTION 1 (06 R177). -/
def execNsAttachAttach (src : Src) (s : State) : Res :=
  .next (s.nsAttach src 1 (fun s nsid g n =>
    if n.fns.contains g then s.reply src 0 0 (leBytes 4 n.fns.length)
    else ((s.modNs nsid (fun n => { n with fns := n.fns ++ [g] })).jrecGroup n.home).reply src 0 0
      (leBytes 4 (n.fns.length + 1))))

/-- NS_ATTACH, ACTION 0 (06 R177, R178). -/
def execNsAttachDetach (src : Src) (s : State) : Res :=
  .next (match s.waitOf src with
    | some (.nsDetach n g) => s.nsDetachEnd n g
    | _ => s.nsAttach src 0 (fun s nsid g n =>
        if !n.fns.contains g then s.reply src 0 0 (leBytes 4 n.fns.length)
        else
          let s := s.keepEarly nsid [g]
          let s := ((s.modNs nsid (fun n => { n with fns := n.fns.filter (· ≠ g) })).jrecGroup n.home).asyncFree [g] 0x03 nsid
          (s.setWait src (.nsDetach nsid g)).nsDetachEnd nsid g))

end Sys2Proof.Machine
end

