-- ==== Sys2Proof/Machine/AdminKey.lean ====
section
/-! DEFINITION. KEY_LOAD, KEK installs and KEY_DESTROY (06 R179; 11 R332–R337; 15 R413). -/

namespace Sys2Proof.Machine

/-- The key-blob region has room for the two records of an operation (15 R413). -/
def State.blobRoom (s : State) : Bool := decide (s.fst.blobUsed + 2 ≤ 2048)

/-- Program the two copies of a record, wrapped; crossing a sector starts the erase of the next (11 R333, R336; 15 R413). `k`: a
slot, or 4,096 + n for KEK n. -/
def State.blobWrite (s : State) (k : Nat) (rec : List Byte) : State :=
  let u := s.fst.blobUsed + 2
  let crosses := decide (s.fst.blobUsed < 1024 ∧ 1024 ≤ u)
  let s := { s with fst := { s.fst with blobs := tset s.fst.blobs k (⟨rec⟩, ⟨rec⟩), blobUsed := u } }
  if crosses then s.storeErase 0x598 else s

/-- A key slot. -/
def State.keySlot (s : State) (k : Nat) : KeySlot := tget s.cip.keys k {}

/-- Remove a slot's keys from every lane cache (11 R335). -/
def State.uncache (s : State) (k : Nat) : State :=
  { s with cip := { s.cip with lanes := tmap s.cip.lanes (fun _ l => { l with cache := l.cache.filter (fun c => decide (c.1 ≠ k)) }) } }

/-- A key becomes current under the slot's next generation (11 R334). -/
def State.loadKey (s : State) (k : Nat) (key : List Byte) : State × BitVec 32 :=
  let x := s.keySlot k
  let y : KeySlot := { loaded := true, gen := x.gen + 1, key := key, destroyed := false }
  (({ s with cip := { s.cip with keys := tset s.cip.keys k y } }).blobWrite k (keyRec y), y.gen)

/-- Destroy a slot (11 R335). -/
def State.destroyKey (s : State) (k : Nat) : State :=
  let x := s.keySlot k
  if !x.loaded then s
  else
    let y : KeySlot := { loaded := false, gen := x.gen, key := [], destroyed := true }
    (({ s with cip := { s.cip with keys := tset s.cip.keys k y } }).uncache k).blobWrite k (keyRec y)

/-- Fields of KEY_LOAD. -/
def keyLoadFields : List (Nat × Nat) := [(0, 2), (2, 2), (4, 1), (8, 72)]

/-- Check 1 of 11 R334. -/
def State.kekSender (s : State) (src : Src) (k : Nat) : Bool := decide (k < 0x1000) || decide (s.selfOf src = s.mgmtPf)

/-- KEY_LOAD of a slot, checks 3 to 7 (11 R334). -/
def State.keyLoad (s : State) (src : Src) (r : Req) : State :=
  let k := fieldLe r.payload 0 2
  let g := s.gfnArg src (fieldLe r.payload 2 2)
  let x := s.keySlot k
  if !s.mayName src g || decide (s.pageOwner (k / 16) ≠ g) then s.reply src 0x404 0 []
  else match tfind s.cip.keks (byteAt r.payload 4) with
    | none => s.reply src 0x40D 0 []
    | some kek =>
      if x.gen = 0xFFFFFFFF#32 then s.reply src 0x406 0 []
      else match Config.aesUnwrap kek (sliceB r.payload 8 72) with
        | none => s.reply src 0x408 0 []
        | some key =>
          if key.take 32 = (key.drop 32).take 32 then s.reply src 0x402 8 []
          else if !s.blobRoom then s.setWait src (.storeErase 0x598)
          else
            let (s, gen) := s.loadKey k key
            s.reply src 0 0 (leBytes 4 gen.toNat)

/-- KEY_LOAD of a key slot (06 R179, 11 R334). -/
def execKeyLoad (src : Src) (s : State) : Res :=
  .next (s.serve src 0x0030 [] (fun s' r =>
    if 2 ≤ r.len ∧ 0x1000 ≤ fieldLe r.payload 0 2 then s
    else match shortAt r.len keyLoadFields with
      | some o => s'.reply src 0x402 o []
      | none => s'.keyLoad src r))

/-- A KEK install's malformed field (11 R336). -/
def kekBad (l : List Byte) : Option Nat :=
  let k := fieldLe l 0 2
  if k ≤ 0x8000 ∨ 0x800F < k then some 0
  else if byteAt l 4 ≠ 0 then some 4
  else if (sliceB l 40 40).any (fun b => decide (b ≠ 0)) then some 40
  else none

/-- Install, replace or remove KEK n (11 R336): the sender is checked before the payload (11 R334). -/
def State.kekInstall (s : State) (src : Src) (r : Req) : State :=
  let k := fieldLe r.payload 0 2
  if !s.kekSender src k then s.reply src 0x404 0 []
  else match (shortAt r.len keyLoadFields).or (kekBad r.payload) with
    | some o => s.reply src 0x402 o []
    | none =>
      if !s.blobRoom then s.setWait src (.storeErase 0x598)
      else
        let n := k - 0x8000
        let key := sliceB r.payload 8 32
        let s := if key.all (fun b => decide (b = 0)) then { s with cip := { s.cip with keks := tdel s.cip.keks n } }
          else { s with cip := { s.cip with keks := tset s.cip.keks n key } }
        (s.blobWrite (4096 + n) key).reply src 0 0 (leBytes 4 0)

/-- KEK_INSTALL: KEY_LOAD with KSLOT 0x1000 or above (11 R334, R336). -/
def execKekInstall (src : Src) (s : State) : Res :=
  .next (s.serve src 0x0030 [] (fun s' r =>
    if r.len < 2 ∨ fieldLe r.payload 0 2 < 0x1000 then s else s'.kekInstall src r))

/-- KEY_DESTROY (06 R179, 11 R335). -/
def State.keyDestroy (s : State) (src : Src) (r : Req) : State :=
  let k := fieldLe r.payload 0 2
  let g := s.gfnArg src (fieldLe r.payload 2 2)
  if 4096 ≤ k then s.reply src 0x402 0 []
  else if !s.mayName src g || decide (s.pageOwner (k / 16) ≠ g) then s.reply src 0x404 0 []
  else if (s.keySlot k).loaded && !s.blobRoom then s.setWait src (.storeErase 0x598)
  else (s.destroyKey k).reply src 0 0 (leBytes 4 (s.keySlot k).gen.toNat)

/-- KEY_DESTROY (11 R335). -/
def execKeyDestroy (src : Src) (s : State) : Res :=
  .next (s.serve src 0x0031 [(0, 2), (2, 2)] (fun s r => s.keyDestroy src r))

end Sys2Proof.Machine
end

