-- ==== Sys2Proof/Machine/FnOps.lean ====
section
/-! DEFINITION. The life of functions: default settings, release, function-level reset, link reset and VF Enable
(02 R59; 07 R194–R203, R210–R213; 08 R223). -/

namespace Sys2Proof.Machine

/-! ### Settings of a function (07 R195, R196) -/

/-- A value table with a function's settings at their defaults: class, handles, and every page it owned. -/
def settingsOut (t : Tbl Nat) (g : Nat) : Tbl Nat :=
  t.filter (fun p => !(decide (p.1 = pTclass g)
    || (decide (p.1 / 2 ^ 24 = 5 ∧ p.1 / 2 ^ 12 % 4096 = g) && inR 0x401 0x43F (p.1 % 4096))
    || decide (p.1 / 2 ^ 24 = 9 ∧ p.1 % 4096 = 1 ∧ 9 * 2 ^ 24 + 1 ≤ p.1 ∧ p.2 = g)))

/-- Return a function's settings to their defaults (07 R195). -/
def State.settingsDflt (s : State) (g : Nat) : State :=
  { s with par := { s.par with live := settingsOut s.par.live g } }

/-- The namespaces that a function is attached to. -/
def State.attachedTo (s : State) (g : Nat) : List Nat := (s.nss.filter (fun p => p.2.fns.contains g)).map Prod.fst

/-- Detach every namespace of a function; the change is recorded with the namespace (05 R135, 07 R195). -/
def State.detachAll (s : State) (g : Nat) : State :=
  (s.attachedTo g).foldl (fun s n =>
    (s.modNs n (fun x => { x with fns := x.fns.filter (· ≠ g) })).jrecGroup (((tfind s.nss n).map Ns.home).getD 0)) s

/-- Delete a function's queues (07 R200, R211; 02 R59); its conversations about them end. -/
def State.dropQueues (s : State) (g : Nat) : State :=
  (s.queuesOf g).foldl (fun s qid => match s.q g qid with
    | none => s
    | some q =>
      let s := { s with qs := tdel s.qs (qkey g qid) }
      let s := s.replyWaiters (.deleteQueue g qid) 0 0 (leBytes 4 q.cnt305)
      let s := s.replyWaiters (.queueReset g qid) 0 0 (leBytes 4 q.cnt300)
      s.replyWaiters (.queueResetMerged g qid) 0 0 (leBytes 4 0)) s

/-- The mailbox of a function forgets its conversation: BUSY, DONE, RELAYED and SEQ are 0 (07 R203, R211). -/
def Fn.mbxClear (f : Fn) : Fn :=
  { f with mbBusy := false, mbDone := false, mbRelayed := false, mbSeq := 0, req := none, wait := none, torn := false, cutOf := none }

/-- Withdraw a VF's relay entry, with its conversation (07 R203). -/
def State.withdraw (s : State) (g : Nat) : State :=
  let s := s.modFn (s.portOf g) (fun f => { f with inbox := f.inbox.filter (fun e => decide (e.gfn ≠ g)) })
  if (s.fn g).mbRelayed then s.modFn g Fn.mbxClear else s

/-- Steps 1 to 4 of a release (07 R200). Step 2 drops the cached bits of a dirty log unwritten (DESIGN CHOICE, log 72). -/
def State.releaseFn (s : State) (g : Nat) : State :=
  let s := (s.dropQueues g).modFn g (fun f => { f with dirty := none })
  let ns := s.attachedTo g
  let s := ((s.detachAll g).settingsDflt g).withdraw g
  ns.foldl (fun s n => s.asyncFree [g] 0x03 n) s

/-- A function that is out of being or in its reset state keeps its outcome logs and the events owed (06 R184). -/
def Fn.renew (f : Fn) (v : VfState) : Fn :=
  { vf := v, log4 := f.log4, log5 := f.log5, log6 := f.log6, evDue := f.evDue, rid := f.rid, buses := f.buses,
    reqBuf := f.reqBuf, respBuf := f.respBuf }

/-- The VFs of a PF that are in being. -/
def State.vfsOf (s : State) (p : Nat) : List Nat :=
  (s.fns.filter (fun e => decide (8 ≤ e.1 ∧ s.pfOf e.1 = some p) && decide (e.2.vf ≠ .absent))).map Prod.fst

/-- Cancel what a dropped conversation had begun and not carried out: a namespace that waited for its deletion or format
is free again, one that waited for a detach is attached as it was (06 R178), and a drain of staging for SET_PARAM ends (log 33). -/
def State.cancelWait (s : State) (w : Option Wait) : State :=
  match w with
  | some (.nsDelete n) => s.modNs n (fun x => { x with busy := 0 })
  | some (.nsFormat n _) => s.modNs n (fun x => { x with busy := 0 })
  | some (.nsDetach n g) => s.modNs n (fun x => { x with fns := addOnce x.fns g })
  | some (.stagingDrain _) => s.drainStop.recap
  | _ => s

/-- A dropped FW_COMMIT that waited for its erase runs no more (06 R168). -/
def State.cancelCommit (s : State) (r : Option Req) (w : Option Wait) : State :=
  match w with
  | some (.storeErase _) =>
    if r.map Req.typ = some 0x0041 ∧ s.adm.devOp = some 0x0041 then { s with adm := { s.adm with devOp := none } } else s
  | _ => s

/-- Drop a function's conversation without a reply (06 R166; 02 R59). -/
def State.dropConversation (s : State) (g : Nat) : State :=
  ((s.cancelWait (s.fn g).wait).cancelCommit (s.fn g).req (s.fn g).wait).modFn g Fn.mbxClear

/-! ### Function-level reset (07 R210–R213) -/

/-- The event owed for LOGID 0x06 passes from a VF that now leaves to its PF (08 R223). -/
def State.passEvent (s : State) (g : Nat) : State :=
  if (s.fn g).evDue.contains 6 then
    (s.modFn g (fun f => { f with evDue := f.evDue.filter (· ≠ 6) })).modFn (s.portOf g) (fun f => { f with evDue := addOnce f.evDue 6 })
  else s

/-- Start an FLR: DMA is fenced, the mailbox discards its request, and every tag is reached with 0x302 and goes to the
manager outcome log. A second FLR merges with the first (07 R210, R213). -/
def State.flrBegin (s : State) (g : Nat) (leaving : Bool) : State :=
  if (s.fn g).flr then
    let s := if leaving then s.passEvent g else s
    s.modFn g (fun f => { f with leaving := f.leaving || leaving })
  else
    let s := ((s.withdraw g).dropConversation g).modFn g (fun f => { f with flr := true, leaving := leaving })
    let s := s.markAll 0x302 (s.slotsOfFn g)
    s.redirect 6 (s.slotsOfFn g)

/-- Every VF of a PF above an index leaves (07 R201). -/
def State.vfsLeave (s : State) (p n : Nat) : State :=
  ((s.vfsOf p).filter (fun g => decide (n < s.vfIndex g))).foldl (fun s g => s.flrBegin g true) s

/-- FLR_INITIATE (07 R210); on a PF, VF Enable clears and every VF leaves (07 R213). -/
def execFlrInitiate (g : Nat) (s : State) : Host.Outcome State Fault Refusal :=
  .next (if !s.reach g then s
    else
      let s := if s.isPf g then
          (s.modFn g (fun f => { f with vfEnable := false, numVfs := 0 })).vfsLeave g 0
        else s
      s.flrBegin g false)

/-- What an FLR leaves of a function's registers (07 R211; 02 R53); Device Control as PCIe has it (log 45). -/
def Fn.afterFlr (f : Fn) : Fn :=
  { f.mbxClear with
    flr := false, leaving := false, ctrl := 0, err := 0, errOff := 0, errBar := 0, abBusy := false, abDone := false,
    abOrigin := 0, abTags := 0, abCount := 0, vecs := [], fmask := false, msixEn := false, alog := [],
    devCtl := 0x2810 &&& ~~~0xE0 ||| (f.devCtl &&& 0xE0) }

/-- The replies that waited for the FLR of a function (07 R213; 02 R45). -/
def State.flrReplies (s : State) (g : Nat) : State :=
  let s := s.replyWaiters (.fnAbort g) 0 0 (leBytes 4 0)
  let s := s.replyWaiters (.flrEnd g) 0 0 (leBytes 4 0)
  s.replyWaiters (.quiesce g) 0 0 (leBytes 4 (s.fn g).quCount)

/-- Every tag of a function has its outcome, and on a PF every VF has left. -/
def State.flrOver (s : State) (g : Nat) : Bool :=
  (s.fn g).flr && (s.slotsOfFn g).isEmpty && (!s.isPf g || (s.vfsOf g).isEmpty)

/-- No VF of a PF is on its way out, and the PF itself is in no FLR: the event of LOGID 0x06 is due (08 R223). -/
def State.leaveOver (s : State) (p : Nat) : Bool :=
  !(s.fn p).flr && (s.vfsOf p).all (fun g => !(s.fn g).leaving)

/-- End an FLR: the function returns to the state that it interrupted, or leaves (07 R194, R201, R211). -/
def State.flrFinish (s : State) (g : Nat) : State :=
  let leaving := (s.fn g).leaving
  let s := (s.dropQueues g).flrReplies g
  let s := s.modFn g Fn.afterFlr
  if leaving then
    let s := (s.releaseFn g).modFn g (fun f => f.renew .absent)
    if s.leaveOver (s.portOf g) then s.outcomesEvents (s.portOf g) else s
  else s.outcomesEvents g

/-- FLR_END (07 R211). -/
def execFlrEnd (g : Nat) (s : State) : Host.Outcome State Fault Refusal :=
  .next (if s.flrOver g then s.flrFinish g else s)

/-! ### VF Enable (07 R194, R201) -/

/-- VF_ENABLE_SET: the VFs up to NumVFs become BARE, and those above it leave (07 R194, R201). -/
def execVfEnableSet (p n : Nat) (s : State) : Host.Outcome State Fault Refusal :=
  .next (if !(s.isPf p && s.reach p) || (s.fn p).flr then s
    else
      let above := decide (n < (s.fn p).numVfs)
      let s := s.modFn p (fun f => { f with vfEnable := true, numVfs := n })
      let s := if above then s.vfsLeave p n else s
      ((List.range (min n (s.totalVfs p))).map (· + s.vfBase p)).foldl (fun s g =>
        if (s.fn g).vf = .absent then s.modFn g (fun f => { f with vf := .bare }) else s) s)

/-- VF_ENABLE_CLEAR: VF Enable clears at NumVFs 0; every VF above NumVFs leaves (07 R201). -/
def execVfEnableClear (p n : Nat) (s : State) : Host.Outcome State Fault Refusal :=
  .next (if !(s.isPf p && s.reach p) || (s.fn p).flr || decide ((s.fn p).numVfs ≤ n) then s
    else (s.modFn p (fun f => { f with vfEnable := decide (n ≠ 0), numVfs := n })).vfsLeave p n)

/-! ### Link reset (02 R58, R59) -/

/-- The commands in flight of a link group. -/
def State.slotsOfGroup (s : State) (p : Nat) : List (Nat × Slot) := s.sub.slots.filter (fun x => decide (s.pfOf x.2.gfn = some p))

/-- The PF of a group and the VFs that are listed. -/
def State.fnsOfGroup (s : State) (p : Nat) : List Nat :=
  p :: (s.fns.filter (fun e => decide (8 ≤ e.1 ∧ s.pfOf e.1 = some p))).map Prod.fst

/-- The outstanding non-posted requests of some commands are abandoned; a stop that waited for one takes place. -/
def State.abandonDma (s : State) (l : List (Nat × Slot)) : State :=
  l.foldl (fun s p => match s.slot p.1 with
    | some x => if x.dma then (s.setSlot p.1 { x with dma := false }).stopDue p.1 else s
    | none => s) s

/-- The function whose setting a parameter is (07 R195). -/
def settingFn (k v : Nat) : Option Nat :=
  if k / 2 ^ 24 = 4 ∧ k % 4096 = 1 then some (k / 2 ^ 12 % 4096)
  else if k / 2 ^ 24 = 5 ∧ inR 0x401 0x43F (k % 4096) = true then some (k / 2 ^ 12 % 4096)
  else if k / 2 ^ 24 = 9 ∧ k % 4096 = 1 then some v
  else none

/-- Settings and attachments of a group's VFs that are not in being go with the others (02 R59; 07 R195). -/
def State.settingsLost (s : State) (p : Nat) : State :=
  let gone := fun g => decide (8 ≤ g ∧ s.pfOf g = some p)
  let s := ((s.nss.flatMap (fun n => n.2.fns)).filter gone).foldl (fun s g => s.detachAll g) s
  { s with par := { s.par with live := s.par.live.filter (fun e => match settingFn e.1 e.2 with
      | some g => !gone g
      | none => true) } }

/-- Step 3 of 02 R59: the functions of a group return to their reset state. The PF keeps its namespace attachments. -/
def State.groupReset (s : State) (p : Nat) : State :=
  let s := (s.fnsOfGroup p).foldl (fun s g =>
    let s := (s.dropConversation g).dropQueues g
    let s := if s.isPf g then s else s.detachAll g
    (s.settingsDflt g).modFn g (fun f => f.renew (if s.isPf g then .active else .absent))) s
  let s := s.settingsLost p
  { s with hif := { s.hif with ide := s.hif.ide.filter (fun e => decide (e.2.port ≠ p)) } }.modPort p (fun x => { x with reset := false, degraded := false })

/-- Steps 1 and 2 of 02 R59; posted writes that stalled at the group's intake are lost with its link. -/
def State.groupDown (s : State) (p : Nat) : State :=
  let s := { s with sub := { s.sub with stalled := tdel s.sub.stalled p } }
  let s := s.modPort p (fun x => { x with up := false, fenced := true, reset := true })
  let s := (s.fnsOfGroup p).foldl (fun s g => s.modFn g (fun f => { f with log5 := [] })) s
  let s := s.abandonDma (s.slotsOfGroup p)
  let s := s.markAll 0x302 (s.slotsOfGroup p)
  s.redirect 5 (s.slotsOfGroup p)

/-- Step 3 once every tag of the group has its outcome. -/
def State.groupSettle (s : State) (p : Nat) : State :=
  if (s.port p).reset && (s.slotsOfGroup p).isEmpty then s.groupReset p else s

/-- LINK_DOWN (02 R59). -/
def execLinkDown (p : Nat) (s : State) : Host.Outcome State Fault Refusal :=
  .next (if decide (p < s.nPf) && (s.port p).up then (s.groupDown p).groupSettle p else s)

/-- Send the outcomes events owed to a group's functions. -/
def State.groupEvents (s : State) (p : Nat) : State := (s.fnsOfGroup p).foldl (fun s g => s.outcomesEvents g) s

/-- DL_UP (02 R59): the group's functions are readable again once their tags have their outcomes; their outcomes events
follow (08 R224). -/
def execDlUp (p : Nat) (s : State) : Host.Outcome State Fault Refusal :=
  .next (if !decide (p < s.nPf) || (s.port p).up || s.brd.perstLow then s
    else
      let s := s.groupSettle p
      if (s.port p).reset then s
      else
        let s := s.modPort p (fun x => { x with up := true, fenced := false })
        if s.mode.booting then s else s.groupEvents p)

/-- LINK_RETRAIN (02 R58): DMA stalls and resumes; DEGRADED tracks what trained, and a notification reports the change. -/
def execLinkRetrain (p : Nat) (degraded : Bool) (s : State) : Host.Outcome State Fault Refusal :=
  .next (if decide (p < s.nPf) && (s.port p).up then
      (s.modPort p (fun x => { x with degraded := degraded })).emit (.bandwidth p)
    else s)

/-- COMPLETION_ENTRY_WRITE (03 R88; 08 R222, R223): an entry for a ring waits for a free entry and for its turn. The last one
of a link group that is reset lets its functions return to their reset state (02 R59). -/
def execCompletionEntryWrite (i : Nat) (s : State) : Host.Outcome State Fault Refusal :=
  .next (match s.slot i with
    | none => s
    | some x =>
      let p := s.portOf x.gfn
      if x.phase ≠ .fixed ∨ s.pwr.pfailLow = true then s
      else if x.logTo.isSome then (s.issue i x).groupSettle p
      else match s.q x.gfn x.qid with
        | none => (s.retire i x).groupSettle p
        | some q => if q.hasRoom && s.firstReady i x then (s.issue i x).groupSettle p else s)

/-- POISONED_TLP (02 R47). -/
def execPoisonedTlp (g : Nat) (s : State) : Host.Outcome State Fault Refusal := .next (if s.reach g then s.errSet g 7 else s)

end Sys2Proof.Machine
end

