-- ==== Sys2Proof/Machine/AdminFn.lean ====
section
/-! DEFINITION. The function-management messages and their events: VF_ENABLE, FUNCTION_QUIESCE, function state, relay,
dirty-page logging, FUNCTION_ABORT (06 R169, R189; 07 R197–R208, R214–R219; 08 R228). -/

namespace Sys2Proof.Machine

/-- A message that names one of the sender's VFs: the VF is there, and it is not BARE (06 R167; 07 R194, R197). -/
def State.onVf (s : State) (src : Src) (g : Nat) (bare : State) (k : State) : State :=
  if !s.ownVf src g then s.reply src 0x404 0 []
  else match (s.fn g).vf with
    | .absent => s.reply src 0x40D 0 []
    | .bare => if (s.fn g).flr then s.reply src 0x405 0 [] else bare
    | _ => if (s.fn g).flr then s.reply src 0x405 0 [] else k

/-- The VF a message names. -/
def State.vfArg (s : State) (src : Src) (r : Req) : Nat := s.gfnArg src (fieldLe r.payload 0 2)

/-- A message with a GFN and an ACTION at byte 2: an ACTION above 1 is refused by either row (06 R165, R189). -/
def State.actionMsg (s : State) (src : Src) (typ action : Nat) (k : State → Nat → State) : State :=
  s.serve src typ [(0, 2), (2, 1)] (fun s' r =>
    let a := byteAt r.payload 2
    if 1 < a then s'.reply src 0x402 2 [] else if a ≠ action then s else k s' (s'.vfArg src r))

/-! ### VF_ENABLE (07 R197, R200) -/

/-- VF_ENABLE, ACTION 1 (07 R197). Settings given to the VF while it was BARE are kept (DESIGN CHOICE, log 73). -/
def execVfEnableProvision (src : Src) (s : State) : Res :=
  .next (s.actionMsg src 0x0090 1 (fun s g =>
    s.onVf src g ((s.modFn g (fun f => { f with vf := .active })).reply src 0 0 []) (s.reply src 0 0 [])))

/-- VF_ENABLE, ACTION 0 (07 R200). -/
def execVfEnableRelease (src : Src) (s : State) : Res :=
  .next (s.actionMsg src 0x0090 0 (fun s g =>
    if !s.ownVf src g then s.reply src 0x404 0 []
    else if (s.fn g).flr then s.reply src 0x405 0 []
    else if (s.fn g).vf = .quiesced ∧ (s.slotsOfFn g).isEmpty = true then
      ((s.releaseFn g).modFn g (fun f => { f with vf := .bare, quCount := 0 })).reply src 0 0 []
    else s.reply src 0x40A 0 []))

/-! ### Quiesce and resume (07 R205–R208) -/

/-- The sender's doorbell made the cut at a VF whose FLR has started since (07 R213). -/
def State.cutBefore (s : State) (src : Src) (g : Nat) : Bool :=
  match src with | some p => decide ((s.fn p).cutOf = some g) && (s.fn g).flr | none => false

/-- FUNCTION_QUIESCE, ACTION 1 (07 R205): the cut was the doorbell write; the reply comes when no tag is outstanding, or at the
end of an FLR that has started since (07 R213). -/
def execFunctionQuiesce (src : Src) (s : State) : Res :=
  .next (s.actionMsg src 0x0091 1 (fun s g =>
    if s.cutBefore src g then s.setWait src (.quiesce g)
    else s.onVf src g (s.reply src 0x404 0 [])
      (let s := s.modFn g (fun f => if f.vf = .active then { f with vf := .quiesced, quCount := 0 } else f)
       if (s.slotsOfFn g).isEmpty then s.reply src 0 0 (leBytes 4 (s.fn g).quCount) else s.setWait src (.quiesce g))))

/-- QUIESCE_DRAIN_DONE (07 R205). -/
def execQuiesceDrainDone (g : Nat) (s : State) : Res :=
  .next (if (s.slotsOfFn g).isEmpty && !(s.fn g).flr then s.replyWaiters (.quiesce g) 0 0 (leBytes 4 (s.fn g).quCount) else s)

/-- QUIESCE_WAIT_TIMEOUT (07 R206): the VF stays QUIESCED. -/
def execQuiesceWaitTimeout (g : Nat) (s : State) : Res :=
  .next (if (s.slotsOfFn g).isEmpty || (s.fn g).flr then s
    else s.replyWaiters (.quiesce g) 0x406 0 (leBytes 4 (s.fn g).quCount))

/-- At a resume a ring with unconsumed entries raises its message; a timer carried over goes on from its age
(07 R208, R219). -/
def State.resumeRing (s : State) (g qid : Nat) : State :=
  match s.q g qid with
  | none => s
  | some q =>
    if 0 < q.unconsumed then s.ringRaise g qid
    else if q.pend ≠ 0 then s.modQ g qid (fun q => { q with timer := q.timer.or (some s.now) })
    else s

/-- FUNCTION_QUIESCE, ACTION 0 (07 R208). -/
def execFunctionResume (src : Src) (s : State) : Res :=
  .next (s.actionMsg src 0x0091 0 (fun s g =>
    s.onVf src g (s.reply src 0x404 0 [])
      (if (s.fn g).vf = .quiesced then
        let n := (s.fn g).quCount
        let s := s.modFn g (fun f => { f with vf := .active, quCount := 0 })
        ((s.queuesOf g).foldl (fun s q => s.resumeRing g q) s).reply src 0 0 (leBytes 4 n)
      else s.reply src 0 0 (leBytes 4 0))))

/-! ### Function state (06 R189; 07 R219) -/

/-- A queue's timer age in µs (07 R219). -/
def State.timerAge (s : State) (q : Queue) : Nat := min 65535 (q.tbase + (match q.timer with | some t => (s.now - t) / 10 | none => 0))

/-- A state entry (06 R189). -/
def State.stateEntry (s : State) (qid : Nat) (q : Queue) : List Byte :=
  leBytes 2 qid ++ leBytes 2 q.expseq.toNat ++ leBytes 2 q.avail ++ leBytes 2 q.tail ++ leBytes 2 q.head
    ++ leBytes 1 (b2n q.phase) ++ leBytes 1 q.pend ++ leBytes 2 (s.timerAge q) ++ zeros 2

/-- State messages need the function quiesced with no outstanding tag (06 R189). -/
def State.onStill (s : State) (src : Src) (g : Nat) (k : State) : State :=
  s.onVf src g (s.reply src 0x404 0 [])
    (if (s.fn g).vf = .quiesced ∧ (s.slotsOfFn g).isEmpty = true then k else s.reply src 0x405 0x0091 [])

/-- FUNCTION_STATE_GET (06 R189): the entries from the first QID, at most 254. -/
def execFunctionStateGet (src : Src) (s : State) : Res :=
  .next (s.serve src 0x0092 [(0, 2), (2, 2)] (fun s r =>
    let g := s.vfArg src r
    s.onStill src g (
      let all := s.queuesOf g
      let l := (all.filter (fun q => decide (fieldLe r.payload 2 2 ≤ q))).take 254
      s.reply src 0 0 (leBytes 4 all.length ++ leBytes 4 l.length ++ l.flatMap (fun qid => match s.q g qid with
        | some q => s.stateEntry qid q
        | none => [])))))

/-- One entry of a FUNCTION_STATE_SET. -/
structure StateEnt where
  qid : Nat
  expseq : Nat
  avail : Nat
  tail : Nat
  head : Nat
  phase : Nat
  pend : Nat
  age : Nat

/-- Read entry `i` of a FUNCTION_STATE_SET payload. -/
def stateEntOf (l : List Byte) (i : Nat) : StateEnt :=
  let o := 8 + 16 * i
  { qid := fieldLe l o 2, expseq := fieldLe l (o + 2) 2, avail := fieldLe l (o + 4) 2, tail := fieldLe l (o + 6) 2,
    head := fieldLe l (o + 8) 2, phase := byteAt l (o + 10), pend := byteAt l (o + 11), age := fieldLe l (o + 12) 2 }

/-- The checks of one entry (07 R219). -/
def State.entBad (s : State) (g : Nat) (e : StateEnt) : Bool :=
  match s.q g e.qid with
  | none => true
  | some q => decide (e.avail ≠ q.depth ∨ q.entries ≤ e.tail ∨ q.entries ≤ e.head ∨ 1 < e.phase ∨ q.ccount < e.pend
      ∨ q.ctime < e.age)

/-- A queue under a state entry (07 R219). -/
def Queue.withEnt (q : Queue) (e : StateEnt) : Queue :=
  { q with expseq := BitVec.ofNat 16 e.expseq, tail := e.tail, head := e.head, phase := decide (e.phase = 1), pend := e.pend,
           timer := none, tbase := e.age, ovr := false, torn := false, chk := false, seqf := false, supp := false, headf := false,
           rejseq := 0, rejcnt := 0, dropcnt := 0 }

/-- The fields of `n` state entries. -/
def entFields (n : Nat) : List (Nat × Nat) :=
  (List.range n).flatMap (fun i => [(0, 2), (2, 2), (4, 2), (6, 2), (8, 2), (10, 1), (11, 1), (12, 2)].map
    (fun (f : Nat × Nat) => (8 + 16 * i + f.1, f.2)))

/-- FUNCTION_STATE_SET (07 R219): every entry is checked before any is applied. -/
def execFunctionStateSet (src : Src) (s : State) : Res :=
  .next (s.serve src 0x0093 [(0, 2), (4, 4)] (fun s r =>
    let g := s.vfArg src r
    let n := fieldLe r.payload 4 4
    s.onStill src g (
      if 254 < n then s.reply src 0x402 4 []
      else match shortAt r.len (entFields n) with
        | some o => s.reply src 0x402 o []
        | none =>
          let es := (List.range n).map (stateEntOf r.payload)
          match es.findIdx? (s.entBad g) with
          | some i => s.reply src 0x40A i []
          | none => (es.foldl (fun s e => s.modQ g e.qid (fun q => q.withEnt e)) s).reply src 0 0 [])))

/-! ### Relay (06 R169; 07 R202–R204) -/

/-- RELAY_FETCH (06 R169, 07 R202): the oldest entry that waits; with none the reply is 8 bytes, whose GFN and RID the
spec does not state (log 11). -/
def execRelayFetch (src : Src) (s : State) : Res :=
  .next (s.serve src 0x0094 [] (fun s _ =>
    let p := s.selfOf src
    let wait := (s.fn p).inbox.filter (fun e => !e.fetched)
    match wait with
    | [] => ({ s with freeCtr := s.freeCtr + 1 }).reply src 0 0 (padTo 4 (Config.freeBytes s.freeCtr 4) ++ leBytes 4 0)
    | e :: rest =>
      let s := s.modFn p (fun f => { f with inbox := f.inbox.map (fun x =>
        if x.rid = e.rid ∧ x.gfn = e.gfn then { x with fetched := true } else x) })
      s.reply src 0 0 (leBytes 2 e.gfn ++ leBytes 2 e.rid ++ leBytes 4 rest.length ++ e.req.bytes)))

/-- Close a VF's relay entry. -/
def State.relayClose (s : State) (p g : Nat) : State :=
  s.modFn p (fun f => { f with inbox := f.inbox.filter (fun e => decide (e.gfn ≠ g)) })

/-- RELAY_RESPOND (06 R169; 07 R203, R204): STATUS and DETAIL go to the VF unchecked. -/
def execRelayRespond (src : Src) (s : State) : Res :=
  .next (s.serve src 0x0095 [(0, 2), (2, 2), (4, 2)] (fun s r =>
    let p := s.selfOf src
    match (s.fn p).inbox.find? (fun e => e.fetched && decide (e.rid = fieldLe r.payload 0 2)) with
    | none => s.reply src 0x40D 0 []
    | some e =>
      let s := (s.relayClose p e.gfn).replyWith (some e.gfn) e.req 2 (fieldLe r.payload 2 2) (fieldLe r.payload 4 2)
        (sliceB r.payload 8 4072)
      s.reply src 0 0 []))

/-- RELAY_TIMEOUT (06 R169): the VF receives 0x40C. -/
def execRelayTimeout (g : Nat) (s : State) : Res :=
  let p := s.portOf g
  .next (match (s.fn p).inbox.find? (fun e => decide (e.gfn = g)) with
    | none => s
    | some e => (s.relayClose p g).replyWith (some g) e.req 0 0x40C 0 [])

/-! ### Dirty-page logging (07 R214–R217) -/

/-- Granularity in bytes (06 R189). -/
def granBytes (v : Nat) : Nat := if v = 0 then 4096 else 2097152

/-- The first malformed field of a DIRTY_LOG_START (06 R189; 07 R214). -/
def dirtyBad (l : List Byte) : Option Nat :=
  let gr := granBytes (byteAt l 2)
  if 1 < byteAt l 2 then some 2
  else if fieldLe l 4 8 % gr ≠ 0 then some 4
  else if 2 ^ 40 < fieldLe l 12 8 ∨ fieldLe l 12 8 % gr ≠ 0 then some 12
  else if fieldLe l 20 8 % 4096 ≠ 0 then some 20
  else if fieldLe l 28 8 % 4096 ≠ 0 then some 28
  else none

/-- Functions that log. -/
def State.loggers (s : State) : Nat :=
  (s.fns.filter (fun p => match p.2.dirty with | some d => !d.failed | none => false)).length

/-- DIRTY_LOG_START (07 R214). A VF whose logging stopped after a failed bitmap access still counts as logging until a HARVEST or STOP, so it
answers 0x405 with DETAIL 0x00A0 (the spec does not say; DESIGN CHOICE, log 88). -/
def execDirtyLogStart (src : Src) (s : State) : Res :=
  .next (s.serve src 0x00A0 [(0, 2), (2, 1), (4, 8), (12, 8), (20, 8), (28, 8)] (fun s r =>
    let g := s.vfArg src r
    let l := r.payload
    s.onVf src g (s.reply src 0x404 0 []) (match dirtyBad l with
      | some o => s.reply src 0x402 o []
      | none =>
        if (s.fn g).dirty.isSome then s.reply src 0x405 0x00A0 []
        else if 64 ≤ s.loggers then s.reply src 0x406 0 []
        else
          let d : Dirty := { base := fieldLe l 4 8, len := fieldLe l 12 8, gran := granBytes (byteAt l 2),
                             bm0 := fieldLe l 20 8, bm1 := fieldLe l 28 8 }
          (s.modFn g (fun f => { f with dirty := some d })).reply src 0 0 [])))

/-- The bytes of a bitmap that some bits touch: offset and the bits to set (07 R214). -/
def bitBytes (bits : List Nat) : List (Nat × Nat) :=
  ((bits.map (· / 8)).foldl addOnce []).map (fun b => (b, (List.range 8).foldl (fun a i => a + (if bits.contains (8 * b + i) then 2 ^ i else 0)) 0))

/-- Bitmap writes reach host memory: they run under the PF's routing ID, and a failed IDE stream stops them (07 R217). -/
def State.bitmapOk (s : State) (p : Nat) : Bool := s.dmaOk p && !s.ideBlocked p

/-- Bits of a byte value. -/
def bitCount (v : Nat) : Nat := ((List.range 8).filter (fun i => bitN v i)).length

/-- Write out the cached bits into the active buffer by read-modify-write, counting the bits that change from 0 to 1 (07 R215,
R216). What a byte of the buffer held is a free value (log 32). -/
def State.writeBits (s : State) (p : Nat) (d : Dirty) : Nat × State :=
  (bitBytes d.cache).foldl (fun (a : Nat × State) b =>
    let addr := (if d.active = 0 then d.bm0 else d.bm1) + b.1
    let (v, t) := a.2.fresh
    let old := v.toNat % 256
    (a.1 + bitCount (old ||| b.2) - bitCount old, (t.dmaAsk p addr 1).hostWrite p addr (leBytes 1 (old ||| b.2)))) (0, s)

/-- DIRTY_LOG_HARVEST and DIRTY_LOG_STOP up to their difference: a VF that does not log, and a bitmap write that fails and
ends logging (07 R214, R217). -/
def State.onDirty (s : State) (src : Src) (g : Nat) (k : Dirty → State) : State :=
  s.onVf src g (s.reply src 0x404 0 []) (match (s.fn g).dirty with
    | none => s.reply src 0x40D 0 []
    | some d =>
      if s.bitmapOk (s.portOf g) && !d.failed then k d
      else (s.modFn g (fun f => { f with dirty := none })).reply src 0x406 0 [])

/-- DIRTY_LOG_HARVEST (07 R216). -/
def execDirtyLogHarvest (src : Src) (s : State) : Res :=
  .next (s.serve src 0x00A1 [(0, 2)] (fun s r =>
    let g := s.vfArg src r
    s.onDirty src g (fun d =>
      let (n, s) := s.writeBits (s.portOf g) d
      let s := s.modFn g (fun f => { f with dirty := some { d with cache := [], active := 1 - d.active } })
      s.reply src 0 0 (leBytes 1 d.active ++ zeros 3 ++ leBytes 8 n))))

/-- DIRTY_LOG_STOP (07 R216). -/
def execDirtyLogStop (src : Src) (s : State) : Res :=
  .next (s.serve src 0x00A2 [(0, 2)] (fun s r =>
    let g := s.vfArg src r
    s.onDirty src g (fun d =>
      ((s.writeBits (s.portOf g) d).2.modFn g (fun f => { f with dirty := none })).reply src 0 0 [])))

/-! ### FUNCTION_ABORT (08 R228; 02 R45) -/

/-- FUNCTION_ABORT: starts an abort, merges with a running one, or waits for the end of an FLR (02 R45; 07 R197, R213). -/
def execFunctionAbort (src : Src) (s : State) : Res :=
  .next (s.serve src 0x00B0 [(0, 2)] (fun s r =>
    let g := s.vfArg src r
    if !s.ownVf src g then s.reply src 0x404 0 []
    else match (s.fn g).vf with
      | .absent => s.reply src 0x40D 0 []
      | v =>
        if (s.fn g).flr then s.setWait src (.flrEnd g)
        else if v = .bare then s.reply src 0 0 (leBytes 4 0)
        else if (s.fn g).abBusy then (s.modFn g (fun f => { f with abOrigin := 2 })).setWait src (.fnAbort g)
        else (s.setWait src (.fnAbort g)).startFnAbort g 1))

end Sys2Proof.Machine
end

