-- ==== Sys2Proof/Machine/Codeword.lean ====
section
/-! DEFINITION. Codewords on media: data bytes, metadata field, parity (11 R318, R319; 09 R242, R247, R250). -/

namespace Sys2Proof.Machine

/-- The fields of a codeword's metadata (11 R318). -/
structure CwHead where
  lba : Nat := 0
  nsid : Nat := 0
  btag : Nat := 0
  epoch : Nat := 0
  kslot : Nat := 0
  kgen : Nat := 0
  kind : Nat
  deriving DecidableEq, Repr

/-- Metadata bytes 0–59: VER is 0x01 (11 R318). -/
def CwHead.bytes (h : CwHead) : List Byte :=
  leBytes 8 h.lba ++ leBytes 4 h.nsid ++ leBytes 8 h.btag ++ leBytes 8 h.epoch ++ leBytes 2 (h.kslot % 4096) ++ leBytes 4 h.kgen
    ++ leBytes 1 h.kind ++ leBytes 1 1 ++ zeros 24

/-- Data and metadata of a codeword, with MCRC: 4,160 bytes (11 R318). -/
def cwBody (h : CwHead) (data : List Byte) : List Byte :=
  data ++ h.bytes ++ leBytes 4 (crc32c (data ++ h.bytes)).toNat

/-- A codeword: data, metadata, and the LDPC parity, whose matrix is not published (11 R318). -/
def cwBytes (body : List Byte) : List Byte := body ++ (List.range 448).map (Config.ldpcParity body)

/-- KIND of the block codewords of a ream, by the ream's kind (11 R318). -/
def kindOf (reamKind : Nat) : Nat := if reamKind = 4 then 4 else if reamKind = 5 then 3 else 0

/-- Epoch of the ream that holds a place (09 R243). -/
def State.epochAt (s : State) (l : MediaLoc) : Nat := ((tfind s.media.reams l.ream).map Ream.epoch).getD 0

/-- Body of a block's codeword at a place; a block that failed its last rung is carried as an unreadable marker
(09 R250). -/
def State.blkBody (s : State) (nsid lba : Nat) (v : BlkVer) (l : MediaLoc) : List Byte :=
  let h : CwHead := { lba := lba, nsid := nsid, btag := v.tag, epoch := s.epochAt l, kslot := v.data.slot, kgen := v.data.gen
                      kind := if v.lost then 5 else kindOf ((tfind s.media.reams l.ream).map Ream.kind |>.getD 0) }
  cwBody h (if v.lost then zeros 4096 else v.data.cipher)

/-- The block whose codeword belongs at a place: one staged for it, natively or in the flush area, else one that stands there, or
that stands in the flush area and has it as its native place (09 R239, R244, R261). -/
def State.blkHere (s : State) (l : MediaLoc) : Option (Nat × BlkVer) :=
  match s.media.blks.find? (fun p => match p.2.staged with | some g => decide (g.loc = l ∨ g.flush = some l) | none => false) with
  | some (k, b) => b.staged.map (fun g => (k, g.ver))
  | none => match s.media.blks.find? (fun p => (match p.2.media with | some m => decide (m.2 = l) | none => false) || decide (p.2.native = some l)) with
    | some (k, b) => b.media.map (fun m => (k, m.1))
    | none => none

/-- The same, with the source's blocks at the places of a relocation target (09 R255). -/
def State.blkAt (s : State) (l : MediaLoc) : Option (Nat × BlkVer) :=
  s.blkHere (match s.relocSrc l.ream with | some src => { l with ream := src } | none => l)

/-- Body of a pad codeword: zero bytes; in a zone it has the LBA and NSID of the block it stands for (09 R247; 11 R318). -/
def State.padBody (s : State) (l : MediaLoc) : List Byte :=
  match tfind s.media.reams l.ream with
  | some r =>
    let d := if l.pos < parityPos l.quire then l.pos else l.pos - 1
    let lba := if r.kind = 1 then r.zslba + (l.quire * 31 + d) * 64 + l.cw else 0
    cwBody { lba := lba, nsid := if r.kind = 1 then r.nsid else 0, epoch := r.epoch, kind := 1 } (zeros 4096)
  | none => cwBody { kind := 1 } (zeros 4096)

/-- Body of a data codeword of a ream. -/
def State.dataBody (s : State) (l : MediaLoc) : List Byte :=
  match s.blkAt l with
  | some (k, v) => s.blkBody (k / 2 ^ 40) (k % 2 ^ 40) v l
  | none => s.padBody l

/-- Bytewise XOR. -/
def xorBytes (a b : List Byte) : List Byte := List.zipWith (· ^^^ ·) a b

/-- A place of a ream. -/
def State.placeIn (s : State) (id q p cw : Nat) : MediaLoc :=
  { ream := id, quire := q, pos := p, cw := cw, flushArea := decide ((tfind s.media.reams id).map Ream.kind = some 4) }

/-- The accumulator of a quire at a codeword slot after n data sheets: their XOR, data and metadata (05 R143; 09 R247). -/
def State.accumulated (s : State) (id q cw n : Nat) : List Byte :=
  (List.range n).foldl (fun a d => xorBytes a (s.dataBody (s.placeIn id q (dataPos q d) cw))) (zeros 4160)

/-- Body of the codeword at a place: at the parity position the XOR of the 31 data codewords of its slot (11 R319). -/
def State.bodyAt (s : State) (l : MediaLoc) : List Byte :=
  if l.pos = parityPos l.quire then s.accumulated l.ream l.quire l.cw 31 else s.dataBody l

/-- The 64 codewords of a sheet as they are sent to its die: 294,912 bytes (09 R239; 10 R288). -/
def State.sheetBytes (s : State) (id q p : Nat) : List Byte :=
  (List.range 64).flatMap (fun c => cwBytes (s.bodyAt (s.placeIn id q p c)))

/-- Body of a header-page record: KIND 6, the rest of its data area 0 (09 R242; 11 R318). -/
def recordBody (rec : List Byte) : List Byte := cwBody { kind := 6 } (padTo 4096 rec)

end Sys2Proof.Machine
end

