-- ==== Sys2Proof/Machine/CalOps.lean ====
section
/-! DEFINITION. The calender's shared operations: inputs, latency estimates, set-point generator, compensator, test
signals, capture, actuators, thermal limit, restart (12 R348–R369). -/

namespace Sys2Proof.Machine

/-! ### Actuators (12 R353–R357) -/

/-- Set an actuator. -/
def State.setAct (s : State) (a : Nat) (u : Int) : State := { s with cal := { s.cal with acts := tset s.cal.acts a u } }

/-- Throttle level of a deckle, forced to 7 by THERMAL (12 R365). -/
def State.throttle (s : State) (d : Nat) : Nat := if s.glb.thermal then 7 else (s.act (2 + 256 * d) / 65536).toNat

/-- Token limit of a link (12 R354). -/
def State.tokenLimit (s : State) (k : Nat) : Nat :=
  max 1 ((s.act 1 / 65536).toNat * (8 - s.throttle (k / 32)) / 8)

/-- Relocation's share of a link's tokens (12 R354). -/
def State.relocTokens (s : State) (k : Nat) : Nat :=
  let p := (s.act 3).toNat
  (s.tokenLimit k * p + 6553599) / 6553600

/-- Suspend level of a class (12 R355). -/
def State.slevel (s : State) (c : Nat) : Nat := min 7 (s.pressure c / 65536).toNat

/-- Excess a suspension needs, in µs; none at level 0 (12 R355). -/
def excessNeeded (lvl : Nat) : Option Nat :=
  match lvl with
  | 0 => none | 1 => some 5000 | 2 => some 2500 | 3 => some 1200 | 4 => some 600 | 5 => some 300 | 6 => some 150
  | _ => some 0

/-- Units of a reconstruct token. -/
def tokenUnit : Nat := 8 * 65536 * 1000

/-- Credit a class's reconstruct bucket for a time at a pressure (12 R355). -/
def State.creditBucket (s : State) (c us : Nat) (p : Int) : State :=
  let v := tget s.cal.buckets c 0 + s.pvA pRbMax * p.toNat * us
  { s with cal := { s.cal with buckets := tset s.cal.buckets c (min v (s.pvA pRbMax * tokenUnit)) } }

/-- Whole tokens in a class's bucket. -/
def State.bucketTokens (s : State) (c : Nat) : Nat := tget s.cal.buckets c 0 / tokenUnit

/-! ### Slots (12 R357–R360) -/

/-- The class a slot is bound to (12 R359). -/
def State.slotCls (s : State) (n : Nat) : Option Nat := if n < 8 then none else slotClass s.calTbl n

/-- Target of a slot, after the limit of slot 0 (12 R359, R360). -/
def State.slotTarget (s : State) (n : Nat) : Int :=
  match s.slotCls n with
  | some c => sat32 (s.clsTarget c * 65536)
  | none =>
    let t := pvalS s.par.live (pLoop n 3)
    if n = 0 then
      let cap := if s.pstate = 1 then min (s.pv pCapW) (s.pv pPs1W) else s.pv pCapW
      min t (cap * 65536)
    else t

/-- An FLR of a function bound to a class runs (12 R365, 07 R212). -/
def State.clsFlr (s : State) (c : Nat) : Bool := s.fns.any (fun p => p.2.flr && decide (s.tclass p.1 = c))

/-- The settings of a slot that a sample boundary now would apply (12 R349, R359, R360). -/
def State.loopCfg (s : State) (n : Nat) : LoopCfg :=
  let cls := s.slotCls n
  let own := fun (i : Nat) => pvalS s.par.live (pLoop n i)
  { cls := cls, on := cls.isSome || decide (s.pv (pLoop n 1) = 1)
    input := match cls with | some c => 8 + 256 * c | none => s.pv (pLoop n 4)
    act := (slotActuator s.calTbl n).1, dir := s.pv (pLoop n 6), emax := own 7, ymin := own 8, ymax := own 9
    window := s.pv (pLoop n 0xA), period := s.pv (pLoop n 2)
    mode := s.pv (pLoop n 0x13), vmax := own 0x10, amax := own 0x11, jmax := own 0x12
    b := [0x20, 0x21, 0x22, 0x23].map own, a := [0x24, 0x25, 0x26].map own
    tgt := s.slotTarget n
    clsTgt := (cls.map s.clsTarget).getD 0
    pct := pval s.calTbl (pCls (((match cls with | some c => c | none => s.pv (pLoop n 4) / 256)) % 64) 3) }

/-- A slot with given settings is held (12 R365). -/
def State.heldAs (s : State) (c : LoopCfg) (left : Nat) : Bool :=
  (match c.cls with | some c => s.clsFlr c | none => false) ||
  (c.cls.isSome && (decide (s.mode.hold ≠ 0) || decide (left ≠ 0))) ||
  (s.glb.thermal && decide (c.act % 256 = 2)) || s.cal.halted

/-- A slot is held (12 R365). -/
def State.slotHeld (s : State) (n : Nat) : Bool := s.heldAs (s.loop n).cfg (s.loop n).holdLeft

/-! ### Inputs (12 R350–R352) -/

/-- Deliver a measurement (12 R350). -/
def State.inputSet (s : State) (code : Nat) (v : Int) : State :=
  { s with cal := { s.cal with
      inputs := tset s.cal.inputs code (sat32 v, s.now), inStale := s.cal.inStale.filter (· ≠ code) } }

/-- A measurement arrives with the STALE flag: the last good value stands (12 R351). -/
def State.inputStale (s : State) (code : Nat) : State :=
  { s with cal := { s.cal with inStale := addOnce s.cal.inStale code } }

/-- A percentage in Q16.16. -/
def pctQ (part whole : Nat) : Int := if whole = 0 then 0 else (part * 6553600 / whole : Nat)

/-- The deckles of an instance: a placement group, or 0xFF for the device. -/
def State.instDeckles (s : State) (i : Nat) : List Nat := [0, 1, 2].filter (fun d => i == 0xFF || s.inGroup i d)

/-- Source 0x06: free reams as a percentage of the reams (12 R350). -/
def State.freeReamsIn (s : State) (i : Nat) : Int :=
  let ds := s.instDeckles i
  pctQ (ds.foldl (fun a d => a + s.freeReams d) 0) (ds.foldl (fun a d => a + (s.dk d).capacity) 0)

/-- Source 0x07: valid data of the reams scheduled for refresh, a wear move or collection, in GiB: 65,536 units are 262,144
blocks (12 R350). -/
def State.backlogIn (s : State) (i : Nat) : Int :=
  let due := s.media.reams.filter (fun p => (i == 0xFF || decide (p.2.grp = i)) &&
    (s.media.refresh.contains p.1 || s.media.relocs.any (fun (m : Reloc) => m.src == p.1) ||
     s.media.grps.any (fun g => g.2.victim == some p.1)))
  (due.foldl (fun a p => a + s.validIn p.1) 0 / 4 : Nat)

/-- Source 0x0A: bytes staged in the last 1 ms, in GB/s (12 R350). -/
def State.hostRateIn (s : State) : Int := (s.media.hostBytes * 65536 / 1000000 : Nat)

/-- Source 0x0B: staged bytes over the native program rate of the last 10 ms, in ms, at most 30,000 (12 R350). -/
def State.drainIn (s : State) (prog : List Nat) : Int :=
  let staged := (s.dk 0).staged + (s.dk 1).staged + (s.dk 2).staged
  let sum := prog.foldl (· + ·) 0
  if staged = 0 then 0 else if sum = 0 then 30000 * 65536 else (min (30000 * 65536) (staged * 10 * 65536 / sum) : Nat)

/-- Lower bound of histogram bin i in µs, Q16.16 truncated (12 R352). -/
def binLow (i : Nat) : Nat :=
  if i = 0 then 0
  else
    let r := isqrtAux 64 (2 ^ (i - 1) * 2 ^ 64) 0
    isqrtAux 40 r 0

/-- The class histogram of an input code: 64 cumulative counts. -/
def State.histNow (s : State) (code : Nat) : List Nat :=
  (List.range 64).map (fun b => tget s.hist (histKey (code / 256) (code % 256 - 8) b) 0)

/-- Counts within the window (12 R352). -/
def windowCounts (now : List Nat) (snaps : List (List Nat)) (window : Nat) : List Nat :=
  match snaps.take window with
  | [] => now
  | l => (List.range 64).map (fun b => now.getD b 0 - (l.getLastD []).getD b 0)

/-- The percentile's bin and interpolation, Q16.16 µs, over counts: `num`/`den` is the percentile (12 R352). Answers
none where the window is empty or the bin has no upper end. -/
def percentile (num den total : Nat) : List Nat → Nat → Nat → Option Nat
  | [], _, _ => none
  | c :: r, i, before =>
    if c ≠ 0 ∧ num * total ≤ den * (before + c) then
      (if 63 ≤ i then none
       else some (binLow i + (binLow (i + 1) - binLow i) * (num * total - den * before) / (den * c)))
    else percentile num den total r (i + 1) (before + c)

/-- Sources 0x03 and 0x04 with every hub of the deckle left out (12 R351). -/
def State.allLeft (s : State) (code : Nat) : Bool :=
  (code % 256 == 3 || code % 256 == 4) && (List.range 32).all (fun i => (s.link (32 * (code / 256) + i)).tempLeft)

/-- The value that a source holds now and when it was refreshed; none where it was never delivered since the last restart.
Free reams and the backlog are refreshed at each ream formation, erase or release too (12 R350). -/
def State.inputNow (s : State) (code : Nat) : Option (Int × Nat) :=
  let got := tfind s.cal.inputs code
  let at_ := max s.media.reamAt ((got.map Prod.snd).getD 0)
  if code % 256 = 6 then some (s.freeReamsIn (code / 256), at_)
  else if code % 256 = 7 then some (s.backlogIn (code / 256), at_)
  else got

/-- What a sample latches under the settings in force: value, stale, sparse (12 R349 step 1, R351, R352). Where the spec states
no value (an estimate in the top bin, or an input never delivered since the last restart) it is free (log 11). -/
def State.latch (s : State) (n : Nat) : (Int × Bool × Bool) × State :=
  let l := s.loop n
  let c := l.cfg
  let code := c.input
  if code % 256 = 0 then ((0, false, false), s)
  else if code % 256 = 8 ∨ code % 256 = 9 then
    let w := windowCounts (s.histNow code) (if l.inp = code then l.snaps else [s.histNow code]) c.window
    let total := w.foldl (· + ·) 0
    let den := 100 * 10 ^ c.pct
    let sparse := decide (total < 10 * den)
    match percentile (den - 1) den total w 0 0 with
    | some v => ((sat32 v, false, sparse), s)
    | none => let (v, s) := s.fresh; ((sx32 v.toNat, false, sparse), s)
  else match s.inputNow code with
    | none => let (v, s) := s.fresh; ((sx32 v.toNat, true, false), s)
    | some (v, t) =>
      ((v, s.allLeft code || s.cal.inStale.contains code || decide (80 * c.period < s.now - t), false), s)

/-! ### Set-point generator (12 R361) -/

/-- Sign of a number. -/
def sgn (x : Int) : Int := if x < 0 then -1 else if x = 0 then 0 else 1

/-- Absolute value. -/
def absI (x : Int) : Int := x.natAbs

/-- Square root of a Q16.16 number, truncated (12 R361). -/
def qsqrt (v : Int) : Int := isqrt (v.toNat * 65536)

/-- Sticky bits of CAL_STAT (12 R369). -/
def fSatIn : Nat := 4
def fSatAcc : Nat := 8
def fSatOut : Nat := 16
def fSpLim : Nat := 32
def fOver : Nat := 64
def fRev : Nat := 128
def fStale : Nat := 256
def fSparse : Nat := 512

/-- A bit where a condition holds. -/
def flagIf (c : Bool) (f : Nat) : Nat := if c then f else 0

/-- Limits and mode of a generator. -/
structure GenP where
  mode : Nat
  vmax : Int
  amax : Int
  jmax : Int

/-- Speed wanted by the generator, and whether `vmax` limits it (12 R361). The radicand is a Q16.16 value, truncated
(DEDUCED, log 30). -/
def genSpeed (p : GenP) (d : Int) : Int × Bool :=
  let brk := if p.mode = 1 then p.amax else p.amax / 2
  let vfree := qsqrt ((brk * brk / 4 + 2 * brk * absI d) / 65536) - brk / 2
  (sgn d * min p.vmax vfree, decide (p.vmax < vfree))

/-- One sample of the generator: sp, v, a and the flags it raises (12 R361). -/
def gen (p : GenP) (tgt sp v a : Int) : Int × Int × Int × Nat :=
  let d := sat32 (tgt - sp)
  if p.mode = 0 then (tgt, 0, 0, 0)
  else if d = 0 ∧ v = 0 then (sp, v, 0, 0)
  else
    let (vd, lim) := genSpeed p d
    let (v1, a1, lim2) :=
      if p.mode = 1 then
        let dv := clampI (vd - v) (-p.amax) p.amax
        (sat32 (v + dv), a, decide (dv ≠ vd - v))
      else
        let ad := clampI (vd - v) (-p.amax) p.amax
        let ad := sgn ad * min (absI ad) (qsqrt (2 * p.jmax * absI (vd - v) / 65536))
        let da := clampI (ad - a) (-p.jmax) p.jmax
        let a1 := sat32 (a + da)
        (clampI (v + a1) (-p.vmax) p.vmax, a1, decide (da ≠ ad - a))
    let sp1 := sat32 (sp + v1)
    let fl := flagIf (lim || lim2) fSpLim
    if sgn (tgt - sp1) ≠ sgn d then
      (if absI v1 ≤ p.amax then (tgt, 0, 0, fl) else (sp1, v1, a1, fl + fOver))
    else (sp1, v1, a1, fl)

/-! ### Compensator (12 R362, R363) -/

/-- The accumulator over a list of products; answers whether it saturated (12 R363). -/
def accSum (ps : List Int) : Int × Bool :=
  ps.foldl (fun a p => let t := a.1 + p; (sat64 t, a.2 || decide (sat64 t ≠ t))) (0, false)

/-- Products of the compensator in order: b0·e, b[i]·eh[i], −a[i]·yh[i] (12 R363). -/
def compTerms (b a eh yh : List Int) (e : Int) : List Int :=
  (b.getD 0 0 * e) :: ([1, 2, 3].map (fun i => b.getD i 0 * eh.getD (i - 1) 0)
    ++ [0, 1, 2].map (fun i => -(a.getD i 0 * yh.getD i 0)))

/-- yr of 12 R363: the accumulator rounded to Q16.16 by an arithmetic shift. -/
def compOut (acc : Int) : Int := (acc + 2 ^ 29) / 2 ^ 30

/-! ### Test signals (12 R367) -/

/-- Taps of a PRBS: register length and the second tap. -/
def prbsTaps (signal : Nat) : Nat × Nat := if signal = 2 then (9, 5) else if signal = 3 then (15, 14) else (23, 18)

/-- The next register value: shift left, the feedback enters at bit 0 (DESIGN CHOICE, log 31). -/
def prbsNext (signal reg : Nat) : Nat :=
  let (n, t) := prbsTaps signal
  let fb := b2n (bitN reg (n - 1) != bitN reg (t - 1))
  (reg * 2 + fb) % 2 ^ n

/-- Terms of the sine's series at a Q0.160 angle: `x2` its square, `term` the present term, `k` its number. -/
def sineSum (x2 : Nat) : Nat → Nat → Nat → Int → Int
  | 0, _, _, acc => acc
  | n + 1, k, term, acc =>
    let next := term * x2 / 2 ^ 160 / ((2 * k + 2) * (2 * k + 3))
    sineSum x2 n (k + 1) next (if k % 2 = 0 then acc - next else acc + next)

/-- π ÷ 2 in Q0.160, truncated. -/
def halfPi : Nat := 2295721403524109460692402599871655564227077512209

/-- sin of r ÷ 2^30 of a quarter turn, in Q0.160, with an error far below the last place of any injected value. -/
def quarterSine (r : Nat) : Int :=
  if r = 2 ^ 30 then 2 ^ 160
  else
    let x := r * halfPi / 2 ^ 30
    sineSum (x * x / 2 ^ 160) 30 0 x x

/-- sin(2πφ) of a phase in Q0.32, in Q0.160; exact at the quarters. -/
def sineQ (ph : Nat) : Int :=
  let r := ph % 2 ^ 30
  match ph / 2 ^ 30 % 4 with
  | 0 => quarterSine r
  | 1 => quarterSine (2 ^ 30 - r)
  | 2 => -quarterSine r
  | _ => -quarterSine (2 ^ 30 - r)

/-- AMPLITUDE times the sine of a phase, as Q16.16. The spec states no rounding: the value is one of the two neighbours
(12 R367; log 31). -/
def sineValue (amp : Int) (ph : Nat) : Int :=
  let v := amp * sineQ ph
  v / 2 ^ 160 + (if v % 2 ^ 160 = 0 then 0 else if Config.sineUp (BitVec.ofNat 32 ph) amp then 1 else 0)

/-- A signal as it begins (12 R367). -/
def injStart (i : Inject) : Inject :=
  if inR 2 4 i.signal then
    let n := (prbsTaps i.signal).1
    let seed := i.p2 % 2 ^ n
    { i with n := 0, reg := if seed = 0 then 2 ^ n - 1 else seed }
  else { i with n := 0, reg := if i.signal = 5 then i.p2 else 0 }

/-- Unit waveform of a step or PRBS at the present sample, Q16.16 (12 R367). -/
def injUnit (i : Inject) : Int :=
  match i.signal with
  | 1 => if i.p1 ≤ i.n ∧ (i.p2 = 0 ∨ i.n < i.p1 + i.p2) then 65536 else 0
  | 2 | 3 | 4 => if bitN i.reg ((prbsTaps i.signal).1 - 1) then 65536 else -65536
  | _ => 0

/-- The injected value (12 R367). -/
def injValue (i : Inject) : Int :=
  if i.signal = 5 ∨ i.signal = 6 then sat32 (sineValue i.amp i.reg) else sat32 (i.amp * injUnit i / 65536)

/-- The signal after a sample; a step that ran its duration has ended (12 R367). The spec states neither the phase at which a
chirp begins nor how its increment is rounded: it begins at 0, sample k of a sweep has P1 + (P2 − P1) × k ÷ 16,384, truncated
toward 0, and P2 begins no sample (DESIGN CHOICE, log 31). -/
def injAdvance (i : Inject) : Option Inject :=
  let n := i.n + 1
  match i.signal with
  | 1 => if i.p2 ≠ 0 ∧ i.p1 + i.p2 ≤ n then none else some { i with n := n }
  | 2 | 3 | 4 => some { i with n := n, reg := if n % i.p1 = 0 then prbsNext i.signal i.reg else i.reg }
  | 5 => some { i with n := n, reg := (i.reg + i.p1) % 2 ^ 32 }
  | _ =>
    let inc := ((i.p1 : Int) + ((i.p2 : Int) - i.p1) * (i.n % 16384 : Nat) / 16384).toNat
    some { i with n := n, reg := (i.reg + inc) % 2 ^ 32 }

/-! ### Capture (12 R368) -/

/-- A signal of a slot by its selector code. -/
def Loop.signal (l : Loop) (k : Nat) : Int :=
  match k with
  | 0 => l.x | 1 => l.sp | 2 => l.e | 3 => l.y | 4 => sat32 l.yr | 5 => l.injVal | 6 => l.u | _ => l.v

/-- Samples a capture holds. -/
def capFull : Nat := 16384

/-- Record a sample of channel 0's slot; `raised` says that the sample set a sticky flag (12 R368). -/
def State.capture (s : State) (n : Nat) (raised : Bool) : State :=
  let c := s.cal.cap
  if !c.armed || c.done || decide (c.sel.getD 0 0 % 32 ≠ n) then s
  else
    let row := c.sel.map (fun b => (s.loop (b % 32)).signal (b / 32 % 8))
    let trig := c.trig || decide (c.mode = 0) || (decide (c.mode = 1) && decide ((s.loop n).injVal ≠ 0))
      || (decide (c.mode = 2) && raised)
    let buf := if trig then c.buf ++ [row] else (c.buf ++ [row]).drop (c.buf.length + 1 - c.pre)
    { s with cal := { s.cal with cap := { c with
        trig := trig, buf := buf, done := decide (capFull ≤ buf.length) } } }

/-! ### The sample (12 R349, R363–R365) -/

/-- Step 2: the changes pending at the boundary, where settings `c` come into force (12 R349, R361, R364). -/
def State.boundary (s : State) (c : LoopCfg) (l : Loop) : Loop :=
  let moved := decide (c.ymin ≠ l.cfg.ymin ∨ c.ymax ≠ l.cfg.ymax)
  let l := { l with flags := l.flags &&& (0x3FF - (l.clr &&& 0x3FC)), clr := 0 }
  let l := match l.injPend with
    | none => l
    | some i => { l with injPend := none, inj := if i.signal = 0 then none else some (injStart i) }
  let rev := decide (c.tgt ≠ l.tgt) && decide (l.v ≠ 0) && decide (sgn (c.tgt - l.sp) ≠ sgn l.v)
  let l := { l with cfg := c, tgt := c.tgt, flags := l.flags ||| flagIf rev fRev
                    yh := if moved then l.yh.map (fun y => clampI y c.ymin c.ymax) else l.yh }
  if c.on && !l.enabled then
    let cur := s.act c.act
    { l with enabled := true, yh := [cur, cur, cur], eh := [0, 0, 0], sp := c.tgt, v := 0, a := 0 }
  else { l with enabled := c.on }

/-- The injected value at one point. -/
def injAt (l : Loop) (point : Nat) : Int :=
  match l.inj with | some i => if i.point = point then injValue i else 0 | none => 0

/-- Steps 3 to 6 of an enabled slot (12 R361, R363): the slot after them. -/
def Loop.run (l : Loop) (sparse : Bool) : Loop :=
  let c := l.cfg
  let (sp, v, a, gf) := gen { mode := c.mode, vmax := c.vmax, amax := c.amax, jmax := c.jmax } l.tgt l.sp l.v l.a
  let r := sat32 (sp + injAt l 0)
  let raw := if c.dir = 0 then r - l.x else l.x - r
  let e1 := sat32 raw
  let e2 := sat32 (e1 + injAt l 1)
  let e3 := clampI e2 (-c.emax) c.emax
  let e := if sparse || (c.cls.isSome && decide (c.clsTgt = 0)) then 0 else e3
  let (acc, satA) := accSum (compTerms c.b c.a l.eh l.yh e)
  let yr := compOut acc
  let y := clampI yr c.ymin c.ymax
  let w := sat32 (y + injAt l 2)
  let u := clampI w c.ymin c.ymax
  { l with
    sp := sp, v := v, a := a, e := e, yr := yr, y := y, u := u
    eh := e :: l.eh.take 2, yh := y :: l.yh.take 2
    injVal := (match l.inj with | some i => injValue i | none => 0)
    inj := l.inj.bind injAdvance
    flags := l.flags ||| gf ||| flagIf (decide (e1 ≠ raw) || decide (e3 ≠ e2)) fSatIn ||| flagIf satA fSatAcc
      ||| flagIf (decide (y ≠ yr) || decide (u ≠ w)) fSatOut }

/-- A disabled slot: the actuator holds its value, also after an injection has ended; output injection applies to the value
held when it began (12 R355, R363, R364, R368; DEDUCED, log 31). -/
def State.openLoop (s : State) (l : Loop) (was : Bool) : Loop :=
  let held := s.act l.cfg.act
  match l.inj with
  | none => { l with u := held, injVal := 0 }
  | some i =>
    let y := if was then l.y else held
    let w := y + injValue i
    let u := clampI w l.cfg.ymin l.cfg.ymax
    { l with
      y := y, u := if i.point = 2 then u else held, injVal := injValue i, inj := injAdvance i
      flags := l.flags ||| flagIf (decide (i.point = 2) && decide (u ≠ w)) fSatOut }

/-- The slot after a sample that latched x, with settings `c` in force from its boundary on (12 R349 steps 2–7). -/
def State.sampleLoop (s : State) (n : Nat) (c : LoopCfg) (held stale sparse : Bool) (x : Int) : Loop :=
  let l0 := s.loop n
  let was := decide (l0.injVal ≠ 0) || l0.inj.isSome
  let l := s.boundary c { l0 with
    x := x, flags := l0.flags ||| flagIf stale fStale ||| flagIf sparse fSparse
    holdLeft := if s.mode.hold = 0 then l0.holdLeft - 1 else l0.holdLeft }
  if held then l else if l.enabled then l.run sparse else s.openLoop l was

/-- Late and skipped samples (12 R348): how many samples of the slot were late since its last one, this one included, and how
many of those were dropped. -/
def lateCount (l : Loop) (late : Nat × Nat) : Loop :=
  { l with late := satAdd l.late late.1, skip := satAdd l.skip (min late.1 late.2) }

/-- The engine runs (12 R366): not in PS3, PS4 or PS5. -/
def State.calRuns (s : State) : Bool := decide (s.pwr.cur.toNat < 3)

/-- A sample of slot n (12 R349), which also credits the bucket of the class that the slot drives, at the pressure then in
force (12 R355); LOOP_TARGET and LOOP_TUNE reply after it, and wait as slot n and n + 32 (06 R188). -/
def State.loopSampleOp (s : State) (n : Nat) (late : Nat × Nat) : State :=
  if !s.calRuns || decide (32 ≤ n) then s
  else
    let code := (s.loop n).cfg.input
    let ((x, stale, sparse), s) := s.latch n
    let s := s.clsBoundary n
    let c := s.loopCfg n
    let held := s.heldAs c (s.loop n).holdLeft
    let old := s.loop n
    let l := s.sampleLoop n c held stale sparse x
    let lat := decide (code % 256 = 8 ∨ code % 256 = 9)
    let l := { lateCount l late with
      inp := code, snaps := if lat then ((s.histNow code) :: (if old.inp = code then old.snaps else [])).take 64 else [] }
    let raised := decide (l.flags &&& (0x3FF - (old.flags &&& (0x3FF - (old.clr &&& 0x3FC)))) ≠ 0)
    let s := s.modLoop n (fun _ => l)
    let s := if held || decide (c.act % 256 = 0) || (!l.enabled && decide (l.u = s.act c.act)) then s else s.setAct c.act l.u
    let s := match c.cls with
      | some k => s.creditBucket k c.period (s.pressure k)
      | none => if l.enabled && decide (c.act % 256 = 5) && s.tenantSlot (c.act / 256) == some n
          then s.creditBucket (c.act / 256) c.period (s.pressure (c.act / 256)) else s
    let s := s.capture n raised
    (s.replyWaiters (.loopBoundary n) 0 0 (leBytes 4 (word32 l.sp).toNat)).replyWaiters (.loopBoundary (n + 32)) 0 0 []

/-! ### Thermal limit and restart (12 R365, R366) -/

/-- A temperature input at its last value, in °C Q16.16. One not delivered since the last restart counts as 0 °C, so it neither
sets THERMAL nor keeps it set (12 R365 states nothing for it: DESIGN CHOICE, log 79). -/
def State.tempIn (s : State) (code : Nat) : Int := ((tfind s.cal.inputs code).map Prod.fst).getD 0

/-- Set or clear GLB_LIMITED.THERMAL, with its record and mode event (12 R365; 15 R426). -/
def State.thermalCheck (s : State) : State :=
  let hard : Int := s.pvA pTempHard * 65536
  let codes := [0x003, 0x103, 0x203, 0x004, 0x104, 0x204]
  let hot := codes.any (fun c => decide (hard ≤ s.tempIn c)) || decide (108 * 65536 ≤ s.tempIn 5)
  let cool := codes.all (fun c => decide (s.tempIn c ≤ hard - 5 * 65536)) && decide (s.tempIn 5 ≤ 103 * 65536)
  if !s.glb.thermal && hot then
    (s.watching (fun s => { s with glb := { s.glb with thermal := true } })).ledEvent 0x7001 (leBytes 1 1)
  else if s.glb.thermal && cool then
    (s.watching (fun s => { s with glb := { s.glb with thermal := false } })).ledEvent 0x7001 (leBytes 1 0)
  else s

/-- A slot as it restarts: its sticky bits are cleared, its counters and its test signal stand (12 R366, R369; 16 R459). -/
def State.loopStart (s : State) (n : Nat) : Loop :=
  let ys := pvalS s.par.live (pLoop n 0xB)
  let c := s.loopCfg n
  let l := s.loop n
  { cfg := c, enabled := c.on, sp := c.tgt, tgt := c.tgt, yh := [ys, ys, ys], inp := c.input
    late := l.late, skip := l.skip, inj := l.inj, injPend := l.injPend, injVal := l.injVal
    snaps := if c.input % 256 = 8 ∨ c.input % 256 = 9 then [s.histNow c.input] else [] }

/-- Power-on, PERST# and the exits from PS3–PS5: the actuators and every slot restart (12 R356, R366). -/
def State.calRestart (s : State) : State :=
  let s := { s with cal := { s.cal with
    acts := [], inputs := [], inStale := [], kept := [], prog10 := [], halted := false, bootP := sx32 (s.pvA pFixedP) } }
  { s with cal := { s.cal with loops := (List.range 32).map (fun n => (n, s.loopStart n)) } }

/-- A controller reset ends injection and capture, the V-class settings of the engine (12 R366, R367, R369). -/
def State.calVReset (s : State) : State :=
  { s with cal := { s.cal with
      loops := tmap s.cal.loops (fun _ l => { l with inj := none, injPend := none, injVal := 0 }), cap := {} } }

end Sys2Proof.Machine
end

