-- ==== Sys2Proof/Machine/LinkWire.lean ====
section
/-! DEFINITION. The Jetar wire: flits, segments, credits, the replay buffer and link states (10 R273–R285). -/

namespace Sys2Proof.Machine

/-- Ordered sets and messages as the block's output names them: MTYPE for messages, symbol 0 for ordered sets, 0xC1 ALIGN, 0xC2
ALIGN_ACK (log 8). -/
def kindJts1 : Nat := 0x1E

/-- JTS2. -/
def kindJts2 : Nat := 0x2D

/-- EIOS. -/
def kindEios : Nat := 0x66

/-- SKP. -/
def kindSkp : Nat := 0xAA

/-! ### The scrambler and the flit stream (10 R273, R274, R278) -/

/-- The LFSR's value after a reseed (10 R273). -/
def lfsrSeed : BitVec 23 := 0x1DBFBC

/-- One bit time of the LFSR x^23 + x^21 + x^16 + x^8 + x^5 + x^2 + 1 (10 R273). The spec names the polynomial and the seed; the
Galois form with its output at bit 22 is the one of PCIe, whose polynomial and seed these are (PRESUMED, log 80). -/
def lfsrStep (x : BitVec 23) : BitVec 23 := (x <<< 1) ^^^ (if x.getLsbD 22 then 0x210125#23 else 0)

/-- The LFSR after n bit times. -/
def lfsrRun : Nat → BitVec 23 → BitVec 23
  | 0, x => x
  | n + 1, x => lfsrRun n (lfsrStep x)

/-- The byte that scrambles the next data byte, its bit 0 first (PRESUMED, log 80). -/
def lfsrByte : Nat → BitVec 23 → Byte
  | 0, _ => 0
  | n + 1, x => (lfsrByte n (lfsrStep x) <<< 1) ||| (if x.getLsbD 22 then 1 else 0)

/-- Data bytes as they leave the scrambler (10 R273). -/
def scramble : BitVec 23 → List Byte → List Byte
  | _, [] => []
  | x, b :: r => (b ^^^ lfsrByte 8 x) :: scramble (lfsrRun 8 x) r

/-- A flit goes out: 8 data blocks, before which an SKP goes where it would be the 33rd flit since the last SKP or JTS2
(10 R274). -/
def State.emitFlit (s : State) (k : Nat) (b : List Byte) : State :=
  let l := s.link k
  let due := decide (256 ≤ l.blocks)
  let s := if due then s.emit (.link k kindSkp []) else s
  let x := if due then lfsrSeed else l.lfsr
  (s.modLink k (fun l => { l with blocks := (if due then 0 else l.blocks) + 8, lfsr := lfsrRun 1024 x })).emit (.flit k b x)

/-- A flit header: FTYPE 0 MSG, 1 IDLE, 2 CTRL; RETX (10 R278). -/
def flitHeader (seq ack : BitVec 10) (nak : Bool) (typ : Nat) (retx : Bool) : List Byte :=
  leBytes 4 (fields [(0, seq.toNat), (10, ack.toNat), (20, b2n nak), (21, typ), (23, b2n retx)])

/-- A flit of a header and a payload, which is padded to 116 bytes, with its CRC-64 (10 R278, R279). -/
def flitBytes (head payload : List Byte) : List Byte :=
  let b := head ++ padTo 116 payload
  b ++ leBytes 8 (crc64 b).toNat

/-- A segment (10 R280). -/
def segment (vc : Nat) (som eom cr : Bool) (data : List Byte) : List Byte :=
  leBytes 2 (fields [(0, data.length), (7, vc), (9, b2n som), (10, b2n eom), (11, b2n cr)]) ++ data

/-- A flit of the replay buffer goes out (10 R278). -/
def State.sendSeq (s : State) (k : Nat) (retx : Bool) (f : TxFlit) : State :=
  let l := s.link k
  s.emitFlit k (flitBytes (flitHeader f.seq (l.rxExp - 1) l.nakPend 0 retx) f.payload)

/-- Credit record of this side's limits (10 R284). -/
def recordOf (own : List Nat) : List Byte :=
  (List.range 6).flatMap (fun i => leBytes (if i < 4 then 2 else 4) (own.getD i 0))

/-- Credits of one message: header on its VC, data units on VC1 and VC2 (10 R284). -/
def unitsOf (dataBytes : Nat) : Nat := (dataBytes + 63) / 64

/-- Available credit of a counter. -/
def creditLeft (l : Link) (i : Nat) : Nat :=
  let m := if i < 4 then 2 ^ 16 else 2 ^ 32
  (l.limits.getD i 0 + m - l.used.getD i 0 % m) % m

/-- The message has its credits (10 R284). -/
def creditFor (l : Link) (m : TxMsg) : Bool :=
  decide (1 ≤ creditLeft l m.vc) && (if m.vc = 1 then decide (m.units ≤ creditLeft l 4)
    else if m.vc = 2 then decide (m.units ≤ creditLeft l 5) else true)

/-- Take n credits of a counter. -/
def creditTake (u : List Nat) (i n : Nat) : List Nat := u.set i ((u.getD i 0 + n) % (if i < 4 then 2 ^ 16 else 2 ^ 32))

/-- Take a message's credits. -/
def creditUse (l : Link) (m : TxMsg) : Link :=
  let u := creditTake l.used m.vc 1
  { l with used := if m.vc = 1 then creditTake u 4 m.units else if m.vc = 2 then creditTake u 5 m.units else u }

/-- Give credits back to the peer: this side's cumulative limits rise (10 R284). -/
def creditFree (l : Link) (vc units : Nat) : Link :=
  let o := creditTake l.own vc 1
  { l with own := if vc = 2 then creditTake o 5 units else o }

/-- Header bytes of a message by its type and fields (10 R286, R287, R292, R296, R299, R302, R303). -/
def msgHead (typ : Nat) (f : List Nat) : List Byte :=
  let v := fun n i => leBytes n (f.getD i 0)
  match typ with
  | 0x01 => leBytes 1 typ ++ v 1 0 ++ v 2 1 ++ v 1 2 ++ v 1 3 ++ v 2 4 ++ v 2 5 ++ v 1 6 ++ v 1 7 ++ v 1 8 ++ zeros 3
      ++ (if f.getD 0 0 = 9 then [] else v 4 9 ++ v 4 10 ++ v 4 11 ++ zeros 4)
  | 0x03 => leBytes 1 typ ++ zeros 1 ++ v 2 0 ++ v 4 1 ++ v 4 2 ++ zeros 4
  | 0x12 => leBytes 1 typ ++ v 1 0 ++ v 2 1 ++ v 4 2 ++ v 8 3
  | 0x15 => leBytes 1 typ ++ v 1 0 ++ v 1 1 ++ v 1 2 ++ zeros 4 ++ (if f.getD 2 0 = 0 then [] else v 2 3 ++ zeros 2 ++ v 4 4)
  | 0x16 => leBytes 1 typ ++ v 1 0 ++ v 2 1 ++ v 4 2 ++ v 4 3 ++ zeros 4
  | _ => leBytes 1 typ ++ v 1 0 ++ v 1 1 ++ zeros 13

/-- The bytes of a message. -/
def TxMsg.bytes (m : TxMsg) : List Byte := msgHead m.typ m.fields ++ m.data

/-- Flits that a message takes: one segment of at most 114 bytes each (10 R280; log 39). -/
def flitsOf (len : Nat) : Nat := (len + 113) / 114

/-- The next flits of a message, whose bytes from `all` on have not been sent (10 R280). -/
def newFlits (vc : Nat) (som : Bool) : Nat → BitVec 10 → List Byte → List TxFlit
  | 0, _, _ => []
  | n + 1, q, all =>
    { seq := q, payload := segment vc som (decide (all.length ≤ 114)) false (all.take 114) }
      :: newFlits vc false n (q + 1) (all.drop 114)

/-- The message that may send next: the first of its VC, under way or with its credits; a PROGRAM's DIE_CMD stays behind its
DATA_WRs, `data` the tags whose DATA_WR are still queued (10 R292). -/
def nextTx (l : Link) : List TxMsg → List Nat → List Nat → Option (List TxMsg × TxMsg × List TxMsg)
  | [], _, _ => none
  | m :: r, seen, data =>
    if !seen.contains m.vc && (m.begun || creditFor l m) && !(m.typ == 1 && data.contains m.tag) then some ([], m, r)
    else match nextTx l r (addOnce seen m.vc) (if m.typ = 3 then addOnce data m.tag else data) with
      | some (a, x, b) => some (m :: a, x, b)
      | none => none

/-- Flits flow on the link (10 R275). -/
def Link.flows (l : Link) : Bool := (decide (l.st = 4) || decide (l.st = 5)) && !l.idle

/-- Send what credits and the replay buffer allow (10 R282, R284); a message goes out when its last flit is sent. -/
def State.txPump (k : Nat) : Nat → State → State
  | 0, s => s
  | n + 1, s =>
    let l := s.link k
    if !l.flows || decide (256 ≤ l.replay.length) then s
    else match nextTx l l.txq [] [] with
      | none => s
      | some (a, m, b) =>
        let l := if m.begun then l else creditUse l m
        let c := min (flitsOf m.len) (256 - l.replay.length)
        let fl := newFlits m.vc (!m.begun) c l.txSeq (m.bytes.drop (m.bytes.length - m.len))
        let left := m.len - 114 * c
        let l := { l with replay := l.replay ++ fl, txSeq := l.txSeq + BitVec.ofNat 10 c }
        let send := fun (q : List TxMsg) => fl.foldl (fun s f => s.sendSeq k false f) (s.modLink k (fun _ => { l with txq := q }))
        if left = 0 then State.txPump k n ((send (a ++ b)).emit (.link k m.typ m.fields))
        else send (a ++ { m with begun := true, len := left } :: b)

/-- Run the sender. -/
def State.txRun (s : State) (k : Nat) : State := s.txPump k ((s.link k).txq.length + 1)

/-- Queue a message for the hub and send what may go. -/
def State.sendMsg (s : State) (k : Nat) (m : TxMsg) : State :=
  (s.modLink k (fun l => { l with txq := l.txq ++ [m] })).txRun k

/-- Send a message of VC3 (10 R283). -/
def State.sendMgmt (s : State) (k typ len : Nat) (fields : List Nat) (data : List Byte := []) : State :=
  s.sendMsg k { vc := 3, typ := typ, tag := 0, len := len, fields := fields, data := data }

/-- The IDLE flit with which this side reports ACK, NAK-pending and its credit limits (10 R278, R281, R284). -/
def State.sendAck (s : State) (k : Nat) : State :=
  let l := s.link k
  s.emitFlit k (flitBytes (flitHeader l.txSeq (l.rxExp - 1) l.nakPend 1 false) (segment 0 true true true (recordOf l.own)))

/-! ### Retrains and losses that start here (10 R275, R282) -/

/-- TRAIN begins: both sides send JTS1. -/
def Link.train (l : Link) : Link :=
  { l with st := 2, jts1 := 0, jts2 := 0, jts2Sent := 0, eqReqs := 0, ownReqs := 0, gotAlign := false, sentAck := false, lastNak := none }

/-- A retrain (10 R275): it is counted, and stays counted against the link until an ACK makes progress. -/
def State.retrain (s : State) (k : Nat) : State :=
  (s.modLink k (fun l => { l.train with
    retrains := satInc l.retrains, stalled := l.stalled.filter (fun t => decide (s.now - t ≤ 10000000)) ++ [s.now] })).emit
    (.link k kindJts1 [0, (s.link k).preset, 0xFF, 0])

/-- Three retrains within 1 s and no ACK progress (10 R282). -/
def Link.stuck (l : Link) : Bool := decide (3 ≤ l.stalled.length)

/-- Send every held entry again, in order, with RETX (10 R277, R282). -/
def State.resend (s : State) (k : Nat) : State :=
  let l := s.link k
  l.replay.foldl (fun s f => s.sendSeq k true f) (s.modLink k (fun l => { l with
    replay := l.replay.map (fun f => { f with retx := f.retx + 1 }), replays := satInc l.replays }))

/-- Retransmit what is held; an entry already retransmitted 4 times starts a retrain (10 R282). Answers whether a retrain is
due. -/
def State.retransmit (s : State) (k : Nat) : State × Bool :=
  let l := s.link k
  if l.replay.isEmpty then (s, false)
  else if l.replay.any (fun f => decide (4 ≤ f.retx)) then (s, true)
  else (s.resend k, false)

/-! ### Receiving flits (10 R278–R284) -/

/-- The fields of a flit header. -/
structure FlitHead where
  seq : BitVec 10
  ack : BitVec 10
  nak : Bool
  typ : Nat
  rest : Nat
  deriving DecidableEq, Repr

/-- A flit's header. -/
def flitHead (b : List Byte) : FlitHead :=
  let h := fieldLe b 0 4
  { seq := BitVec.ofNat 10 h, ack := BitVec.ofNat 10 (h / 2 ^ 10), nak := bitN h 20, typ := h / 2 ^ 21 % 4, rest := h / 2 ^ 24 }

/-- The CRC, FTYPE and reserved bits are good (10 R279). -/
def flitSound (b : List Byte) : Bool :=
  let h := flitHead b
  decide (b.length = 128) && decide (crc64 (b.take 120) = BitVec.ofNat 64 (fieldLe b 120 8)) && decide (h.typ ≠ 3) && decide (h.rest = 0)

/-- What the segments of a flit hold. -/
structure Segs where
  asm : Tbl (List Byte)
  done : List (Nat × List Byte) := []
  credits : List (List Byte) := []
  deriving DecidableEq, Repr

/-- One segment: header and data. None where it breaks a rule of 10 R280. Mode 0 delivers data, 1 is an IDLE flit, 2 a MSG
flit out of order, of which only credit records count. -/
def segStep (mode : Nat) (g : Segs) (h : Nat) (data : List Byte) : Option Segs :=
  let vc := h / 2 ^ 7 % 4
  let som := bitN h 9
  let eom := bitN h 10
  if bitN h 11 then (if som && eom && decide (data.length = 16) then some { g with credits := g.credits ++ [data] } else none)
  else if mode = 1 then none
  else if mode = 2 then some g
  else
    let cur := tfind g.asm vc
    if som == cur.isSome then none
    else
      let all := cur.getD [] ++ data
      if eom then some { g with asm := tdel g.asm vc, done := g.done ++ [(vc, all)] }
      else some { g with asm := tset g.asm vc all }

/-- The segments of a payload (10 R280); `n` bounds their number. -/
def segsOf (mode : Nat) : Nat → List Byte → Segs → Option Segs
  | 0, _, g => some g
  | n + 1, l, g =>
    if l.length < 2 then (if l.all (· = 0#8) then some g else none)
    else
      let h := fieldLe l 0 2
      let len := h % 2 ^ 7
      if 2 ^ 12 ≤ h then none
      else if len = 0 then (if l.all (· = 0#8) then some g else none)
      else if 114 < len ∨ l.length < 2 + len then none
      else match segStep mode g h (sliceB l 2 len) with
        | none => none
        | some g => segsOf mode n (l.drop (2 + len)) g

/-- The limits of a credit record (10 R284). -/
def creditRecord (b : List Byte) : List Nat :=
  [fieldLe b 0 2, fieldLe b 2 2, fieldLe b 4 2, fieldLe b 6 2, fieldLe b 8 4, fieldLe b 12 4]

/-- A message may come from the hub on this VC with this length: of PARK, UNPARK, HUB_CFG and HUB_FW only the replies, and only an
identity reply has 72 bytes whatever its COUNT (10 R283, R286). -/
def hubMsgOk (vc : Nat) (m : List Byte) : Bool :=
  let t := byteAt m 0
  let n := m.length
  match vc with
  | 0 => t == 0x02 && n == 16
  | 2 => t == 0x04 && decide (20 ≤ n) && decide (n ≤ 4624) && decide (n % 4 = 0) && decide (fieldLe m 8 4 = n - 16)
  | 3 =>
    let reply := bitN (byteAt m 1) 0
    ((t == 0x10 || t == 0x12) && n == 16) || (t == 0x11 && n == 32) || ((t == 0x13 || t == 0x14 || t == 0x16) && reply && n == 16) ||
      (t == 0x15 && reply && (if byteAt m 2 = 0 then n == 72 else decide (n = 8 + 8 * byteAt m 3) && decide (byteAt m 3 ≤ 64)))
  | _ => false

/-- Take in a delivered message, or discard it with its credits returned (10 R283). -/
def Link.deliver (l : Link) (m : Nat × List Byte) : Link :=
  if hubMsgOk m.1 m.2 then { l with rx := l.rx ++ [m] }
  else { creditFree l m.1 (unitsOf (m.2.length - 16)) with discard := satInc l.discard }

/-- How far a sequence number lies ahead, modulo 1,024. -/
def seqAhead (a b : BitVec 10) : Nat := (a - b).toNat

/-- Free the entries that an ACK covers; progress ends the counts against the link (10 R282). -/
def Link.acked (l : Link) (a : BitVec 10) : Link :=
  match l.replay with
  | [] => l
  | f :: _ =>
    let n := seqAhead (a + 1) f.seq
    if n = 0 ∨ l.replay.length < n then l
    else { l with replay := (l.replay.drop n).map (fun f => { f with retx := 0 }), stalled := [], lastNak := none }

/-- A NAK with ACK a retransmits what follows a, once (10 R282). Answers whether a retrain is due. -/
def State.nakd (s : State) (k : Nat) (a : BitVec 10) : State × Bool :=
  if (s.link k).lastNak = some a.toNat then (s, false)
  else (s.modLink k (fun l => { l with lastNak := some a.toNat })).retransmit k

/-- ACK, NAK and credit records of a good flit; a MSG flit that is discarded brings no records (10 R281). -/
def State.flitControl (s : State) (k : Nat) (h : FlitHead) (recs : List (List Byte)) : State × Bool :=
  let s := s.modLink k (fun l => { l.acked h.ack with limits := match recs.getLast? with
    | some r => creditRecord r
    | none => l.limits })
  let (s, due) := if h.nak then s.nakd k h.ack else (s, false)
  (s.txRun k, due)

/-- A bad flit (10 R279, R281). -/
def State.badFlit (s : State) (k : Nat) : State :=
  (s.modLink k (fun l => { l with badflit := satInc l.badflit, nakPend := true })).sendAck k

/-- A flit arrives (10 R281). Answers whether a retrain is due. -/
def State.flitIn (s : State) (k : Nat) (b : List Byte) : State × Bool :=
  let l := s.link k
  if !l.flows then (s, false)
  else if !flitSound b then (s.badFlit k, false)
  else
    let h := flitHead b
    if h.typ = 2 then (s, false)
    else
      let ahead := seqAhead h.seq l.rxExp
      let inOrder := decide (h.typ = 0 ∧ ahead = 0)
      match segsOf (if inOrder then 0 else if h.typ = 1 then 1 else 2) 116 (sliceB b 4 116) { asm := if inOrder then l.asm else [] } with
      | none => (s.badFlit k, false)
      | some g =>
        let late := decide (0 < ahead ∧ ahead < 512)
        let s := if inOrder then
            s.modLink k (fun l => g.done.foldl Link.deliver { l with asm := g.asm, rxExp := l.rxExp + 1, nakPend := false })
          else if late then s.modLink k (fun l => { l with nakPend := true }) else s
        let (s, due) := s.flitControl k h (if inOrder || decide (h.typ = 1) then g.credits else [])
        (if inOrder || late then s.sendAck k else s, due)

/-- The first message delivered on a VC. -/
def State.rxFirst (s : State) (k vc : Nat) : Option (List Byte) := ((s.link k).rx.find? (fun m => m.1 == vc)).map Prod.snd

/-- A record of changed limits goes out where flits flow (10 R284). -/
def State.reportCredit (s : State) (k : Nat) : State := if (s.link k).flows then s.sendAck k else s

/-- Remove the first message of a VC, return its credits and report them (10 R284). -/
def State.rxTake (s : State) (k vc : Nat) : State :=
  match s.rxFirst k vc with
  | none => s
  | some m => (s.modLink k (fun l =>
      creditFree { l with rx := l.rx.eraseIdx (l.rx.findIdx (fun x => x.1 == vc)) } vc (unitsOf (m.length - 16)))).reportCredit k

end Sys2Proof.Machine
end

