-- ==== Sys2Proof/Machine/LinkOps.lean ====
section
/-! DEFINITION. The hub conversation: die operations and tags, completions, lost hubs, bring-up, FAULT (10 R286–R311). -/

namespace Sys2Proof.Machine

/-! ### Dies, tags, tokens (10 R287–R295) -/

/-- A die as the controller sees it. -/
def State.die (s : State) (k d : Nat) : Die := tget (s.link k).dies d {}

/-- Change a die. -/
def State.modDie (s : State) (k d : Nat) (f : Die → Die) : State :=
  s.modLink k (fun l => { l with dies := tset l.dies d (f (tget l.dies d {})) })

/-- An operation that occupies the die (10 R288). -/
def opArray (o : Nat) : Bool := inR 1 4 o

/-- A read operation. -/
def opIsRead (o : Nat) : Bool := o == 1 || o == 2

/-- A token returns (01 R18). -/
def Link.tokenBack (l : Link) (op : LinkOp) : Link :=
  if op.token then { l with tokens := l.tokens - 1, relocTokens := if op.reloc then l.relocTokens - 1 else l.relocTokens }
  else l

/-- The fields of a DIE_CMD (10 R287). -/
def dieCmdFields (tag : Nat) (op : LinkOp) : List Nat :=
  [op.opc, tag, op.die, op.mode, op.block, op.page, op.cwmask, if op.opc = 9 then 0 else op.lset, op.sstep, op.len, op.arg, op.value]

/-- The data that a program moves: a sheet's codewords, or one header record's (09 R239, R242; 10 R288). -/
def State.opData (s : State) (op : LinkOp) : List Byte :=
  match op.owner with
  | .sheet id q p => s.sheetBytes id q p
  | .copy b q => match s.reamOf b with
    | some (id, _, p) => s.sheetBytes id q p
    | none => zeros op.len
  | _ => zeros op.len

/-- The DATA_WR messages of a program, in ascending offset (10 R292). -/
def dataWrs (tag len : Nat) (data : List Byte) : List TxMsg :=
  (List.range (len / 4608)).map (fun i =>
    { vc := 1, typ := 3, tag := tag, len := 4624, units := unitsOf 4608, fields := [tag, 4608 * i, 4608], data := sliceB data (4608 * i) 4608 })

/-- What follows the first 16 bytes of a SET_LEVELS: the set and its fifteen offsets (10 R288; log 59). -/
def levelBytes (op : LinkOp) : List Byte :=
  if op.opc = 9 then leBytes 1 op.lset ++ (List.range 15).map (Config.levelOffset op.lset) else []

/-- Send an operation to its die: tag slot, generation, data, command (10 R292, R294). -/
def State.opSend (s : State) (k : Nat) (op : LinkOp) : State :=
  let l := s.link k
  let slot := tfree l.tags 1024 0
  let gen := tget l.gens slot 0 + 1
  let tag := slot + 1024 * gen.toNat
  let cmd : TxMsg := { vc := 0, typ := 1, tag := tag, len := 32, fields := dieCmdFields tag op, data := levelBytes op }
  let s := s.modLink k (fun l => { l with
    tags := tset l.tags slot ({ gen := gen, op := op } : Tag), gens := tset l.gens slot gen
    txq := l.txq ++ (if op.opc = 3 then dataWrs tag op.len (s.opData op) else []) ++ [cmd] })
  let s := if opIsRead op.opc then { s with media := { s.media with mediaReads := s.lastHour s.media.mediaReads ++ [s.now] } } else s
  let susp := inR 4 5 (s.die k op.die).st
  let s := if opArray op.opc && !(opIsRead op.opc && susp) then
      s.modDie k op.die (fun d => { d with
        op := some slot, st := if opIsRead op.opc then 1 else if op.opc = 3 then 2 else 3,
        nsus := 0, remainUs := l.typUs.getD (if opIsRead op.opc then 2 else op.opc - 3) 0, remainAt := s.now
        progressUs := 0, restarted := false })
    else s
  s.txRun k

/-- Tags outstanding are below 1,024 (10 R294). -/
def Link.tagRoom (l : Link) : Bool := decide (l.tags.length < 1024)

/-- Put operations ahead of a channel's queue: STATUS in its read queue, any other in its write queue, which it leaves with an
admission token (10 R295). The spec gives no place in the queue: ahead of what waits, they can reach the operation that runs
(DESIGN CHOICE, log 40). -/
def State.opsFirst (s : State) (k d : Nat) (ops : List LinkOp) : State :=
  s.modLink k (fun l =>
    let q := 2 * (d / 16 % 8)
    let put := fun (qs : Tbl (List LinkOp)) (q : Nat) (os : List LinkOp) => if os.isEmpty then qs else tset qs q (os ++ tget qs q [])
    { l with queues := put (put l.queues q (ops.filter (fun o => o.opc == 7))) (q + 1) (ops.filter (fun o => o.opc != 7)) })

/-- One operation ahead of its queue. -/
def State.opDirect (s : State) (k : Nat) (op : LinkOp) : State := s.opsFirst k op.die [op]

/-- STATUS of a die. -/
def State.askStatus (s : State) (k d : Nat) : State := s.opDirect k { opc := 7, die := d }

/-- A read of the die is outstanding. -/
def Link.dieReads (l : Link) (d : Nat) : Bool := l.tags.any (fun t => decide (t.2.op.die = d) && opIsRead t.2.op.opc)

/-- A read that asked for the suspension of the die's operation waits in its queue (01 R24). -/
def State.readWaits (s : State) (k d : Nat) : Bool :=
  (tget (s.link k).queues (2 * (d / 16)) []).any (fun o => decide (o.die = d) && (match o.owner with
    | .unit i idx => ((s.slot i).bind (fun x => tfind x.units idx)).any IoUnit.susp
    | _ => false))

/-- Operations that a suspended operation kept from their die go back to their queue (10 R307 BUSY_SUSP). -/
def State.busyBack (s : State) (k d : Nat) (first : List LinkOp) : State :=
  let ops := (s.die k d).busyOps
  if (first ++ ops).isEmpty then s
  else (s.modDie k d (fun x => { x with busyOps := [] })).opsFirst k d (first ++ ops)

/-- Resume a suspended operation that no read needs, and reissue what it kept from the die (01 R24; 10 R307). -/
def State.resumeIf (s : State) (k d : Nat) : State :=
  if inR 4 5 (s.die k d).st && !(s.link k).dieReads d && !s.readWaits k d then s.busyBack k d [{ opc := 6, die := d }] else s

/-- On the way into a dormant state no die operation starts once everything staged and journalled is on media (10 R313; 16 R439
steps 3 and 4). -/
def State.opsStop (s : State) : Bool :=
  (decide (s.pwr.phase = 1) || decide (s.pwr.phase = 2)) &&
    (decide (4 ≤ s.pwr.entryStep) || (decide (s.pwr.entryStep = 3) && s.stagingEmpty && s.journalsDone))

/-- The die can take the operation now; only reads and STATUS go without a token (10 R295, R306, R308). -/
def State.opReady (s : State) (k : Nat) (op : LinkOp) : Bool :=
  let l := s.link k
  let d := s.die k op.die
  l.tagRoom && decide (l.st = 4) && (!l.lost || op.opc == 7 || (op.opc == 9 && !op.retried)) && !d.retired && !s.opsStop &&
  (if opIsRead op.opc then !d.unknown && !(l.dieReads op.die) && (d.op.isNone || inR 4 5 d.st)
   else if opArray op.opc then !d.unknown && d.op.isNone && !(l.dieReads op.die) && op.token
   else op.opc == 7 || op.token)

/-- Some program or erase that is no relocation's waits on the link (12 R354). -/
def Link.mainWaits (l : Link) : Bool :=
  l.queues.any (fun q => q.2.any (fun o => (o.opc == 3 || o.opc == 4) && !o.reloc && !o.token))

/-- The operation programs a collection run of a group whose collection is urgent (09 R258). -/
def State.gcUrgent (s : State) (op : LinkOp) : Bool :=
  match op.owner with
  | .sheet id _ _ => (match tfind s.media.reams id with | some r => r.gc && (s.grp r.grp).urgent | none => false)
  | _ => false

/-! ### Recovery of operations (10 R308; 09 R248, R249) -/

/-- The place of a read unit's block on media. -/
def State.unitLoc (s : State) (i idx : Nat) : Option MediaLoc :=
  match s.slot i with
  | none => none
  | some x => match tfind x.units idx with
    | none => none
    | some u => (s.blk u.nsid u.lba).media.map Prod.snd

/-- Rung of a read unit. -/
def State.unitRung (s : State) (i idx : Nat) : Nat :=
  match s.slot i with
  | none => 0
  | some x => ((tfind x.units idx).map IoUnit.rung).getD 0

/-- Key of the block that a read unit reads. -/
def State.unitBlk (s : State) (i idx : Nat) : Nat :=
  match (s.slot i).bind (fun x => tfind x.units idx) with
  | some u => bkey u.nsid u.lba
  | none => 0

/-- A block fails at rung 5: 0x200, and its zone or run is to be refreshed (09 R249, R250). -/
def State.unitFail (s : State) (i idx : Nat) : State :=
  let s := match s.unitLoc i idx with | some l => (s.refreshAt l).failedAt (s.unitBlk i idx) l | none => s
  match (s.slot i).bind (fun x => tfind x.units idx) with
  | none => s
  | some u => s.postUnit (s.unitLink u) i idx { u with rung := 5, recon := false } 0x200

/-- A reconstruct fails: around a busy die or an idle link the read returns to its target and waits for it; at rung 4, or
where the target is gone, the block fails (01 R25; 09 R248). -/
def State.reconFail (s : State) (i idx : Nat) : State :=
  match s.unitLoc i idx with
  | none => s.unitFail i idx
  | some l =>
    if s.unitRung i idx < 4 && !(s.placeDead l) then
      match s.readOp l 1 (s.firstSet l) (.unit i idx) with
      | some (k, op) => (s.linkQueue k { op with waits := true } true).modUnit i idx (fun u => { u with
          st := .media, lset := op.lset, slices := [], recon := false })
      | none => s.unitFail i idx
    else s.unitFail i idx

/-- A read that its link or die cannot serve now: by reconstruct without a token where possible, else it waits in its
queue; on a link in FAULT or a retired die it fails (09 R248; 10 R308, R311). -/
def State.readElse (s : State) (k : Nat) (op : LinkOp) (dead : Bool) : State :=
  match op.owner with
  | .unit i idx =>
    match s.unitLoc i idx with
    | none => s
    | some l =>
      if s.linkUp k && !dead && !(s.die k op.die).unknown then s.linkQueue k { op with waits := false } true
      else if s.reconOk l then s.startRecon i idx l (s.unitRung i idx)
      else if dead then s.unitFail i idx
      else s.linkQueue k { op with waits := false } true
  | .slice i idx _ =>
    if dead then s.reconFail i idx else s.linkQueue k op true
  | _ => if dead then s else s.linkQueue k op true

/-- The block of an operation. -/
def opBlk (k : Nat) (op : LinkOp) : Nat := blockKey k op.die op.block

/-- A block needs a replacement (09 R252): 0 failed program, 1 suspect, 2 failed erase. -/
def State.blkBad (s : State) (b cause : Nat) : State := { s with media := { s.media with bad := tset s.media.bad b cause } }

/-- What was placed in a flush sheet, or in all that a flush-area ream has not verified, is to be placed again (04 R120; 09 R253). -/
def State.flushAgain (s : State) (f : MediaLoc → Bool) : State :=
  { s with media := { s.media with blks := tmap s.media.blks (fun _ b => match b.staged with
    | some g => if g.flush.any f then { b with staged := some { g with flush := none } } else b
    | none => b) } }

/-- A program that failed or is suspect (09 R252): its block needs a replacement; a flush-area program is retried on another flush
sheet (04 R120). -/
def State.progBad (s : State) (k : Nat) (op : LinkOp) (cause : Nat) : State :=
  let s := match op.owner with
    | .sheet id q p => s.flushAgain (fun l => decide (l.ream = id ∧ l.quire = q ∧ l.pos = p))
    | _ => s
  s.blkBad (opBlk k op) cause

/-- Recover an operation whose hub is lost (10 R308). -/
def State.recover (s : State) (k : Nat) (op : LinkOp) : State :=
  let o := { op with token := false }
  if opIsRead op.opc then s.readElse k o (decide ((s.link k).st = 6))
  else if op.opc = 3 then s.progBad k op 1
  else if op.opc = 4 then s.linkQueue k o false
  else if op.opc = 5 ∨ op.opc = 6 then s.askStatus k op.die
  else s.opDirect k { o with retried := o.retried || o.opc == 9 }

/-- An operation of a die that is retired (10 R306). -/
def State.opDead (s : State) (k : Nat) (op : LinkOp) : State :=
  if opIsRead op.opc then s.readElse k op true
  else if op.opc = 3 then s.progBad k op 0
  else if op.opc = 4 then (s.modBlk (opBlk k op) (fun b => { b with st := .retired })).blkBad (opBlk k op) 2
  else s

/-- The operations that a die lost or could not take, which its record gives up. -/
def State.dieHeld (s : State) (k d : Nat) : State × List LinkOp :=
  let x := s.die k d
  if (x.lostOps ++ x.busyOps).isEmpty then (s, [])
  else (s.modDie k d (fun x => { x with lostOps := [], busyOps := [] }), x.lostOps ++ x.busyOps)

/-- The die's state is known again: the operations whose completion was inconsistent are recovered as for a lost hub (10 R306;
DEDUCED, log 83). -/
def State.dieKnown (s : State) (k d : Nat) : State :=
  let r := s.dieHeld k d
  r.2.foldl (fun s o => s.recover k o) r.1

/-- Retire a die: its queued operations and the blocks of reams on it are handled as failed (10 R306; 09 R252). -/
def State.retireDie (s : State) (k d : Nat) : State :=
  if (s.die k d).retired then s
  else
    let gone := (s.link k).queues.flatMap (fun q => q.2.filter (fun o => o.die == d))
    let s := s.modLink k (fun l => { l with queues := tmap l.queues (fun _ q => q.filter (fun o => o.die != d)) })
    let r := s.dieHeld k d
    let s := r.1.modDie k d (fun x => { x with retired := true, op := none, unknown := false, st := 6 })
    let s := (r.2 ++ gone).foldl (fun s o => s.opDead k o) s
    let bs := s.media.reams.flatMap (fun r => (r.2.entries.filterMap (fun e => e)).filter (fun b => decide (b / 2 ^ 13 = k * 2 ^ 7 + d)))
    (bs.foldl (fun s b => s.blkBad b 0) s).sparesCheck k

/-- RESET_DIE; a die that needs a third within 1 s is retired (10 R306). -/
def State.resetDie (s : State) (k d : Nat) : State :=
  let at_ := (s.die k d).resetAt.filter (fun t => decide (s.now - t ≤ 10000000)) ++ [s.now]
  let s := s.modDie k d (fun x => { x with resetAt := at_, unknown := true })
  if 3 ≤ at_.length then s.retireDie k d else s.opDirect k { opc := 8, die := d }

/-- The die is unknown: STATUS is sent, and nothing new; the reads that wait for it are served by reconstruct without a token
where that is possible (10 R306, R307). -/
def State.dieLost (s : State) (k d : Nat) : State :=
  let mine := fun (o : LinkOp) => decide (o.die = d) && opIsRead o.opc
  let rs := (s.link k).queues.flatMap (fun q => q.2.filter mine)
  let s := s.modLink k (fun l => { l with queues := tmap l.queues (fun _ q => q.filter (fun o => !mine o)) })
  let s := (s.modDie k d (fun x => { x with unknown := true })).askStatus k d
  rs.foldl (fun s o => s.readElse k o false) s

/-- A tag ends with a completion that says nothing of its operation, which its die's record keeps (10 R294, R306). -/
def State.tagLost (s : State) (k slot : Nat) (t : Tag) : State :=
  (s.modLink k (fun l => { l.tokenBack t.op with tags := tdel l.tags slot })).modDie k t.op.die (fun x => { x with
    op := if x.op = some slot then none else x.op, lostOps := x.lostOps ++ [{ t.op with token := false }] })

/-- An inconsistent completion (10 R306). -/
def State.inconsistent (s : State) (k d : Nat) : State :=
  (s.modLink k (fun l => { l with badstat := satInc l.badstat })).dieLost k d

/-! ### Lost hubs, resets, bring-up, FAULT (10 R302–R311) -/

/-- This side's initial credit limits (10 R285). -/
def ownStart : List Nat := [1024, 0, 256, 8, 0, 18432]

/-- Every outstanding tag completes as HUB_LOST, and each operation is recovered, those too that a die's record kept; of what was
queued to be sent, die commands and their data go (10 R308). -/
def State.hubLose (s : State) (k : Nat) : State :=
  let ts := (s.link k).tags
  let kept := (s.link k).dies.flatMap (fun d => d.2.lostOps ++ d.2.busyOps)
  let s := s.modLink k (fun l => { (ts.foldl (fun l t => l.tokenBack t.2.op) l) with
    lost := true, tags := [], asm := [], rx := [], reqOut := 0
    txq := l.txq.filter (fun m => m.begun || !(m.typ == 1 || m.typ == 3))
    dies := tmap l.dies (fun _ d => { d with op := none, st := if d.retired then 6 else 0, nsus := 0, unknown := false,
                                             restarted := false, lostOps := [], busyOps := [] }) })
  (ts.map (fun t => t.2.op) ++ kept).foldl (fun s o => s.recover k o) s

/-- What a link that leaves ACTIVE forgets of its wire; what it has to send and to replay stands, for ALIGN may go on with it
(10 R277). -/
def Link.unwire (l : Link) : Link :=
  { l with idle := true, jts1 := 0, jts2 := 0, jts2Sent := 0, eqReqs := 0, ownReqs := 0, preset := 7, gotAlign := false,
           sentAck := false, lastNak := none, stalled := [], nakPend := false, hbRow := 0, hbSeen := false, reqOut := 0, reqTries := 0 }

/-- Nothing of the conversation is kept: both sides will restart (10 R277, R285). -/
def Link.forget (l : Link) : Link := { l with txq := [], replay := [], own := ownStart }

/-- Reads of a link that is not ACTIVE are served by reconstruct where that is possible (09 R248). -/
def State.reroute (s : State) (k : Nat) : State :=
  let mine := fun (o : LinkOp) => opIsRead o.opc && (match o.owner with | .unit _ _ => true | _ => false)
  let rs := (s.link k).queues.flatMap (fun q => q.2.filter mine)
  if rs.isEmpty then s
  else
    let s := s.modLink k (fun l => { l with queues := tmap l.queues (fun _ q => q.filter (fun o => !mine o)) })
    rs.foldl (fun s o => s.readElse k o false) s

/-- Address of a hub on its sideband bus (10 R314). -/
def hubAddr (k : Nat) : Nat := 0x20 + k % 24

/-- The write that resets a hub over its sideband (10 R309, R314). -/
def State.sidebandReset (s : State) (k : Nat) : State := s.emit (.sideband (k / 24) (hubAddr k) 0x11 (some 0xA5) 1)

/-- Put the link in FAULT (10 R304, R311). -/
def State.linkFault (s : State) (k : Nat) : State :=
  let s := s.modLink k (fun l => { l.unwire.forget with st := 6, bring := 0, faultOver := false })
  let s := s.hubLose k
  let rs := (s.link k).queues.flatMap (fun q => q.2.filter (fun o => opIsRead o.opc))
  let s := s.modLink k (fun l => { l with queues := tmap l.queues (fun _ q => q.filter (fun o => !opIsRead o.opc)) })
  let s := rs.foldl (fun s o => s.readElse k o true) s
  (s.ledEvent 0x4002 (leBytes 1 k)).healthEvent

/-- Start a bring-up at DETECT (10 R275): retrains are counted anew, and features are tried again (10 R307, R316). -/
def State.startDetect (s : State) (k : Nat) : State :=
  (s.modLink k (fun l => { l.unwire with
    st := 1, bring := 1, idle := false, retrains := 0, dies := tmap l.dies (fun _ d => { d with absent := [] }) })).emit (.link k kindJts1 [0, 7, 0xFF, 0])

/-- A bring-up fails; the third in a row puts the link in FAULT (10 R275, R304). -/
def State.bringFailed (s : State) (k : Nat) : State :=
  let s := s.modLink k (fun l => { l with bringfail := satInc l.bringfail })
  if (s.link k).bringfail = 3 then s.linkFault k else s.startDetect k

/-- The controller resets a hub: R308, DOWN, and the sideband reset (10 R309). `bring` 8: the reset is being written. -/
def State.hubResetStart (s : State) (k : Nat) : State :=
  if (s.link k).st = 6 then s
  else
    let s := (s.modLink k (fun l => { l.unwire.forget with st := 0, bring := 8, ctlReset := true, hubresets := satInc l.hubresets })).hubLose k
    ((s.reroute k).ledEvent 0x4001 (leBytes 1 k ++ leBytes 1 1)).sidebandReset k

/-- A retrain, or a hub reset where retrains bring no progress (10 R282); the reads that wait turn to reconstruct (09 R248). -/
def State.retrainOr (s : State) (k : Nat) : State :=
  let s := (s.retrain k).reroute k
  if (s.link k).stuck then s.hubResetStart k else s

/-- Ask a hub for its identity (10 R302). -/
def State.identify (s : State) (k : Nat) : State :=
  (s.modLink k (fun l => { l with reqOut := 1, reqTries := 0 })).sendMgmt k 0x15 8 [0, 0, 0]

/-- HUB_CFG SET of TELEM_US (10 R302, R317). -/
def State.sendSet (s : State) (k : Nat) : State :=
  (s.modLink k (fun l => { l with reqOut := 2, reqTries := 0, bring := 4 })).sendMgmt k 0x15 16 [0, 2, 1, 1, s.pv (pid 7 0 2)]

/-- One HUB_FW chunk (10 R303). The spec does not say what TOTAL counts: it is the image's length in bytes (DESIGN CHOICE,
log 84). -/
def State.sendChunk (s : State) (k n : Nat) : State :=
  let img := Config.hubImageOf s.fst.running
  let data := sliceB img (1024 * n) 1024
  (s.modLink k (fun l => { l with reqOut := 3, reqTries := 0, fwNext := n, bring := 3 })).sendMgmt k 0x16 (16 + data.length)
    [2 * b2n (decide (img.length ≤ 1024 * (n + 1))), n, img.length, (crc32c data).toNat] data

/-- UNPARK (10 R299). -/
def State.sendUnpark (s : State) (k : Nat) : State :=
  (s.modLink k (fun l => { l with bring := 5 })).sendMgmt k 0x14 16 [0, 0]

/-- SET_LEVELS of the fifteen level sets, for every die; UNPARK follows when they are over (10 R308, R309). -/
def State.sendLevels (s : State) (k : Nat) : State :=
  (s.modLink k (fun l => { l with bring := 5 })).opsFirst k 0 ((List.range 15).map (fun i => { opc := 9, die := 0xFF, lset := i + 1 }))

/-- A SET_LEVELS that UNPARK waits for; one that a parked hub turned away does not count. -/
def LinkOp.isLevels (o : LinkOp) : Bool := o.opc == 9 && !o.retried

/-- UNPARK goes out once the level sets are restored (10 R308). -/
def State.levelsOver (s : State) (k : Nat) (op : LinkOp) : State :=
  let l := s.link k
  if op.opc = 9 ∧ l.bring = 5 ∧ l.lost = true ∧ l.tags.any (fun t => t.2.op.isLevels) = false ∧
      l.queues.any (fun q => q.2.any LinkOp.isLevels) = false then s.sendUnpark k else s

/-- Links on the way out of a dormant state: a silenced link passes through DETECT to ALIGN and then gets UNPARK, one that is
only parked gets UNPARK at once, one that was taken DOWN starts its bring-up (10 R313). -/
def State.linksWake (s : State) : State :=
  (s.links.map Prod.fst).foldl (fun s k =>
    let l := s.link k
    if l.st = 5 ∧ l.idle = true then
      (s.modLink k (fun l => { l with st := 1, bring := 7, idle := false, jts1 := 0 })).emit (.link k kindJts1 [0, 7, 0xFF, 0])
    else if l.parkAsked ≠ 0 then (s.modLink k (fun l => { l with parkAsked := 0 })).sendUnpark k
    else if l.st = 0 ∧ s.pf (pLinkEnable k) = 1 then s.startDetect k
    else s) s

/-- Send the outstanding request once more (10 R304). -/
def State.resendReq (s : State) (k : Nat) : State :=
  let l := s.link k
  let t := if l.reqOut = 1 then s.identify k else if l.reqOut = 2 then s.sendSet k else s.sendChunk k l.fwNext
  t.modLink k (fun l => { l with reqTries := 1 })

/-! ### Completions (10 R289, R306, R307) -/

/-- A CMPL. -/
structure Cmpl where
  opc : Nat
  tag : Nat
  die : Nat
  res : Nat
  dst : Nat
  nsus : Nat
  len : Nat
  arg : Nat
  deriving DecidableEq, Repr

/-- The fields of a CMPL. -/
def cmplOf (b : List Byte) : Cmpl :=
  { opc := byteAt b 1, tag := fieldLe b 2 2, die := byteAt b 4, res := byteAt b 5, dst := byteAt b 6, nsus := byteAt b 7,
    len := fieldLe b 8 4, arg := fieldLe b 12 4 }

/-- The outstanding tag that a tagged message names (10 R294). -/
def Link.tagOf (l : Link) (tag : Nat) : Option (Nat × Tag) :=
  if 4096 ≤ tag then none
  else match tfind l.tags (tag % 1024) with
    | some t => if t.gen.toNat = tag / 1024 then some (tag % 1024, t) else none
    | none => none

/-- A tag ends: its slot and token are free, and the die shows the state the hub reports. -/
def State.opEnd (s : State) (k slot : Nat) (t : Tag) (dst : Nat) : State :=
  let s := s.modLink k (fun l => { l.tokenBack t.op with tags := tdel l.tags slot })
  if 128 ≤ t.op.die then s
  else s.modDie k t.op.die (fun d => if d.op = some slot then { d with op := none, st := dst, nsus := 0 } else { d with st := dst })

/-- A codeword takes its place at the decoders (11 R323). -/
def State.decQueue (s : State) (j : DecJob) : State := { s with ldp := { s.ldp with jobs := s.ldp.jobs ++ [j] } }

/-- A codeword in its vat buffer: 4,096 data bytes, and metadata and parity in the side area (11 R340). -/
def State.cwLand (s : State) (i place : Nat) (data : List Byte) : State := s.bufFill i place (data.take 4096) ((data.drop 4096).take 512)

/-- The data of a read is complete: its codeword stands in its buffer and waits for a decoder (11 R323, R340). -/
def State.readArrived (s : State) (t : Tag) : State :=
  let soft := decide (t.op.opc = 2)
  match t.op.owner with
  | .unit i idx => match (s.slot i).bind (fun x => tfind x.units idx) with
    | none => s
    | some u => if u.st ≠ .media then s
      else ((s.modUnit i idx (fun u => { u with st := .decode })).cwLand i (64 * idx) t.data).decQueue { slot := i, idx := idx, soft := soft }
  | .slice i idx p => match (s.slot i).bind (fun x => tfind x.units idx) with
    | none => s
    | some u => if u.st ≠ .media ∨ u.recon = false then s
      else ((s.modUnit i idx (fun u => { u with slices := tmod u.slices p {} (fun c => { c with arrived := true }) })).cwLand i
        (sliceBuf idx p) t.data).decQueue { slot := i, idx := idx, slice := some p, soft := soft }
  | _ => s

/-- A read tag ends once it holds its CMPL and LEN bytes; a length that does not match is reissued once (10 R292, R306). -/
def State.readCheck (s : State) (k slot : Nat) : State :=
  match tfind (s.link k).tags slot with
  | none => s
  | some t => match t.cmplLen with
    | none => s
    | some n =>
      let d := t.op.die
      let st := (s.die k d).st
      let dst := if st = 1 then 0 else st
      if n ≠ t.op.len ∨ n < t.got then
        let s := s.opEnd k slot t dst
        if t.op.retried then ((s.linkQueue k { t.op with waits := true } true).inconsistent k d)
        else s.linkQueue k { t.op with retried := true } true
      else if t.got < n then s
      else (((s.opEnd k slot t dst).readArrived t).resumeIf k d)

/-- The replacement of a block is complete: the journal records it, the ream table points at the new block, the old one is retired,
or erased where it was only suspect (09 R252). The new block has the old one's CLOSE record (09 R242). -/
def State.replEnd (s : State) (b : Nat) (x : Repl) (id p : Nat) (r : Ream) : State :=
  let old := s.mblk b
  let s := s.modBlk x.new (fun y => { y with role := old.role, close := old.close })
  let s := s.modReam id (fun r => { r with entries := r.entries.set p (some x.new) })
  let s := { s with media := { s.media with repls := tdel s.media.repls b, bad := tdel s.media.bad b } }
  (if x.cause = 1 then s.eraseLater b else s.modBlk b (fun x => { x with st := .retired })).jrec r.deckle

/-- A replacement ends once every sheet is copied and its quire has verified on the new block (09 R252). -/
def State.replTry (s : State) (b : Nat) : State :=
  match tfind s.media.repls b, s.reamOf b with
  | some x, some (id, r, p) =>
    if x.todo.isEmpty && (match x.quire with | some q => (tget r.quires q {}).verified | none => true) then s.replEnd b x id p r else s
  | _, _ => s

/-- The copy of a quire's sheet is programmed. -/
def State.copyDone (s : State) (b q new : Nat) : State :=
  match tfind s.media.repls b with
  | some x =>
    if x.new ≠ new then s
    else ({ s with media := { s.media with repls := tset s.media.repls b { x with todo := x.todo.erase q } } }).replTry b
  | none => s

/-- A sheet's program succeeded (09 R251, R252). -/
def State.sheetDone (s : State) (k : Nat) (op : LinkOp) : State :=
  match op.owner with
  | .copy b q => s.copyDone b q (opBlk k op)
  | .sheet r q p => ({ s with media := { s.media with progBytes := s.media.progBytes + 262144 } }).modReam r (fun m => { m with quires := tmod m.quires q {} (fun x => { x with programmed := x.programmed ||| (1#32 <<< p) }) })
  | _ => s

/-- STATUS of a die (10 R306, R307). -/
def State.statusDone (s : State) (k d : Nat) (c : Cmpl) : State :=
  let x := s.die k d
  if x.unknown then
    if x.op.isSome && inR 1 5 c.dst then
      (if x.restarted then s.resetDie k d
       else (s.modDie k d (fun x => { x with restarted := true, unknown := false, st := c.dst })).dieKnown k d)
    else if x.op.isNone && decide (c.dst = 0) then (s.modDie k d (fun x => { x with unknown := false, st := 0 })).dieKnown k d
    else s.resetDie k d
  else if c.dst = 0 && x.op.isSome then s.inconsistent k d
  else
    let s := s.modDie k d (fun x => { x with
      st := c.dst, nsus := c.nsus, remainUs := c.arg % 65536, remainAt := s.now, progressUs := c.arg / 65536 })
    if inR 4 5 c.dst then s.resumeIf k d else s.busyBack k d []

/-- Array operations still outstanding on a die. -/
def Link.dieTags (l : Link) (d : Nat) : List (Nat × Tag) := l.tags.filter (fun t => decide (t.2.op.die = d) && opArray t.2.op.opc)

/-- RESET_DIE done: what it ended without a completion of its own is recovered too (10 R306). -/
def State.resetDone (s : State) (k d : Nat) (c : Cmpl) : State :=
  let s := ((s.link k).dieTags d).foldl (fun s t => s.tagLost k t.1 t.2) s
  if c.dst = 6 then s.retireDie k d
  else (s.modDie k d (fun x => { x with unknown := false, restarted := false, op := none, st := 0, nsus := 0 })).dieKnown k d

/-- A tag of a command that runs at once ends: its slot and token are free. -/
def State.tagEnd (s : State) (k slot : Nat) (t : Tag) : State :=
  s.modLink k (fun l => { l.tokenBack t.op with tags := tdel l.tags slot })

/-- RES OK (10 R307). A suspended operation makes no progress: its remaining time stands until it goes on (01 R24). -/
def State.cmplOk (s : State) (k slot : Nat) (t : Tag) (c : Cmpl) : State :=
  let d := t.op.die
  let o := t.op.opc
  if opIsRead o then
    (s.modLink k (fun l => { l with tags := tset l.tags slot { t with cmplLen := some c.len } })).readCheck k slot
  else
    let s := if o = 5 ∨ o = 6 ∨ o = 7 then s.tagEnd k slot t else s.opEnd k slot t c.dst
    if o = 3 then s.sheetDone k t.op
    else if o = 5 then s.modDie k d (fun x => { x with
      st := c.dst, nsus := c.nsus, progressUs := c.arg, remainUs := x.remainUs - (s.now - x.remainAt) / 10, remainAt := s.now })
    else if o = 6 then s.modDie k d (fun x => { x with st := c.dst, nsus := c.nsus, progressUs := 0, remainAt := s.now })
    else if o = 7 then s.statusDone k d c
    else if o = 8 then s.resetDone k d c
    else s.levelsOver k t.op

/-- An operation goes back to its queue, to be sent after UNPARK (10 R307 PARKED). -/
def State.cmplParked (s : State) (k slot : Nat) (t : Tag) (c : Cmpl) : State :=
  let o := { t.op with token := false }
  let s := s.opEnd k slot t c.dst
  let s := if opArray o.opc then s.linkQueue k o (opIsRead o.opc)
    else (s.opDirect k { o with retried := decide (o.opc = 9) || o.retried }).levelsOver k o
  if t.op.opc = 4 then s.modDk (k / 32) (fun x => { x with reErase := addOnce x.reErase (opBlk k t.op) }) else s

/-- RES FAIL (10 R307). -/
def State.cmplFail (s : State) (k slot : Nat) (t : Tag) (c : Cmpl) : State :=
  if t.op.opc = 3 then (s.opEnd k slot t c.dst).progBad k t.op 0
  else if t.op.opc = 4 then ((s.opEnd k slot t c.dst).modBlk (opBlk k t.op) (fun b => { b with st := .retired })).blkBad (opBlk k t.op) 2
  else (s.tagLost k slot t).dieLost k t.op.die

/-- RES BUSY_SUSP: the refused operation waits for what STATUS says of the die; the second time the die is reset (10 R307). -/
def State.cmplBusySusp (s : State) (k slot : Nat) (t : Tag) (c : Cmpl) : State :=
  if t.op.retried then (s.tagLost k slot t).resetDie k t.op.die
  else
    let s := s.opEnd k slot t c.dst
    (s.modDie k t.op.die (fun x => { x with busyOps := x.busyOps ++ [{ t.op with token := false, retried := true }] })).askStatus k t.op.die

/-- RES UNSUPPORTED (10 R307). -/
def State.cmplUnsupported (s : State) (k slot : Nat) (t : Tag) (c : Cmpl) : State :=
  let s := s.opEnd k slot t c.dst
  if t.op.opc = 10 ∨ t.op.opc = 11 then s.modDie k t.op.die (fun d => { d with absent := addOnce d.absent t.op.arg })
  else
    let s := s.recover k t.op
    if (s.link k).noncompliant then s.linkFault k
    else (s.modLink k (fun l => { l with noncompliant := true })).hubResetStart k

/-- Act on the CMPL of an outstanding tag (10 R306, R307). A RES above the last one that 10 R289 names has no meaning there: it is
handled as an inconsistent completion (DESIGN CHOICE, log 85). -/
def State.cmplIn (s : State) (k slot : Nat) (t : Tag) (c : Cmpl) : State :=
  let d := t.op.die
  if c.opc ≠ t.op.opc ∨ c.die ≠ t.op.die ∨ 9 < c.res ∨ (c.res = 0 ∧ inR 3 4 t.op.opc = true ∧ c.dst = 6) then
    (s.tagLost k slot t).inconsistent k d
  else
    let s := if c.res = 0 ∨ c.res = 2 ∨ c.res = 6 then s else s.modLink k (fun l => { l with badstat := satInc l.badstat })
    match c.res with
    | 0 => s.cmplOk k slot t c
    | 1 => s.cmplFail k slot t c
    | 2 => s.cmplParked k slot t c
    | 3 => (((s.opEnd k slot t c.dst).recover k t.op).identify k).dieLost k d
    | 4 => ((s.opEnd k slot t 6).retireDie k d).opDead k t.op
    | 5 => (s.opEnd k slot t c.dst).recover k t.op
    | 6 => if t.op.opc = 5 then (s.tagEnd k slot t).askStatus k d else s.tagEnd k slot t
    | 7 => ((s.tagEnd k slot t).modDie k d (fun x => { x with nsus := c.nsus })).askStatus k d
    | 8 => s.cmplBusySusp k slot t c
    | _ => s.cmplUnsupported k slot t c

/-- A tagged message whose tag is not outstanding (10 R294). -/
def State.discardMsg (s : State) (k : Nat) : State := s.modLink k (fun l => { l with discard := satInc l.discard })

/-! ### Temperatures and power (10 R297, R298; 12 R350, R351) -/

/-- Links of a deckle. -/
def deckleLinks (d : Nat) : List Nat := (List.range 32).map (· + 32 * d)

/-- The largest of some values, or none. -/
def maxI : List Int → Option Int
  | [] => none
  | a :: r => some (r.foldl max a)

/-- Deliver the hottest die and hub of a deckle; a hub left out does not count, and with none the inputs stay stale. -/
def State.tempsIn (s : State) (d : Nat) : State :=
  let ls := ((deckleLinks d).map s.link).filter (fun l => l.tempAt.isSome && !l.tempLeft)
  let s := match maxI (ls.map (fun l => l.temp)) with | some v => s.inputSet (4 + 256 * d) (v * 65536) | none => s
  let s := match maxI (ls.flatMap (fun l => l.hottest)) with | some v => s.inputSet (3 + 256 * d) (v * 65536) | none => s
  s.thermalCheck

/-- A hub temperature arrives by the link or an in-band interrupt. -/
def State.hubTemp (s : State) (k : Nat) (t : Int) : State :=
  (s.modLink k (fun l => { l with temp := t, tempAt := some s.now, tempLeft := false })).tempsIn (k / 32)

/-- The power input of a deckle: the spec gives currents and no voltage, so its value is free (log 11). -/
def State.powerIn (s : State) (d : Nat) : State :=
  let (v, s) := s.fresh
  s.inputSet (2 + 256 * d) (v.setWidth 32).toInt

/-- A POWER event: a ledger record of class 0x4 whose code the spec does not name (log 11), and the power input. -/
def State.hubPower (s : State) (k rails : Nat) : State :=
  let s := s.modLink k (fun l => { l with rails := rails })
  let (v, s) := s.fresh
  (s.ledEvent (0x4000 + v.toNat % 4096) []).powerIn (k / 32)

end Sys2Proof.Machine
end

