-- ==== Sys2Proof/Machine/ResetOps.lean ====
section
/-! DEFINITION. Shared parts of the device-wide resets: dropped conversations, the download's release, commands forced to
their outcome, PERST# and the controller reset (02 R59, R60; 06 R166, R181; 08 R223, R224, R229; 16 R458, R459). -/

namespace Sys2Proof.Machine

/-! ### Conversations and device-wide operations -/

/-- The MCTP endpoint forgets the request it serves. -/
def State.dropOob (s : State) : State :=
  let s := (s.cancelWait s.adm.oobWait).cancelCommit s.adm.oob s.adm.oobWait
  { s with adm := { s.adm with oob := none, oobWait := none } }

/-- Release the download conversation: chunk 0 is the next one, and a partial image leaves its record (06 R181). -/
def State.dlRelease (s : State) : State :=
  let t := { s with adm := { s.adm with dlActive := false, dlNext := 0 } }
  if s.adm.dlActive then t.ledEvent 0x0020 (leBytes 1 s.adm.dlSlot ++ leBytes 1 1) else t

/-- A function's firmware-held conversations: mailbox, relay inbox, DOE and SPDM (06 R166; PRESUMED for SPDM, log 34). -/
def State.dropFirmware (s : State) (g : Nat) : State :=
  (s.dropConversation g).modFn g (fun f => { f with
    inbox := [], doeErr := false, spdmVersion := false, spdmCaps := false, spdmAlgs := false, sessions := [] })

/-- What every restart of firmware ends: conversations without a reply, holds, the device-wide operation but a sanitize,
the clear nonce (06 R166, R190; 08 R229, R232; log 34). -/
def State.fwReset (s : State) : State :=
  let s := (s.fns.map Prod.fst).foldl (fun s g => s.dropFirmware g) s.dropOob
  let s := if s.media.draining || s.media.drainTo.isSome then s.drainStop.recap else s
  { s with
    adm := { s.adm with devOp := if s.adm.devOp = some 0x00B2 then some 0x00B2 else none }
    mode := { s.mode with hold := 0, drained := false, latchedPs := none, rescue := false }
    led := { s.led with nonce := none, bootSealed := false } }

/-! ### Commands forced to their outcome -/

/-- A command whose outstanding DMA, cipher work and mirror writes are abandoned. -/
def Slot.halted (x : Slot) : Slot :=
  { x with dma := false, phase := if x.phase = .mirror then .appendReady else x.phase, units := tmap x.units (fun _ u => if u.st.final then u else { u with st := .failed 0 }) }

/-- Force one command to its outcome, with its entry in a log; the status of the action that reached it first stands
(08 R221–R223). -/
def State.forceOne (s : State) (status logid i : Nat) : State :=
  match s.slot i with
  | none => s
  | some x =>
    let s := (s.setSlot i x.halted).mark (x.stop.getD status) i
    match s.slot i with
    | none => s
    | some y => s.issue i { y with logTo := some logid }

/-- Force every command to its outcome. -/
def State.forceOut (s : State) (status logid : Nat) : State :=
  (s.sub.slots.map Prod.fst).foldl (fun s i => s.forceOne status logid i) s

/-! ### Controller reset and watchdog (08 R229) -/

/-- A dormant entry under way, or the return from an abandoned one, ends with the restart of the firmware that runs it
(DESIGN CHOICE, log 63). -/
def State.entryDrop (s : State) : State :=
  if s.mode.dormant && decide (s.pwr.cur.toNat < 3) then
    ({ s with mode := { s.mode with dormant := false }
              pwr := { s.pwr with phase := 0, goal := 0, entryStep := 0, next := none } }).linksWake
  else s

/-- Steps 1 and 2 of 08 R229: READY clears, conversations are dropped, and every tag is reached with 0x303. -/
def State.resetBegin (s : State) (kind : Nat) : State :=
  let s := s.watching (fun s =>
    let s := s.fwReset.entryDrop
    { s with mode := { s.mode with booting := true, resetting := true }, pwr := { s.pwr with kind := kind } })
  s.markAll 0x303 s.sub.slots

/-- V-class fields of a function at a controller reset (02 R44–R47; 16 R459). -/
def Fn.vDefault (f : Fn) : Fn :=
  { f with ctrl := 0, err := 0, errOff := 0, errBar := 0, abBusy := false, abDone := false, abOrigin := 0, abTags := 0,
           abCount := 0 }

/-- The vat's V-class state: every buffer is free, and no request waits (11 R346; 16 R459). -/
def Vat.freeAll (v : Vat) : Vat :=
  { v with bufs := tmap v.bufs (fun _ b => if b.alloc then { alloc := false, owner := 0x7F, gen := b.gen + 1 } else b)
           fifos := [], stalled := [], granted := [] }

/-- V-class counters and captures of the blocks at a controller reset (16 R459, R460; 11 R339, R346; 12 R366; 13 R390; 14 R405;
15 R407). -/
def State.vBlocks (s : State) : State :=
  let s := s.calVReset
  { s with
    vat := s.vat.freeAll
    drc := { s.drc with fillPct := 0 }
    fst := { s.fst with wait := 15 }
    hz := { s.hz with searches := 0, wakes := 0, kcnt := 0 }
    cip := { s.cip with lanes := tmap s.cip.lanes (fun _ l => { l with units := 0 }) }
    pwr := { s.pwr with stale := false, staleOff := 0, xid := 0, ovrcnt := 0 } }

/-- Step 4 of 08 R229 before the image starts: queues are kept with their task registers at creation values. -/
def State.resetKeep (s : State) : State :=
  let s := { s with
    qs := tmap s.qs (fun _ q => q.recreate)
    fns := tmap s.fns (fun _ f => f.vDefault)
    mode := { s.mode with resetting := false } }
  s.vBlocks

/-! ### PERST# (02 R60; 16 R458, R459) -/

/-- K-class parameters return to their defaults; live P-class values stay until the profile is loaded. -/
def State.kDefault (s : State) : State :=
  { s with par := { s.par with live := s.par.live.filter (fun p => decide (paramCls p.1 ≠ 1)) } }

/-- The hazard engine starts empty, but for its counters of full banks; windows over staged blocks are entered again
(14 R405; 09 R265). -/
def State.hzRestart (s : State) : State :=
  let ws := s.hz.entries.filter (fun p => decide (8 ≤ hzBank p.1 ∧ hzBank p.1 < 12))
  ({ s with hz := { entries := tmap ws (fun _ e => { e with readers := 0, waiters := [] }), nextIseq := s.hz.nextIseq,
                    full0 := s.hz.full0, full8 := s.hz.full8 } }).windowsRelease

/-- A link as PERST# and power-on leave it: DOWN, with what is known of its dies (10 R313). The spec does not say whether the blocks
of a link whose FAULT hold ran out serve again after a later bring-up: they stay out of use (DESIGN CHOICE, log 86). -/
def Link.down (l : Link) : Link :=
  { dies := tmap (l.dies.filter (fun p => p.2.retired)) (fun _ d => { retired := d.retired, levels := d.levels }),
    gens := l.gens, faultOver := l.faultOver, noncompliant := l.noncompliant }

/-- The sheet of a staged block was programmed. -/
def State.wasProgrammed (s : State) (g : Staged) : Bool :=
  match tfind s.media.reams g.loc.ream with
  | some r => g.programming && (r.quire g.loc.quire).programmed.getLsbD g.loc.pos
  | none => false

/-- Programs and erases that a link lost: issued sheets are issued again, erases join the blocks erased again at start
(09 R251, R266; 10 R313). A replacement starts anew, and its block waits for erase (09 R252). -/
def State.lostWork (s : State) : State :=
  { s with media := { s.media with
      reams := tmap s.media.reams (fun _ r => { r with quires := tmap r.quires (fun _ q => { q with issued := q.programmed }) })
      deckles := tmap s.media.deckles (fun d x => { x with reErase := (s.media.mblks.filter (fun p =>
        decide (p.2.st = .erasing) && decide (p.1 / 2 ^ 25 = d))).foldl (fun l p => addOnce l p.1) x.reErase })
      mblks := s.media.repls.foldl (fun t x => tmod t x.2.new { st := .waitErase, stamped := false } (fun b => { b with st := .waitErase, stamped := false }))
        (tmap s.media.mblks (fun _ b => if b.st = .erasing then { b with st := .waitErase, stamped := false } else b))
      repls := []
      blks := tmap s.media.blks (fun _ b => { b with staged := b.staged.map (fun g => { g with programming := s.wasProgrammed g }) }) } }

/-- Every link goes DOWN (10 R313). -/
def State.linksDown (s : State) : State := ({ s with links := tmap s.links (fun _ l => l.down) }).lostWork

/-- K-class counters of a DRAM channel at PERST#; requests on their way are gone (13 R390). -/
def Chan.kReset (c : Chan) : Chan :=
  { c with ue := 0, capar := 0, rhref := 0, rfm := 0, ce := [], dev := [], ceSeen := [], reqs := [] }

/-- K-class counters and sticky bits of the blocks at their defaults: PERST#, power-on, and an exit from PS5 without the
retention region (16 R444, R459; 10 R316; 11 R325, R339, R346, R347; 12 R369; 13 R390; 14 R405). -/
def State.kBlocks (s : State) : State :=
  { s with
    sub := { s.sub with ccStall := [] }
    ldp := { s.ldp with hardFail := 0, softRun := 0, softFail := 0, mdFail := 0, encFence := 0, encFenced := [], decOff := 0 }
    led := { s.led with dropCnt := 0 }
    hz := { s.hz with full0 := 0, full8 := 0 }
    vat := { s.vat with double := 0, nonowner := 0, stale := 0, toobig := 0, lastHandle := 0, lastReq := 0, lastKind := 0 }
    cip := { s.cip with lanes := tmap s.cip.lanes (fun _ l => { l with badlen := 0, fenced := false, katfail := false, faults := 0 }) }
    links := tmap s.links (fun _ l => { l with badflit := 0, replays := 0, discard := 0, badstat := 0, hbmiss := 0, hubresets := 0 })
    drc := { s.drc with chans := tmap s.drc.chans (fun _ c => c.kReset), u3 := [], maxlat := [] }
    cal := { s.cal with buckets := [], loops := tmap s.cal.loops (fun _ l => { l with flags := 0, late := 0, skip := 0 }) } }

/-- PERST# asserted: the link reset of every group, the outcomes in LOGID 0x05, and the reset of the controller. A
transition of power states is abandoned (16 R445). -/
def State.perstReset (s : State) : State :=
  let s := s.fwReset
  let ps := List.range s.nPf
  let s := ps.foldl (fun s p => s.groupDown p) s
  let s := s.forceOut 0x302 5
  let s := ps.foldl (fun s p => s.groupReset p) s
  let s := ((s.kDefault.hzRestart).linksDown.vBlocks).kBlocks
  { s with
    sub := {}
    hist := []
    glb := { s.glb with thermal := false }
    mode := { s.mode with booting := true, resetting := false }
    ldp := {}
    vat := {}
    cip := { s.cip with lanes := [] }
    pwr := { s.pwr with phase := 0, next := none, entryStep := 0, gated := false, retryWait := false, stuck := false,
                        xfenced := [], xover := [] }
    adm := { s.adm with oobHeld := none }
    brd := { s.brd with perstLow := true, released := false } }

/-- PERST_ASSERT (02 R60; 17 R469): ignored while a dump runs, where it takes effect at the dump's end. -/
def execPerstAssert (s : State) : Host.Outcome State Fault Refusal :=
  .next (if s.brd.perstLow then s
    else if s.pwr.dumping then { s with brd := { s.brd with perstHeld := true } }
    else if !s.brd.pwrgd then { s with brd := { s.brd with perstLow := true } }
    else s.perstReset)

end Sys2Proof.Machine
end

