-- ==== Sys2Proof/Machine/BootOps.lean ====
section
/-! DEFINITION. Starts: the boot ROM, the firmware's first work, profile selection, DRAM population, lane tests, READY
(02 R32; 06 R174, R480; 08 R234–R237; 11 R322, R328, R341; 13 R371–R374, R384; 15 R417–R419; 16 R444, R458). -/

namespace Sys2Proof.Machine

/-! ### The boot ROM (15 R418) -/

/-- Why a slot is refused, 0 where it starts. A slot that passes every check and was not committed is refused too
(06 R180); the spec names no reason code for it, so it is one of 1–6 (log 11). -/
def State.slotReason (s : State) (k : Nat) : Nat × State :=
  let i := s.img k
  if 3 ≤ i.attempts then (5, s)
  else
    let r := imgCheck s.fst.fuses k i.bytes
    if r ≠ 0 then (r, s)
    else if i.committed then (0, s)
    else
      let (v, s) := s.fresh
      (1 + v.toNat % 6, s)

/-- Record the reason of a refused slot in FST_BOOT. -/
def State.setFail (s : State) (k r : Nat) : State :=
  { s with fst := { s.fst with
      failA := if k = 0 then r else s.fst.failA
      failB := if k = 1 then r else s.fst.failB
      failR := if k = 2 then r else s.fst.failR } }

/-- Hand control to an image; an image slot takes an attempt cell. -/
def State.startImg (s : State) (k : Nat) : State :=
  let s := if k < 2 then s.modImg k (fun i => { i with attempts := i.attempts + 1 }) else s
  { s with fst := { s.fst with slot := k, fallback := decide (k ≠ s.fst.pref), running := (s.img k).bytes } }

/-- Neither image slot is valid: the rescue image, or a halt with FAULT#. -/
def State.startRescue (s : State) : State :=
  let r := imgCheck s.fst.fuses 2 (s.img 2).bytes
  let s := s.setFail 2 r
  if r = 0 then s.startImg 2
  else { s with fst := { s.fst with halt := true }, brd := { s.brd with faultN := true } }

/-- PREF, then the other image slot, then the rescue image. -/
def State.romPick (s : State) : State :=
  let p := s.fst.pref
  let (r, s) := s.slotReason p
  let s := s.setFail p r
  if r = 0 then s.startImg p
  else
    let (r, s) := s.slotReason (1 - p)
    let s := s.setFail (1 - p) r
    if r = 0 then s.startImg (1 - p) else s.startRescue

/-- A run of the boot ROM: the boot count advances and the FST_BOOT fields are those of this run. -/
def State.bootRom (s : State) (kind : Nat) : State :=
  let s := { s with
    mode := { s.mode with booting := true, resetting := false, bootAt := s.now }
    pwr := { s.pwr with kind := kind }
    led := { s.led with boot := s.led.boot + 1, bootSealed := false }
    fst := { s.fst with slot := 3, fallback := false, failA := 0, failB := 0, failR := 0, halt := false, running := [],
                        reerased := 0 } }
  s.romPick

/-! ### The firmware's first work (15 R419, R422, R426, R429) -/

/-- Low byte of PWR_WAKESRC. -/
def State.wakeByte (s : State) : Nat := s.pwr.first.toNat + 16 * (s.pwr.seen.toNat % 16)

/-- ARG of the BOOT record (15 R426). -/
def State.bootArg (s : State) : List Byte :=
  leBytes 1 s.fst.slot ++ leBytes 1 s.pwr.kind ++ leBytes 1 s.fst.failA ++ leBytes 1 s.fst.failB
    ++ leBytes 4 (imgSvn s.fst.running) ++ leBytes 1 s.fst.fuses.arb ++ leBytes 1 s.par.loaded ++ leBytes 1 (b2n s.led.lost)
    ++ leBytes 1 s.wakeByte

/-- An update of boot control: the older copy is programmed, then erased in the background (15 R412, R413). -/
def State.bootControl (s : State) : State :=
  ({ s with fst := { s.fst with bcOlderErased := false } }).storeErase 0x5A8

/-- PREF was skipped for three failed starts: the image slot that did start becomes PREF (15 R418 step 5). -/
def State.fallbackCheck (s : State) : State :=
  let p := s.fst.pref
  let reason := if p = 0 then s.fst.failA else s.fst.failB
  if s.fst.slot < 2 ∧ s.fst.slot ≠ p ∧ reason = 5 then
    let s := s.ledCommit 0x0004 (leBytes 1 p ++ leBytes 1 5 ++ leBytes 1 s.fst.slot)
    ({ s with fst := { s.fst with pref := s.fst.slot } }).bootControl
  else s

/-- The ledger as a boot takes it up: FAIL and LEDGER clear unless the ring is full, and staged events are committed
before the BOOT record; a freeze ends here, with a new copy of boot control (15 R422, R429, R431). -/
def State.ledgerUp (s : State) : State :=
  let s := { s with led := { s.led with fail := false, torn := 0 }, glb := { s.glb with ledger := s.led.full } }
  (if s.led.frozen then s.ledThaw.bootControl else s).ledFlush

/-- The key store as every boot loads it from the key-blob region (11 R333, R336; 16 R459). -/
def State.keysLoad (s : State) : State :=
  let f := s.fst.blobs
  { s with cip := { s.cip with
      keys := (f.filter (fun p => decide (p.1 < 4096))).map (fun p => (p.1, keyOf p.2.1.record))
      keks := (f.filter (fun p => decide (4096 ≤ p.1) && p.2.1.record.any (fun b => decide (b ≠ 0)))).map (fun p => (p.1 - 4096, p.2.1.record)) } }

/-- The BOOT and digest records, then the BOOT_SEAL, then what follows from the boot (15 R418, R419). -/
def State.bootRecords (s : State) : State :=
  if s.fst.halt then { s with adm := { s.adm with dlActive := false, dlNext := 0 } }
  else
    let s := s.keysLoad.ledgerUp
    let d := imgDigest s.fst.running
    let s := ((s.ledCommit 0x0001 s.bootArg).ledCommit 0x0002 (d.take 24)).ledCommit 0x0003 (d.drop 24)
    let s := s.bootSeal 0
    let s := { s with led := { s.led with lost := false, bootSealed := true }, hz := { s.hz with widthsSet := true },
                      vat := { s.vat with rejected := false } }
    s.fallbackCheck

/-- A start that follows a reset releases the download conversation (06 R181). -/
def State.bootRelease (s : State) : State := if s.fst.halt then s else s.dlRelease

/-! ### Profiles and grouping at a start (02 R32; 06 R174, R480) -/

/-- The profile a start loads: its number, values and generation, and the cause of the record of 06 R174 steps 4 and 5.
The number shown while the factory defaults are loaded is not stated (log 11). -/
def State.chooseProfile (s : State) (balls : Nat) : (Nat × ProfCopy × Option Nat) × State :=
  let want := if s.par.lock ≤ 3 then s.par.lock else balls
  match s.profCopy want with
  | some c => ((want, c, none), s)
  | none => match (List.range 4).find? (fun p => (s.profCopy p).isSome) with
    | some p => ((p, (s.profCopy p).getD {}, some 2), s)
    | none => let (v, s) := s.fresh; ((v.toNat % 256, {}, some 3), s)

/-- A parameter that comes into force at this start. -/
def effNow (powerOn : Bool) (id : Nat) : Bool := powerOn || decide (paramEff id ≠ .powerOn)

/-- Values in force after a start: the live ones, but for those that wait for a power-on (06 R480). -/
def inForceAt (powerOn : Bool) (live old : Tbl Nat) : Tbl Nat :=
  (old.filter (fun p => !effNow powerOn p.1)).foldl (fun t p => tset t p.1 p.2) (live.filter (fun p => effNow powerOn p.1))

/-- A start takes its straps and its profile (02 R32; 06 R174; 09 R260). -/
def State.takeProfile (s : State) (powerOn : Bool) (sel : Nat × ProfCopy × Option Nat) : State :=
  let live := tset (pVals sel.2.1.values) pProfileLock s.par.lock
  let inf := inForceAt powerOn live s.par.inForce
  let lgrp := s.brd.straps.lgrp
  { s with
    par := { s.par with live := live, old := [], inForce := inf, loaded := sel.1 }
    hif := { s.hif with grouping := if lgrp = 3 then pval inf pLinkGroup else lgrp }
    media := { s.media with plp := decide (pval live pPlp = 1), holdup := pval live pHoldup } }

/-- Records of the profile selection and of a strap that overrides the profile (02 R32; 06 R174). -/
def State.startRecords (s : State) (prev : Nat) (sel : Nat × ProfCopy × Option Nat) : State :=
  let s := match sel.2.2 with
    | some cause => s.ledCommit 0x0010 (leBytes 1 prev ++ leBytes 1 sel.1 ++ leBytes 1 cause ++ zeros 1 ++ leBytes 4 sel.2.1.gen)
    | none => s
  let l := s.brd.straps.lgrp
  if l ≠ 3 ∧ l ≠ s.pf pLinkGroup then s.ledCommit 0x0011 (leBytes 1 l ++ leBytes 1 (s.pf pLinkGroup)) else s

/-! ### DRAM at power-on (13 R371–R374, R382, R384) -/

/-- DRAM in service is below the need plus 2 GiB, or staging cannot be mirrored (09 R245, 13 R383). -/
def State.dramShort (s : State) : Bool :=
  decide (s.dramBytes < s.drc.need + 2 ^ 31) || decide ((s.drc.chans.filter (fun p => decide (p.2.st = 1))).length < 2)

/-- Set or clear GLB_LIMITED.DRAM. -/
def State.dramCheck (s : State) : State := s.watching (fun s => { s with glb := { s.glb with dram := s.dramShort } })

/-- Physical ranks of a mask. -/
def ranksOf (m : Nat) : List Nat := (List.range 4).filter (fun r => bitN m r)

/-- A channel fits the population rules: the DIMMs of the lowest populated channel, and a full or half population. -/
def dimmOk (ds : List Dimm) (d : Dimm) : Bool :=
  let has := fun n => (List.range n).all (fun c => ds.any (fun x => x.ch == c))
  match ds.find? (fun x => (List.range 8).all (fun c => decide (x.ch ≤ c) || !ds.any (fun y => y.ch == c))) with
  | none => false
  | some f => decide (popN 4 d.ranks = popN 4 f.ranks) && decide (d.dev32 = f.dev32) && (if d.ch < 4 then has 4 else has 8)

/-- A channel brought into service: logical ranks in ascending physical order without the configured spare, ranks
recorded as lost kept out, a lost rank served by the spare (13 R374, R382, R384). -/
def chanUp (failed : List (Nat × Nat × Nat)) (spareCfg speed : Nat) (old : Chan) (d : Dimm) : Chan :=
  let bad := fun p => failed.contains (d.ch, p, d.serials.getD p 0)
  let phys := ranksOf d.ranks
  let spare := decide (phys.contains spareCfg)
  let logical := if spare then phys.filter (· ≠ spareCfg) else phys
  let lost := if spare && !bad spareCfg && !old.migr then logical.findIdx? bad else none
  let map := match lost with | some i => logical.set i spareCfg | none => logical
  let insvc := (List.range map.length).foldl (fun a i => if bad (map.getD i 0) then a else a + 2 ^ i) 0
  { st := if insvc = 0 then 2 else 1, speed := speed, dev32 := d.dev32, present := BitVec.ofNat 4 d.ranks,
    insvc := BitVec.ofNat 4 insvc, spare := if spare then spareCfg else 0,
    spareOk := spare && !bad spareCfg && lost.isNone && !old.migr, rankMap := (List.range map.length).zip map,
    serials := d.serials, migr := old.migr && spare, migRank := old.migRank }

/-- Channels that broke a population rule. -/
def badChans (ds : List Dimm) : List Nat := (ds.filter (fun d => !dimmOk ds d)).map Dimm.ch

/-- DRAM at power-on: population, contents zero, the fill begins (13 R371, R378). A migration cut by the power loss starts
again from its first line (13 R384). -/
def State.dramPowerOn (s : State) (ds : List Dimm) : State :=
  let speed := (ds.filter (dimmOk ds)).foldl (fun a d => max a d.rate) 0
  let chans := ds.foldl (fun t d =>
    let old := tget s.drc.chans d.ch {}
    tset t d.ch (if dimmOk ds d then chanUp s.drc.failed (s.pf (pSpare d.ch)) speed old d
      else { present := BitVec.ofNat 4 d.ranks, dev32 := d.dev32, serials := d.serials })) ([] : Tbl Chan)
  { s with drc := { chans := chans, failed := s.drc.failed, fill := true } }

/-- A block whose staged copies are lost: an unreadable marker takes its place on media (13 R383; 11 R318 KIND 5; 08
R237). -/
def State.blkLose (s : State) (key : Nat) : State :=
  match tfind s.media.blks key with
  | none => s
  | some b => match b.staged with
    | none => s
    | some g =>
      let s := s.stageGive g.deckle 4096
      { s with media := { s.media with blks := tset s.media.blks key { staged := none, media := some ({ g.ver with lost := true }, g.loc), mpiece := g.piece } } }

/-- Staged extents come back from the dump: each pair has new places, and the blocks that cannot be rebuilt are lost
(08 R237; 09 R263, R265). -/
def State.dumpLoad (s : State) (lostBlocks : List (Nat × Nat)) : State :=
  let pr := s.mirrorPair
  let move := fun (g : Staged) => { g with chA := pr.1, chB := pr.2, dumpListed := false }
  let s := { s with media := { s.media with blks := tmap s.media.blks (fun _ b => { b with staged := b.staged.map move }) } }
  (lostBlocks.foldl (fun s p => s.blkLose (bkey p.1 p.2)) s).windowsRelease

/-- What a power loss leaves in the ledger and the health log (08 R236, R237; 15 R426). -/
def State.lossEvents (s : State) (extents : Nat) : State :=
  let s := if s.media.loss = 1 then s.ledEvent 0x5001 []
    else if s.media.loss = 2 then
      ({ s with adm := { s.adm with healthCount := s.adm.healthCount + 1 } }).ledEvent 0x5002 (leBytes 1 1)
    else if extents ≠ 0 then s.ledEvent 0x5002 (leBytes 1 2 ++ zeros 3 ++ leBytes 4 extents)
    else s
  { s with media := { s.media with loss := 0 } }

/-! ### Lanes and decoders (11 R322, R328) -/

/-- The tests of PERST# and power-on: a lane that passes starts unfenced with FAULTS 0, one that fails is fenced; encoder fences are
cleared; decoders that fail are disabled until the next test. -/
def State.katRun (s : State) (facts : BootFacts) : State :=
  let s := { s with
    cip := { s.cip with turns := [], lanes := tmap s.cip.lanes (fun _ l => { badlen := l.badlen }) }
    glb := { s.glb with cipher := 0 }
    ldp := { s.ldp with decOff := BitVec.ofNat 8 (facts.decodersFail + facts.softDecodersFail), encFenced := [], encFence := 0
                        hardOff := facts.decodersFail, softOff := facts.softDecodersFail } }
  (facts.lanesFail.filter (fun k => decide (k < 96))).foldl (fun s k => s.laneFence k 1) s

/-! ### Vat (11 R341) -/

/-- Bytes a DRAM buffer takes with its side area. -/
def poolBytes (kib : Nat) : Nat := kib * 1024 + kib * 128

/-- Shorten a pool until an excess is gone: its count, and the excess left. -/
def shorten (size count excess : Nat) : Nat × Nat :=
  if size = 0 then (count, excess)
  else
    let n := min count ((excess + poolBytes size - 1) / poolBytes size)
    (count - n, excess - n * poolBytes size)

/-- The K-class captures of the vat, which a rebuild keeps (11 R346; 16 R459). -/
def Vat.counters (v : Vat) : Vat :=
  { double := v.double, nonowner := v.nonowner, stale := v.stale, toobig := v.toobig, lastHandle := v.lastHandle,
    lastReq := v.lastReq, lastKind := v.lastKind }

/-- The DRAM pools as they are built: sizes from the profile, counts shortened from P7 down. -/
def State.vatBuild (s : State) : State :=
  let sz := fun n => s.pf (pPoolSize n)
  let want := fun n => if sz n = 0 then 0 else s.pf (pPoolCount n)
  let room := s.dramBytes - s.drc.need - 2 * s.media.cap
  let total := [4, 5, 6, 7].foldl (fun a n => a + want n * poolBytes (sz n)) 0
  let (c7, x) := shorten (sz 7) (want 7) (total - room)
  let (c6, x) := shorten (sz 6) (want 6) x
  let (c5, x) := shorten (sz 5) (want 5) x
  let (c4, _) := shorten (sz 4) (want 4) x
  { s with vat := { s.vat.counters with sizes := [(4, sz 4), (5, sz 5), (6, sz 6), (7, sz 7)], counts := [(4, c4), (5, c5), (6, c6), (7, c7)] } }

/-! ### A start with straps: power-on and PERST# (16 R458) -/

/-- Every hub's sideband address is assigned (10 R314). -/
def State.sidebandAssign (s : State) : State :=
  (List.range 96).foldl (fun s k => s.emit (.setdasa (k / 24) (hubAddr k) (hubAddr k))) s

/-- Enabled links begin their bring-up (10 R275, R312). -/
def State.linksDetect (s : State) : State :=
  let s := s.sidebandAssign
  (List.range 96).foldl (fun s k =>
    if s.pf (pLinkEnable k) = 1 then s.startDetect k else s) s

/-- What is fixed at boot from the configuration: the DRAM need, the staging cap, the pools (09 R245, R264; 11 R341). -/
def State.sizeUp (s : State) : State :=
  let s := { s with drc := { s.drc with need := s.fixedNeed } }
  s.recap.vatBuild.dramCheck

/-- A sanitize that a power loss or reset cut goes on (06 R190). -/
def State.resumeSanitize (s : State) : State :=
  if s.adm.sanitize = 0 then s else { s with adm := { s.adm with devOp := some 0x00B2 } }

/-- Start the controller after a power-on or a PERST#; a lost power record and the staged data it carries are taken up
when firmware is ready. -/
def State.startUp (s : State) (facts : BootFacts) : State :=
  let powerOn := s.pwr.powerOn
  let prev := s.par.loaded
  let (sel, s) := s.chooseProfile s.brd.straps.profile
  let s := s.takeProfile powerOn sel
  let s := if powerOn then ((s.dramPowerOn facts.dimms).dumpLoad facts.lostBlocks).firstFormat facts.firstBad else s
  let s := { s with
    pwr := { s.pwr with powerOn := false, cur := 0, phase := 0, next := none, run1 := if powerOn then false else s.pwr.run1, stuck := false }
    mode := { s.mode with dormant := false, start := max s.mode.start (if powerOn then 2 else 1) }
    brd := { s.brd with released := true } }
  let s := (s.sizeUp.calRestart.linksDetect).bootRom (if powerOn then 0 else 1)
  let s := s.bootRecords.bootRelease
  if s.fst.halt then s
  else
    let s := (s.katRun facts).startRecords prev sel
    let s := if powerOn then s.lossEvents facts.lostBlocks.length else s
    let s := if powerOn then (badChans facts.dimms).foldl (fun s c => s.ledEvent 0x3001 (leBytes 1 c)) s else s
    s.resumeSanitize

/-- Reset may be released: power is good, PERST# and PFAIL# are high, and no dump holds the controller (17 R467, R469,
R474). -/
def State.mayRelease (s : State) : Bool :=
  s.brd.pwrgd && !s.brd.perstLow && !s.brd.released && !s.pwr.pfailLow && !s.pwr.afterDump && !s.brd.thermtrip && !s.pwr.stuck

/-- Sample LGRP and PROFILE; JTAG_EN only at power-on reset release (17 R472). -/
def State.sampleStraps (s : State) (st : Straps) : State :=
  { s with brd := { s.brd with straps := { st with jtagEn := s.brd.straps.jtagEn } } }

/-- A wake by PERST# from a dormant state (16 R442 code 8). -/
def State.perstWake (s : State) : State :=
  if !s.mode.dormant then s
  else { s with pwr := { s.pwr with
    first := 8#4, seen := s.pwr.seen ||| 128#8, from_ := s.pwr.cur, wtime := BitVec.ofNat 48 s.rtc } }

/-- PERST_DEASSERT (02 R60; 06 R174; 17 R472). -/
def execPerstDeassert (st : Straps) (facts : BootFacts) (s : State) : Host.Outcome State Fault Refusal :=
  .next (if s.brd.perstHeld then { s with brd := { s.brd with perstHeld := false } }
    else if !s.brd.perstLow then s
    else
      let s := { s with brd := { s.brd with perstLow := false }, pwr := { s.pwr with stuck := false } }
      if !s.brd.pwrgd then s
      else
        let s := (s.sampleStraps st).perstWake
        if s.mayRelease then s.startUp facts else s)

/-- RESET_RELEASE (17 R467 step 7, R474): the start that waited for its conditions. -/
def execResetRelease (facts : BootFacts) (s : State) : Host.Outcome State Fault Refusal :=
  .next (if s.mayRelease then s.startUp facts else s)

/-! ### READY (15 R416–R418; 16 R446; 09 R266; 08 R234) -/

/-- Lowest SVN among the committed image slots (15 R417). -/
def State.lowSvn (s : State) : Option Nat :=
  [0, 1].foldl (fun a k =>
    let i := s.img k
    if i.committed then (match a with | none => some (imgSvn i.bytes) | some v => some (min v (imgSvn i.bytes))) else a) none

/-- Raise the anti-rollback count, and revoke key slot 0 where the image asks (15 R416, R417). -/
def State.fuseWork (s : State) : State :=
  let f := s.fst.fuses
  let s := match s.lowSvn with
    | none => s
    | some v =>
      let n := min 64 v
      if f.arb < n then
        ({ s with fst := { s.fst with fuses := { f with arb := n } } }).ledCommit 0x0022 (leBytes 1 f.arb ++ leBytes 1 n)
      else s
  if byteAt s.fst.running 6 = 1 ∧ bitN (byteAt s.fst.running 7) 0 = true then
    { s with fst := { s.fst with fuses := { s.fst.fuses with krev := s.fst.fuses.krev ||| 1#2 } } }
  else s

/-- Commit and clear a wake failure, and release FAULT# (16 R446). -/
def State.faultClear (s : State) : State :=
  let s := if s.pwr.fault then s.ledCommit 0x5003 (leBytes 1 s.pwr.fstate.toNat ++ leBytes 1 (b2n s.pwr.fcause)) else s
  { s with pwr := { s.pwr with fault := false, fstate := 0, fcause := false, retries := 0, fid := 0, ftime := 0 },
           brd := { s.brd with faultN := false } }

/-- Blocks of a deckle that the mode recognises as interrupted (09 R266). -/
def State.interrupted (s : State) (d : Nat) : List Nat :=
  let x := s.dk d
  let m := s.pvA pMedPfail
  (if m ≠ 1 then x.intentSet else []) ++ (if m ≠ 0 then x.reErase.filter (fun k => !(x.intentSet.contains k && m ≠ 1)) else [])

/-- The erase of a block waits: for its intent batch, or in its link's queue. -/
def State.eraseQueued (s : State) (b : Nat) : Bool :=
  (s.dk (b / 2 ^ 25)).intentWait.contains b ||
  (s.link (b / 2 ^ 20)).queues.any (fun q => q.2.any (fun o => decide (o.owner = .erase b)))

/-- A block that waits for erase and was never erased stays in the queue: erases that a link lost are queued again (09 R266). -/
def State.erasesAgain (s : State) : State :=
  ((s.media.mblks.filter (fun p => decide (p.2.st = .waitErase) && !s.eraseQueued p.1)).map Prod.fst).foldl (fun s b => s.eraseLater b) s

/-- One block found at start is erased again and verified (09 R266): also one whose erase had ended and whose completion bit was not
programmed, unless it has joined a ream since or is retired. Whether the erase verifies is free (log 91); a block that fails it is retired
(09 R252). -/
def State.eraseAgain (s : State) (k : Nat) : State :=
  if (s.mblk k).st = .inReam ∨ (s.mblk k).st = .retired then s
  else
    let (v, s) := s.fresh
    if v.getLsbD 0 then (s.modBlk k (fun b => { b with st := .retired })).blkBad k 2 else s.blkErased k

/-- Erase the interrupted blocks again, verify and stamp them; the others wait on (09 R266). -/
def State.reEraseAll (s : State) : State :=
  ([0, 1, 2].foldl (fun s d =>
    let s := (s.interrupted d).foldl (fun s k => s.eraseAgain k) s
    s.modDk d (fun x => { x with intentSet := [], reErase := [], doneWait := [] })) s).erasesAgain

/-- Store sectors found at start (15 R409): the newest cell of a sector. -/
def State.storeFound (s : State) : List Nat :=
  let last := s.fst.cells.foldl (fun (t : Tbl Nat) c => tset t c.1 c.2) []
  (last.filter (fun c => !cellHas c.2 0 && ((s.flagMode && cellHas c.2 7) || (s.cleanMode && cellHas c.2 6)))).map Prod.fst

/-- Erase the sectors found again; an image slot that one belongs to is non-bootable (15 R409). -/
def State.storeReErase (s : State) : State :=
  let l := s.storeFound
  let s := l.foldl (fun s k =>
    let s := if k < 1024 then s.modImg (k / 512) (fun i => { i with committed := false }) else s
    { s with fst := { s.fst with cells := markLast k 0 s.fst.cells, verified := addOnce s.fst.verified k } }) s
  { s with fst := { s.fst with reerased := BitVec.ofNat 16 l.length } }

/-- Post the outcome entries that the power-loss record holds (08 R234, R236). -/
def State.postOutcomes (s : State) : State :=
  match s.media.dump with
  | none => s
  | some es =>
    let s := es.foldl (fun s e => s.logEntry 4 e.gfn e) s
    { s with media := { s.media with dump := none } }

/-- A regulator that no parameter names stays at its boot voltage, with a health event (17 R465). -/
def State.avsNamed (s : State) : State :=
  [0, 1].foldl (fun (s : State) r => if s.pf (pAvs r) = 0xFF then s.healthEvent else s) s

/-- Every group that is up sends its owed outcomes events, and every function its mode event. -/
def State.announce (s : State) : State :=
  (List.range s.nPf).foldl (fun s p => if (s.port p).up then s.groupEvents p else s) s.modeEvent

/-- What waited for READY after a dormant state: a management request, and a power request latched during the exit
(06 R192; 16 R442, R445). -/
def State.wakeTail (s : State) : State :=
  let s := match s.adm.oobHeld with
    | some r => ({ s with adm := { s.adm with oobHeld := none } }).oobTake r
    | none => s
  match s.pwr.next with
  | some t => ({ s with pwr := { s.pwr with next := none, seen := s.pwr.seen ||| 64#8 } }).askDormant t.toNat
  | none => s

/-- Firmware sets READY (15 R418 step 4). -/
def State.goReady (s : State) : State :=
  let s := { s with mode := { s.mode with booting := false, rescue := decide (s.fst.slot = 2) } }
  let s := if s.fst.slot < 2 then s.modImg s.fst.slot (fun i => { i with attempts := 0 }) else s
  let s := (s.fuseWork.faultClear)
  let s := if 1 ≤ s.mode.start then s.reEraseAll.avsNamed else s
  let s := if s.mode.start = 2 then s.storeReErase else s
  let s := { s with mode := { s.mode with start := 0 }, pwr := { s.pwr with phase := 0 } }
  s.postOutcomes.announce.wakeTail

/-- The image that runs may set READY; never in the factory mode of a high TEST (17 R462). -/
def State.mayReady (s : State) : Bool :=
  !s.brd.straps.test && s.mode.booting && !s.mode.resetting && s.brd.released && !s.fst.halt && !s.drc.fill && decide (s.fst.slot ≠ 3)

/-- FIRMWARE_READY (15 R418 step 4): an image that does not reach READY leaves its attempt cell. -/
def execFirmwareReady (success : Bool) (s : State) : Host.Outcome State Fault Refusal :=
  .next (if success && s.mayReady then s.goReady else s)

/-- DRAM_FILL_DONE (13 R378). -/
def execDramFillDone (s : State) : Host.Outcome State Fault Refusal :=
  .next (if s.drc.fill then { s with drc := { s.drc with fill := false, fillPct := 100 } } else s)

end Sys2Proof.Machine
end

