-- ==== Sys2Proof/Machine/AdminFw.lean ====
section
/-! DEFINITION. Firmware download, commit and activation; controller reset and watchdog; sanitize (06 R180–R183, R189, R190;
08 R229–R231). -/

namespace Sys2Proof.Machine

/-! ### FW_DOWNLOAD (06 R180, R181) -/

/-- Data bytes of a full chunk. -/
def chunkBytes : Nat := 4064

/-- Reply payload of FW_DOWNLOAD: NEXT and STORED. -/
def State.dlReply (s : State) : List Byte := leBytes 4 s.adm.dlNext ++ leBytes 4 s.adm.dlStored

/-- 64 KiB sectors that a write of `n` bytes at `off` of an image slot enters. -/
def newSectors (slot off n : Nat) : List Nat :=
  ((List.range (n / 65536 + 2)).map (fun i => (off + 65535) / 65536 + i)).filter (fun k => decide (k * 65536 < off + n))
    |>.map (· + slot * 512)

/-- Program a chunk (15 R411): its sectors are no longer erased. -/
def State.dlStore (s : State) (slot off : Nat) (data : List Byte) : State :=
  let ks := newSectors slot off data.length
  let s := s.modImg slot (fun i => { i with bytes := i.bytes.take off ++ data })
  { s with
    fst := { s.fst with verified := s.fst.verified.filter (fun k => !ks.contains k) }
    adm := { s.adm with dlNext := s.adm.dlNext + 1, dlStored := off + data.length,
                        dlActive := decide (off + data.length < s.adm.dlTotal) } }

/-- Chunk 0 opens a conversation: what the slot held is discarded (06 R180; 15 R417). -/
def State.dlOpen (s : State) (src : Src) (slot total : Nat) : State :=
  let s := s.modImg slot (fun i => { i with bytes := [], total := total, committed := false })
  { s with adm := { s.adm with dlActive := true, dlSrc := src, dlSlot := slot, dlTotal := total, dlNext := 0, dlStored := 0 } }

/-- The chunk is the expected one: a new sector waits for its erase, then the data is programmed before the reply. -/
def State.dlChunk (s : State) (src : Src) (r : Req) (ok : Bool) : State :=
  let slot := s.adm.dlSlot
  let off := s.adm.dlNext * chunkBytes
  let n := min chunkBytes (s.adm.dlTotal - off)
  if r.len ≠ 16 + n then s.reply src 0x402 0xFFFF []
  else match (newSectors slot off n).find? (fun k => !s.sectorReady k) with
    | some k => (s.setWait src (.storeErase k)).storeErase k
    | none =>
      if !ok then s.reply src 0x40F 0 []
      else
        let s := s.dlStore slot off (padTo n (sliceB r.payload 16 n))
        s.reply src 0 0 s.dlReply

/-- The chunk just stored is acknowledged again (06 R180). -/
def State.dlAgain (s : State) (src : Src) (r : Req) : State :=
  let off := (s.adm.dlNext - 1) * chunkBytes
  if r.len ≠ 16 + min chunkBytes (s.adm.dlTotal - off) then s.reply src 0x402 0xFFFF [] else s.reply src 0 0 s.dlReply

/-- FW_DOWNLOAD (06 R180): SLOT and TOTAL, then the order of chunks. -/
def State.fwDownload (s : State) (src : Src) (r : Req) (ok : Bool) : State :=
  let chunk := fieldLe r.payload 0 4
  let slot := byteAt r.payload 4
  let total := fieldLe r.payload 8 4
  let mine := s.adm.dlActive && decide (s.adm.dlSrc = src)
  if 1 < slot then s.reply src 0x402 4 []
  else if !inR 1 33554432 total then s.reply src 0x402 8 []
  else match (if mine then s.adm.devOp else s.devBusy) with
    | some t => s.reply src 0x405 t []
    | none =>
      if chunk = 0 then
        if s.fst.slot = slot ∧ s.modeOf ≠ 4 then s.reply src 0x40A 0 []
        else if r.len ≠ 16 + min chunkBytes total then s.reply src 0x402 0xFFFF []
        else (s.dlOpen src slot total).dlChunk src r ok
      else if decide (s.adm.dlNext = 0) || !(decide (chunk = s.adm.dlNext) && s.adm.dlActive || decide (chunk + 1 = s.adm.dlNext)) then
        s.reply src 0x407 (s.adm.dlNext % 65536) s.dlReply
      else if slot ≠ s.adm.dlSlot then s.reply src 0x402 4 []
      else if total ≠ s.adm.dlTotal then s.reply src 0x402 8 []
      else if chunk = s.adm.dlNext ∧ s.adm.dlActive = true then s.dlChunk src r ok
      else s.dlAgain src r

/-- FW_DOWNLOAD (06 R180). -/
def execFwDownload (src : Src) (ok : Bool) (s : State) : Res :=
  .next (s.serve src 0x0040 [(0, 4), (4, 1), (8, 4), (12, 4)] (fun s r => s.fwDownload src r ok))

/-- DL_IDLE_TIMEOUT (06 R181). -/
def execDlIdleTimeout (s : State) : Res := .next s.dlRelease

/-! ### FW_COMMIT (06 R182; 15 R415) -/

/-- The reply of a commit ends its slot's conversation, whatever the status (06 R181). -/
def State.commitReply (s : State) (src : Src) (slot status detail : Nat) (payload : List Byte) : State :=
  let s := if s.adm.dlSlot = slot then s.dlRelease else s
  let s := { s with adm := { s.adm with devOp := if s.adm.devOp = some 0x0041 then none else s.adm.devOp } }
  s.reply src status detail payload

/-- Status and DETAIL of an image that fails 15 R415. The DETAIL of a header, digest or revoked-key failure is not
stated (log 11). -/
def State.imgRefusal (s : State) (reason : Nat) : (Nat × Nat) × State :=
  if reason = 3 then ((0x40E, 0), s)
  else if reason = 1 then ((0x409, 1), s)
  else let (v, s) := s.fresh; ((0x409, v.toNat % 65536), s)

/-- Make a slot the preferred one, with its record (06 R182; 15 R412, R426). -/
def State.commitSlot (s : State) (slot : Nat) : State :=
  let b := (s.img slot).bytes
  let s := (s.modImg slot (fun i => { i with committed := true, attempts := 0 })).ledCommit 0x0020
    (leBytes 1 slot ++ zeros 3 ++ leBytes 4 (imgSvn b) ++ (imgDigest b).take 16)
  ({ s with fst := { s.fst with pref := slot } }).bootControl

/-- FW_COMMIT (06 R181, R182): the slot is verified as the boot ROM verifies it. In RESCUE a controller reset follows the
reply. -/
def State.fwCommit (s : State) (src : Src) (r : Req) : State :=
  let slot := byteAt r.payload 0
  let i := s.img slot
  let mine := s.adm.dlActive && decide (s.adm.dlSrc = src) && decide (s.adm.dlSlot = slot)
  if 1 < slot then s.reply src 0x402 0 []
  else match (if mine then s.adm.devOp else s.devBusy) with
    | some t => s.reply src 0x405 t []
    | none =>
      if s.glb.ledger then s.commitReply src slot 0x40F 0 []
      else if !i.complete then s.commitReply src slot 0x409 2 []
      else
        let reason := imgCheck s.fst.fuses slot i.bytes
        if reason ≠ 0 then
          let (x, s) := s.imgRefusal reason
          s.commitReply src slot x.1 x.2 []
        else if !s.fst.bcOlderErased then
          ({ s with adm := { s.adm with devOp := some 0x0041 } }).setWait src (.storeErase 0x5A8)
        else
          let s := (s.commitSlot slot).commitReply src slot 0 0 (leBytes 8 (imgSvn i.bytes) ++ imgRev i.bytes)
          if s.modeOf = 4 then s.resetBegin 2 else s

/-- FW_COMMIT (06 R182). -/
def execFwCommit (src : Src) (s : State) : Res := .next (s.serve src 0x0041 [(0, 1)] (fun s r => s.fwCommit src r))

/-! ### FW_ACTIVATE (06 R183; 08 R230, R231) -/

/-- FW_ACTIVATE (06 R183): the slot's check comes before any hold. -/
def execFwActivate (src : Src) (s : State) : Res :=
  .next (s.serve src 0x0042 [(0, 1)] (fun s r =>
    let slot := byteAt r.payload 0
    if 1 < slot then s.reply src 0x402 0 []
    else s.unlessDev src (s.unlessLedger src (
      let i := s.img slot
      let reason := imgCheck s.fst.fuses slot i.bytes
      if !i.committed then
        (if !i.complete then s.reply src 0x409 2 [] else let (v, s) := s.fresh; s.reply src 0x409 (v.toNat % 65536) [])
      else if reason ≠ 0 then
        (if reason = 1 then s.reply src 0x409 1 [] else let (v, s) := s.fresh; s.reply src 0x409 (v.toNat % 65536) [])
      else
        let s := { s with adm := { s.adm with devOp := some 0x0042, devArg := slot } }
        (s.setWait src (.fwActivate slot)).startHold 1))))

/-- FW_ACTIVATE_READY (06 R183; 15 R425): the new image runs after the drain; it seals, the hold ends and it replies. -/
def execFwActivateReady (s : State) : Res :=
  .next (if s.mode.hold ≠ 1 || !s.mode.drained then s
    else
      let k := s.adm.devArg
      let b := (s.img k).bytes
      let s := { s with fst := { s.fst with slot := k, running := b }, adm := { s.adm with devOp := none } }
      let s := (s.ledCommit 0x0021 (leBytes 1 k ++ zeros 3 ++ leBytes 4 (imgSvn b))).bootSeal 1
      s.endHold.replyWaiters (.fwActivate k) 0 0 (imgRev b))

/-- FW_ACTIVATE_TIMEOUT (06 R183; 08 R231): the previous image resumes. -/
def execFwActivateTimeout (s : State) : Res :=
  .next (if s.mode.hold ≠ 1 then s
    else
      let k := s.adm.devArg
      let s := { s with adm := { s.adm with devOp := none } }
      let s := s.ledCommit 0x0021 (leBytes 1 k ++ leBytes 1 1 ++ zeros 2 ++ leBytes 4 (imgSvn (s.img k).bytes))
      s.endHold.replyWaiters (.fwActivate k) 0x409 3 [])

/-! ### Controller reset (06 R189; 08 R229) -/

/-- CONTROLLER_RESET: the reply, then steps 1 and 2. -/
def execControllerReset (src : Src) (s : State) : Res :=
  .next (s.serve src 0x00B1 [] (fun s _ => s.unlessDev src ((s.reply src 0 0 []).resetBegin 2)))

/-- CONTROLLER_RESET_SEQUENCE: once every entry is written, firmware restarts with state kept (08 R229 step 4). -/
def execControllerResetSequence (_facts : BootFacts) (s : State) : Res :=
  .next (if s.mode.resetting && s.sub.slots.isEmpty then
      (s.resetKeep.bootRom s.pwr.kind).bootRecords.bootRelease.resumeSanitize
    else s)

/-- RESET_RING_TIMEOUT: an entry still waiting for ring space goes to LOGID 0x05 (08 R229 step 3). -/
def execResetRingTimeout (i : Nat) (s : State) : Res :=
  .next (match s.slot i with
    | none => s
    | some x => if s.mode.resetting ∧ x.phase = .fixed ∧ x.logTo = none then s.setSlot i { x with logTo := some 5 } else s)

/-- The management core runs: the watchdog is armed outside the dormant states and their commit, while reset is released,
and in a controller reset from step 4 on (08 R229). -/
def State.watchdogRuns (s : State) : Bool :=
  s.brd.released && !s.brd.perstLow && !s.fst.halt && decide (s.pwr.cur.toNat < 3) && !s.pwr.dumping && !s.pwr.afterDump
    && !s.mode.resetting && decide (s.pwr.phase ≠ 2)

/-- WATCHDOG_EXPIRY: the same steps without a reply; during a reset it starts again from step 1 (08 R229). -/
def execWatchdogExpiry (s : State) : Res :=
  .next (if s.watchdogRuns then s.resetBegin 3 else s)

/-! ### SANITIZE (06 R190) -/

/-- Every namespace becomes inaccessible; earlier commands keep it (06 R190). -/
def State.lockNamespaces (s : State) : State :=
  s.nss.foldl (fun s p => (s.modNs p.1 (fun n => { n with busy := 3 })).keepEarly p.1 p.2.fns) s

/-- Start a sanitize: 1 crypto-erase, 2 block erase. The codes of its log are not stated (log 11). -/
def State.sanitizeStart (s : State) (src : Src) (r : Req) (action : Nat) : State :=
  if fieldLe r.payload 4 4 ≠ 0x5A4E0001 then s.reply src 0x402 4 []
  else s.unlessDev src (s.unlessLedger src (
    let (v, s) := s.fresh
    let s := { s with adm := { s.adm with
      devOp := some 0x00B2, sanitize := action, sanState := BitVec.ofNat 16 v.toNat, sanProgress := 0 } }
    s.lockNamespaces.reply src 0 0 []))

/-- A SANITIZE of one ACTION: other values are refused by either row. -/
def State.sanitizeMsg (s : State) (src : Src) (action : Nat) : State :=
  s.serve src 0x00B2 [(0, 1), (4, 4)] (fun s' r =>
    let a := byteAt r.payload 0
    if !inR 1 2 a then s'.reply src 0x402 0 [] else if a ≠ action then s else s'.sanitizeStart src r action)

/-- SANITIZE_CRYPTO_ERASE (06 R190). -/
def execSanitizeCryptoErase (src : Src) (s : State) : Res := .next (s.sanitizeMsg src 1)

/-- SANITIZE_BLOCK_ERASE (06 R190). -/
def execSanitizeBlockErase (src : Src) (s : State) : Res := .next (s.sanitizeMsg src 2)

/-- The loaded key slots. -/
def State.loadedKeys (s : State) : List Nat := (s.cip.keys.filter (fun p => p.2.loaded)).map Prod.fst

/-- Erase every block that has held user data, verified and stamped (06 R190). -/
def State.eraseUserBlocks (s : State) : State :=
  let ks := (s.media.mblks.filter (fun p => decide (p.2.st = .waitErase))).map Prod.fst
  let s := ks.foldl (fun s k => s.blkErased k) s
  [0, 1, 2].foldl (fun s d => s.modDk d (fun x => { x with intentWait := [], intentSet := [], reErase := [] })) s

/-- Every namespace is empty and accessible again, with its attributes. -/
def State.openNamespaces (s : State) : State :=
  s.nss.foldl (fun s p => ((s.nsEmpty p.1).modNs p.1 (fun n => { n with busy := 0 })).jrecGroup p.2.home) s

/-- The end of a sanitize: keys, namespaces, reams, the event with code 0x06 and the record (06 R190). -/
def State.sanitizeFinish (s : State) : State :=
  let a := s.adm.sanitize
  let s := s.loadedKeys.foldl (fun s k => s.destroyKey k) s
  let s := s.openNamespaces
  let s := if a = 2 then s.eraseUserBlocks else s
  let (v, s) := s.fresh
  let s := { s with adm := { s.adm with
    sanitize := 0, devOp := none, sanState := BitVec.ofNat 16 v.toNat, sanProgress := BitVec.ofNat 16 (v.toNat / 65536) } }
  (s.asyncFree s.liveFns 0x06 0).ledEvent 0x6002 (leBytes 1 a ++ zeros 1)

/-- SANITIZE_DONE: after the earlier commands have completed (06 R190). -/
def execSanitizeDone (s : State) : Res :=
  .next (if s.adm.sanitize ≠ 0 ∧ s.ready = true ∧ s.nss.all (fun p => s.earlyDone p.1 none) = true then s.sanitizeFinish else s)

end Sys2Proof.Machine
end

