-- ==== Sys2Proof/Machine/AdminLog.lean ====
section
/-! DEFINITION. LOG_READ, the ledger messages, ATTEST_QUOTE and the measurements (06 R184–R187; 15 R430–R434). -/

namespace Sys2Proof.Machine

/-! ### LOG_READ (06 R184–R186) -/

/-- An asynchronous event entry (06 R186). -/
def AsyncEntry.bytes (e : AsyncEntry) : List Byte :=
  leBytes 2 e.code ++ leBytes 2 e.count.toNat ++ leBytes 4 e.nsid ++ leBytes 8 e.arg ++ leBytes 1 e.st ++ zeros 7
    ++ leBytes 8 e.time

/-- An outcome entry (06 R185). -/
def OutEntry.bytes (e : OutEntry) : List Byte :=
  leBytes 2 e.tag ++ leBytes 2 e.qid ++ leBytes 2 e.status ++ leBytes 2 e.seq ++ leBytes 8 e.result.toNat ++ zeros 2
    ++ leBytes 2 e.flags ++ leBytes 2 e.gfn ++ zeros 9 ++ leBytes 1 1

/-- What a LOG_READ asks for. -/
structure LogReq where
  logid : Nat
  consume : Bool
  gfn : Nat
  off : Nat
  count : Nat

/-- The request's fields (06 R184). -/
def State.logReqOf (s : State) (src : Src) (l : List Byte) : LogReq :=
  { logid := byteAt l 0, consume := bitN (byteAt l 1) 0, gfn := s.gfnArg src (fieldLe l 2 2), off := fieldLe l 4 4,
    count := fieldLe l 8 4 }

/-- A device log: error, health, sanitize. -/
def deviceLog (logid : Nat) : Bool := logid == 1 || logid == 2 || logid == 7

/-- The sender may read a log (06 R184, R193). -/
def State.logAllowed (s : State) (src : Src) (q : LogReq) : Bool :=
  match src with
  | none => q.logid == 1 || q.logid == 2
  | some g =>
    if s.isPf g then deviceLog q.logid || s.mayName src q.gfn
    else inR 3 5 q.logid && decide (q.gfn = g)

/-- Entries returned: at most COUNT, what is left from OFFSET, and what fits in 4,072 bytes (06 R184). -/
def logTake (total off count size : Nat) : Nat := min (min count (total - off)) (4072 / size)

/-- Reply payload of LOG_READ. -/
def logReply (total returned : Nat) (es : List Byte) : List Byte := leBytes 4 total ++ leBytes 4 returned ++ es

/-- Entries kept when `n` from `off` are consumed. -/
def dropMid {α : Type} (l : List α) (off n : Nat) : List α := l.take off ++ l.drop (off + n)

/-- Read a function's log of 32-byte entries, and put what is left. -/
def State.readFnLog {α : Type} (s : State) (src : Src) (q : LogReq) (l : List α) (f : α → List Byte) (put : State → List α → State) :
    State :=
  let n := logTake l.length q.off q.count 32
  let s := if q.consume then put s (dropMid l q.off n) else s
  s.reply src 0 0 (logReply l.length n (((l.drop q.off).take n).flatMap f))

/-- The manager log of a PF as a VF's GFN selects it: what is left keeps its order (06 R184). -/
def dropOf (g : Nat) : List OutEntry → Nat → Nat → List OutEntry
  | [], _, _ => []
  | e :: r, off, n =>
    if e.gfn ≠ g then e :: dropOf g r off n
    else match off, n with
      | o + 1, n => e :: dropOf g r o n
      | 0, n + 1 => dropOf g r 0 n
      | 0, 0 => e :: r

/-- LOGID 0x06 (06 R184). -/
def State.readMgr (s : State) (src : Src) (q : LogReq) : State :=
  let p := s.selfOf src
  let l := (s.fn p).log6
  if q.gfn = p then s.readFnLog src q l OutEntry.bytes (fun s r => s.modFn p (fun f => { f with log6 := r }))
  else
    let m := l.filter (fun e => decide (e.gfn = q.gfn))
    let n := logTake m.length q.off q.count 32
    let s := if q.consume then s.modFn p (fun f => { f with log6 := dropOf q.gfn l q.off n }) else s
    s.reply src 0 0 (logReply m.length n (((m.drop q.off).take n).flatMap OutEntry.bytes))

/-- `n` free bytes of a log whose content the spec does not state (log 11). -/
def State.freeOut (s : State) (n : Nat) : List Byte × State :=
  (padTo n (Config.freeBytes s.freeCtr n), { s with freeCtr := s.freeCtr + 1 })

/-- The error log when it is read: the errors since the last read, whose number and content the spec does not state, have
joined it, and it keeps the last 1,024 (06 R184; log 11). -/
def State.errJoin (s : State) : List (List Byte) × State :=
  let (v, s) := s.fresh
  let n := v.toNat % 1025
  let l := s.adm.errLog ++ (List.range n).map (fun i => padTo 32 (Config.freeBytes (s.freeCtr + i) 32))
  (l.drop (l.length - 1024), { s with freeCtr := s.freeCtr + n })

/-- The progress of a sanitize, in 1/65,536ths: while it runs a read finds it at or above the value of the last (06 R190;
log 11). -/
def State.sanStep (s : State) : State :=
  if s.adm.sanitize = 0 then s
  else
    let (v, s) := s.fresh
    let p := s.adm.sanProgress.toNat
    { s with adm := { s.adm with sanProgress := BitVec.ofNat 16 (p + v.toNat % (65536 - p)) } }

/-- A device log: the health entry has no stated content (log 11); the sanitize entry shows state and progress. -/
def State.readDevice (s : State) (src : Src) (q : LogReq) : State :=
  if q.logid = 7 then
    let n := logTake 1 q.off q.count 16
    let s := s.sanStep
    s.reply src 0 0 (logReply 1 n (if n = 0 then [] else
      leBytes 2 s.adm.sanState.toNat ++ leBytes 2 s.adm.sanProgress.toNat ++ zeros 12))
  else if q.logid = 1 then
    let (l, s) := s.errJoin
    ({ s with adm := { s.adm with errLog := l } }).readFnLog src q l id
      (fun s r => { s with adm := { s.adm with errLog := r } })
  else
    let n := logTake 1 q.off q.count 512
    let (b, s) := s.freeOut (n * 512)
    s.reply src 0 0 (logReply 1 n b)

/-- LOG_READ (06 R184). -/
def execLogRead (src : Src) (s : State) : Res :=
  .next (s.serve src 0x0060 [(0, 1), (1, 1), (2, 2), (4, 4), (8, 4)] (fun s r =>
    let q := s.logReqOf src r.payload
    let g := q.gfn
    if !inR 1 7 q.logid then s.reply src 0x402 0 []
    else if !s.logAllowed src q then s.reply src 0x404 0 []
    else match q.logid with
      | 3 => s.readFnLog src q (s.fn g).alog AsyncEntry.bytes (fun s l => s.modFn g (fun f => { f with alog := l }))
      | 4 => s.readFnLog src q (s.fn g).log4 OutEntry.bytes (fun s l => s.modFn g (fun f => { f with log4 := l }))
      | 5 => s.readFnLog src q (s.fn g).log5 OutEntry.bytes (fun s l => s.modFn g (fun f => { f with log5 := l }))
      | 6 => s.readMgr src q
      | _ => s.readDevice src q))

/-! ### Ledger messages (06 R187; 15 R430–R432) -/

/-- LEDGER_READ (15 R430). -/
def execLedgerRead (src : Src) (s : State) : Res :=
  .next (s.serve src 0x0061 [(0, 4), (4, 4)] (fun s r =>
    let first := fieldLe r.payload 0 4
    let count := fieldLe r.payload 4 4
    if !inR 1 63 count then s.reply src 0x402 4 []
    else
      let l := (s.led.slots.reverse.drop first).take count
      s.reply src 0 0 (leBytes 4 s.led.head ++ leBytes 4 l.length ++ l.flatten)))

/-- A LEDGER_FREEZE of one ACTION: other values are refused by either row. -/
def State.freezeMsg (s : State) (src : Src) (action : Nat) (k : State → State) : State :=
  s.serve src 0x0062 [(0, 1)] (fun s' r =>
    let a := byteAt r.payload 0
    if 1 < a then s'.reply src 0x402 0 [] else if a ≠ action then s else k s')

/-- Records in the freeze stage. -/
def State.staged (s : State) : Nat := s.led.fstage.length

/-- LEDGER_FREEZE, ACTION 1 (15 R430): a second freeze restarts the expiry, which is an event of its own. -/
def execLedgerFreeze (src : Src) (s : State) : Res :=
  .next (s.freezeMsg src 1 (fun s =>
    let s := if s.led.frozen then s else s.ledFreeze
    s.reply src 0 0 (leBytes 4 s.staged)))

/-- The end of a freeze: the stage is committed, and a new boot-control copy has the FREEZE cell erased (15 R430, R431). -/
def State.unfreeze (s : State) : State := if s.led.frozen then s.ledThaw.bootControl else s

/-- LEDGER_FREEZE, ACTION 0 (15 R430): it replies the number of records staged, 0 while not frozen. -/
def execLedgerUnfreeze (src : Src) (s : State) : Res :=
  .next (s.freezeMsg src 0 (fun s =>
    let n := if s.led.frozen then s.staged else 0
    s.unfreeze.reply src 0 0 (leBytes 4 n)))

/-- LEDGER_FREEZE_EXPIRY (15 R430). -/
def execLedgerFreezeExpiry (s : State) : Res := .next s.unfreeze

/-- LEDGER_CLEAR of one STEP: other values are refused by either row. -/
def State.clearMsg (s : State) (src : Src) (step : Nat) (fields : List (Nat × Nat)) (k : State → Req → State) : State :=
  s.serve src 0x0063 [(0, 1)] (fun s' r =>
    let a := byteAt r.payload 0
    if 1 < a then s'.reply src 0x402 0 []
    else if a ≠ step then s
    else match shortAt r.len fields with
      | some o => s'.reply src 0x402 o []
      | none => s'.unlessDev src (k s' r))

/-- LEDGER_CLEAR step 0: a new 48-byte nonce (15 R432). -/
def execLedgerClearNonce (src : Src) (nonce : List Byte) (s : State) : Res :=
  .next (s.clearMsg src 0 [] (fun s _ =>
    let n := padTo 48 nonce
    ({ s with led := { s.led with nonce := some n } }).reply src 0 0 n))

/-- The owner's authorisation of a clear (15 R432 step 1). -/
def State.clearAllowed (s : State) (nonce sig : List Byte) : Bool :=
  decide (s.led.nonce = some nonce) &&
  Config.ecdsaVerify s.fst.fuses.owner (Config.sha384 (ascii "HLS-LCLR" ++ nonce ++ s.fst.fuses.serial)) sig

/-- Steps 4 to 7 of 15 R432; the count covers every slot since the previous clear (DEDUCED, log 35). -/
def State.ledgerClear (s : State) (src : Src) : State :=
  let s := s.ledFlush
  let n := s.led.head
  let arg := padTo 16 (s.led.headLink s.fst.fuses.serial) ++ leBytes 4 n ++ leBytes 4 s.led.seq
  let s := { s with led := { s.led with slots := [], health := 0, full := false } }
  let s := (s.ledAppend 0xF001 arg).bootSeal 2
  let s := s.watching (fun s => { s with glb := { s.glb with ledger := s.led.fail } })
  s.reply src 0 0 (leBytes 4 n)

/-- LEDGER_CLEAR step 1 (15 R432): any attempt uses up the nonce. -/
def execLedgerClear (src : Src) (s : State) : Res :=
  .next (s.clearMsg src 1 [(4, 48), (52, 96)] (fun s r =>
    let ok := s.clearAllowed (sliceB r.payload 4 48) (sliceB r.payload 52 96)
    let s := { s with led := { s.led with nonce := none } }
    if !ok then s.reply src 0x408 0 []
    else if s.led.frozen then s.reply src 0x405 0x0062 []
    else s.ledgerClear src))

/-- NONCE_EXPIRY (15 R432). -/
def execNonceExpiry (s : State) : Res := .next { s with led := { s.led with nonce := none } }

/-! ### Measurements and ATTEST_QUOTE (15 R433, R434) -/

/-- Value of a measurement (15 R433). -/
def State.measure (s : State) (i : Nat) : List Byte :=
  let fz := s.fst.fuses
  match i with
  | 1 => padTo 48 (Config.sha384 fz.rom)
  | 2 => imgDigest s.fst.running
  | 3 => leBytes 4 (imgSvn s.fst.running) ++ imgRev s.fst.running
  | 4 => padTo 48 (Config.sha384 (Config.hubImageOf s.fst.running))
  | 5 => padTo 48 (Config.sha384 (Config.profileBytes (pVals s.par.live)))
  | 6 => leBytes 1 fz.arb ++ leBytes 1 fz.krev.toNat ++ leBytes 1 (b2n fz.dbgLock) ++ zeros 5
  | 7 => leBytes 4 (b2n fz.dbgAuth + 2 * b2n (s.brd.jtag && !fz.dbgLock))
  | _ => leBytes 4 s.led.boot ++ leBytes 4 s.led.seq ++ padTo 16 (s.led.headLink fz.serial)

/-- Type of a measurement (15 R433). -/
def measureType (i : Nat) : Nat := [0, 0x00, 0x01, 0x81, 0x01, 0x03, 0x82, 0x82, 0x84].getD i 0

/-- The indices of a mask; 0 selects all eight (15 R434). -/
def maskIndices (m : Nat) : List Nat := ((List.range 8).map (· + 1)).filter (fun i => decide (m = 0) || bitN m i)

/-- One entry of a quote. -/
def State.quoteEntry (s : State) (i : Nat) : List Byte :=
  let v := s.measure i
  leBytes 1 i ++ leBytes 1 (measureType i) ++ leBytes 2 v.length ++ v

/-- The quote (15 R434). -/
def State.quote (s : State) (nonce : List Byte) (mask : Nat) : List Byte :=
  let is := maskIndices mask
  leBytes 4 0x4B515401 ++ leBytes 2 1 ++ leBytes 2 is.length ++ padTo 32 nonce ++ padTo 16 s.fst.fuses.serial
    ++ leBytes 4 s.led.boot ++ leBytes 4 s.led.seq ++ padTo 16 (s.led.headLink s.fst.fuses.serial) ++ leBytes 4 mask
    ++ is.flatMap s.quoteEntry

/-- ATTEST_QUOTE (15 R434). -/
def execAttestQuote (src : Src) (s : State) : Res :=
  .next (s.serve src 0x0064 [(0, 32), (32, 4)] (fun s r =>
    let mask := fieldLe r.payload 32 4
    if bitN mask 0 ∨ 2 ^ 9 ≤ mask then s.reply src 0x402 32 []
    else
      let q := s.quote (sliceB r.payload 0 32) mask
      s.reply src 0 0 (leBytes 4 q.length ++ q ++ padTo 96 (Config.deviceSign q))))

end Sys2Proof.Machine
end

