-- ==== Sys2Proof/Machine/AdminLoop.lean ====
section
/-! DEFINITION. POWER_STATE, the loop messages and HSE_SEARCH (06 R188, R189; 12 R364, R367, R368; 14 R404; 16 R436–R438,
R447). -/

namespace Sys2Proof.Machine

/-! ### POWER_STATE -/

/-- Take the steep period and the alarm of a POWER_STATE (06 R188; 16 R442, R447). -/
def State.psArgs (s : State) (target period alarm : Nat) : State :=
  let p := if period = 0 then s.pv pSteepPeriod else period
  { s with pwr := { s.pwr with
      period := if target = 4 then BitVec.ofNat 12 p else s.pwr.period
      alarm := if alarm = 0 then s.pwr.alarm else BitVec.ofNat 48 alarm
      armed := s.pwr.armed || decide (alarm ≠ 0) } }

/-- The change of state that a POWER_STATE asks for (16 R437, R438). -/
def State.psGo (s : State) (target : Nat) : State :=
  if target = 1 then { s with pwr := { s.pwr with run1 := true } }
  else if target < 3 then { s with pwr := { s.pwr with run1 := false } }
  else s.askDormant target

/-- POWER_STATE (06 R188; 16 R437, R438): it replies first. -/
def execPowerState (src : Src) (s : State) : Res :=
  .next (s.serve src 0x0070 [(0, 1), (4, 4), (8, 8)] (fun s r =>
    let t := byteAt r.payload 0
    let period := fieldLe r.payload 4 4
    if 5 < t then s.reply src 0x402 0 []
    else if 3600 < period then s.reply src 0x402 4 []
    else if t = s.pstate then s.reply src 0 0 (leBytes 1 t)
    else ((s.reply src 0 0 (leBytes 1 t)).psArgs t period (fieldLe r.payload 8 8)).psGo t))

/-! ### Loops -/

/-- LOOP_TARGET (06 R188): the target is written, and the reply waits for the boundary. -/
def execLoopTarget (src : Src) (s : State) : Res :=
  .next (s.serve src 0x0080 [(0, 1), (4, 4)] (fun s r =>
    let n := byteAt r.payload 0
    if 31 < n then s.reply src 0x402 0 []
    else (s.setPv (pLoop n 3) (fieldLe r.payload 4 4)).setWait src (.loopBoundary n)))

/-- LOOP_TUNE (06 R188; 12 R364): all seven coefficients together. -/
def execLoopTune (src : Src) (s : State) : Res :=
  .next (s.serve src 0x0081 [(0, 1), (4, 16), (20, 12)] (fun s r =>
    let n := byteAt r.payload 0
    let w := fun i => fieldLe r.payload (4 + 4 * i) 4
    if 31 < n then s.reply src 0x402 0 []
    else if [0, 1, 2, 3].all (fun i => decide (w i = 0)) then s.reply src 0x402 4 []
    else
      let s := [0, 1, 2, 3].foldl (fun (s : State) i => s.setPv (pLoop n (0x20 + i)) (w i)) s
      let s := [0, 1, 2].foldl (fun (s : State) i => s.setPv (pLoop n (0x24 + i)) (w (4 + i))) s
      s.setWait src (.loopBoundary (n + 32))))

/-- The first malformed field of a LOOP_INJECT (12 R367). -/
def injBad (l : List Byte) : Option Nat :=
  if 31 < byteAt l 0 then some 0
  else if 2 < byteAt l 1 then some 1
  else if 6 < byteAt l 2 then some 2
  else if inR 2 4 (byteAt l 2) && !inR 1 65535 (fieldLe l 8 4) then some 8
  else none

/-- LOOP_INJECT (12 R367): it replaces the slot's signal at the next boundary. -/
def execLoopInject (src : Src) (s : State) : Res :=
  .next (s.serve src 0x0082 [(0, 1), (1, 1), (2, 1), (4, 4), (8, 4), (12, 4)] (fun s r =>
    match injBad r.payload with
    | some o => s.reply src 0x402 o []
    | none =>
      let i : Inject := { point := byteAt r.payload 1, signal := byteAt r.payload 2, amp := sx32 (fieldLe r.payload 4 4),
                          p1 := fieldLe r.payload 8 4, p2 := fieldLe r.payload 12 4 }
      (s.modLoop (byteAt r.payload 0) (fun l => { l with injPend := some i })).reply src 0 0 []))

/-- A LOOP_CAPTURE of one ACTION; another value is refused by any of its rows (06 R188). -/
def State.captureMsg (s : State) (src : Src) (action : Nat) (fields : List (Nat × Nat)) (k : State → Req → State) : State :=
  s.serve src 0x0083 [(0, 1)] (fun s' r =>
    let a := byteAt r.payload 0
    if 2 < a then s'.reply src 0x402 0 []
    else if a ≠ action then s
    else match shortAt r.len fields with
      | some o => s'.reply src 0x402 o []
      | none => k s' r)

/-- LOOP_CAPTURE arm (12 R368): the buffer is discarded. -/
def execLoopCaptureArm (src : Src) (s : State) : Res :=
  .next (s.captureMsg src 1 [(4, 4), (8, 4)] (fun s r =>
    let trig := fieldLe r.payload 8 4
    if trig % 4 = 3 then s.reply src 0x402 8 []
    else
      let c : Capture := { armed := true, sel := [4, 5, 6, 7].map (byteAt r.payload), mode := trig % 4, pre := trig / 4 % 16384 }
      ({ s with cal := { s.cal with cap := c } }).reply src 0 0 []))

/-- LOOP_CAPTURE read (06 R188; 12 R368): samples already recorded, by index from the oldest. -/
def execLoopCaptureRead (src : Src) (s : State) : Res :=
  .next (s.captureMsg src 2 [(4, 4), (8, 4)] (fun s r =>
    let n := fieldLe r.payload 8 4
    if !inR 1 254 n then s.reply src 0x402 8 []
    else
      let buf := s.cal.cap.buf
      let rows := (buf.drop (fieldLe r.payload 4 4)).take n
      s.reply src 0 0 (leBytes 4 buf.length ++ rows.flatMap (fun row => row.flatMap (fun v => leBytes 4 (word32 v).toNat)))))

/-- LOOP_CAPTURE disarm (12 R368): recording stops. -/
def execLoopCaptureDisarm (src : Src) (s : State) : Res :=
  .next (s.captureMsg src 0 [] (fun s _ =>
    ({ s with cal := { s.cal with cap := { s.cal.cap with armed := false } } }).reply src 0 0 []))

/-! ### HSE_SEARCH -/

/-- The key of an HSE_SEARCH by width (14 R392, R404). -/
def hseKey (l : List Byte) (width : Nat) : HzKey :=
  if width = 2 then
    { lo := fieldLe l 4 8 % 2 ^ 40, nsid := fieldLe l 4 8 / 2 ^ 40 % 2 ^ 11, w := bitN (fieldLe l 4 8) 51,
      last := fieldLe l 12 8 % 2 ^ 40 }
  else if width = 1 then { value := fieldLe l 4 4, dontCare := fieldLe l 8 4 }
  else { value := fieldLe l 4 16, dontCare := fieldLe l 20 16 }

/-- HSE_SEARCH (14 R404, R396): it changes no entry. -/
def execHseSearch (src : Src) (s : State) : Res :=
  .next (s.serve src 0x00C0 [(0, 2), (2, 1), (4, 32)] (fun s r =>
    let mask := fieldLe r.payload 0 2
    let w := byteAt r.payload 2
    if w ≠ 1 ∧ w ≠ 2 ∧ w ≠ 4 then s.reply src 0x402 2 []
    else if mask = 0 ∨ (List.range 16).any (fun b => bitN mask b && decide (hzWidth s.hz b ≠ w)) = true then
      s.reply src 0x402 0 []
    else
      let x := hzResult (hzSearch s.hz (hseKey r.payload w) mask none)
      let s := { s with hz := { s.hz with searches := s.hz.searches + 1, kcnt := BitVec.ofNat 17 x.count } }
      s.reply src 0 0 (leBytes 2 x.index ++ leBytes 1 (b2n x.isMatch + 2 * b2n x.multi) ++ zeros 1 ++ leBytes 4 x.count)))

end Sys2Proof.Machine
end

