-- ==== Sys2Proof/Machine/MediaRun.lean ====
section
/-! DEFINITION. Shared parts of the media's own work: health thresholds, sheets and quires, the flush area, block
replacement, relocation, collection (09 R247–R270). -/

namespace Sys2Proof.Machine

/-! ### Health (09 R268–R270) -/

/-- The thresholds of 09 R270 that telemetry has passed: kind × 2^16 + threshold. -/
def State.marksNow (s : State) : List Nat :=
  let soft := s.softPpm
  let wear := s.wearPct
  let spare := s.sparePct
  ([1000, 10000].filter (fun v => decide (v ≤ soft))).map (· + 65536) ++
  (([80] ++ (List.range 1310).map (fun i => 100 + 50 * i)).filter (fun v => decide (v ≤ wear))).map (· + 131072) ++
  ([50, 25, 10, 0].filter (fun v => decide (spare ≤ v))).map (· + 196608)

/-- The value of a health kind. -/
def State.markValue (s : State) (kind : Nat) : Nat :=
  if kind = 1 then s.softPpm else if kind = 2 then s.wearPct else s.sparePct

/-- A threshold newly passed: health event and ledger record (09 R270; 15 R427, code 0x6003). -/
def State.markEvent (s : State) (m : Nat) : State :=
  (s.healthEvent).ledEvent 0x6003 (leBytes 1 (m / 65536) ++ zeros 3 ++ leBytes 4 (s.markValue (m / 65536)))

/-- Announce the thresholds newly passed. -/
def State.healthCheck (s : State) : State :=
  let now := s.marksNow
  let fresh := now.filter (fun m => !s.media.marks.contains m)
  if fresh.isEmpty ∧ s.media.marks = now then s
  else fresh.foldl (fun s m => s.markEvent m) { s with media := { s.media with marks := now } }

/-! ### Sheets and quires (09 R239, R247, R251) -/

/-- Media programs and erases run: the controller is out of reset and in no dump or committed power state. -/
def State.mediaRuns (s : State) : Bool := s.brd.released && !s.pwr.dumping && !s.pwr.pfailLow && decide (s.pwr.cur.toNat < 3)

/-- A command still holds places in a sheet that it has not written yet. -/
def State.placesOpen (s : State) (id q p : Nat) : Bool :=
  s.sub.slots.any (fun x => decide (x.2.phase ≠ .fixed) && x.2.locs.any (fun l => decide (l.ream = id ∧ l.quire = q ∧ l.pos = p)))

/-- A sheet is assembled: its blocks are written, or it is the parity of a full quire; in a relocation target its source
quire is verified (09 R247, R251, R255). -/
def State.sheetFull (s : State) (id : Nat) (r : Ream) (q p : Nat) : Bool :=
  if r.target then
    match s.relocSrc id with
    | some src => match tfind s.media.reams src with | some m => (m.quire q).verified | none => false
    | none => false
  else if p = parityPos q then s.quireFull r q
  else
    let d := if p < parityPos q then p else p - 1
    (decide (q * 1984 + (d + 1) * 64 ≤ s.filled r) || (r.closed && decide (q * 1984 < s.filled r))) && !s.placesOpen id q p

/-- Mark the staged blocks of a sheet as being programmed. -/
def State.sheetMark (s : State) (id q p : Nat) : State :=
  { s with media := { s.media with blks := tmap s.media.blks (fun _ b => { b with
      staged := b.staged.map (fun g => if g.loc.ream = id ∧ g.loc.quire = q ∧ g.loc.pos = p then { g with programming := true } else g) }) } }

/-- The encoder that serves a link (11 R322); none when both of the pair are fenced. -/
def State.encoderFor (s : State) (k : Nat) : Option Nat :=
  if !s.ldp.encFenced.contains k then some k
  else if !s.ldp.encFenced.contains (k ^^^ 1) then some (k ^^^ 1) else none

/-- A second encoder fault fences the encoder; with its pair fenced too, the pair's links are in FAULT (11 R322). -/
def State.encFault (s : State) (e : Nat) : State :=
  let s := { s with ldp := { s.ldp with encFenced := addOnce s.ldp.encFenced e, encFence := satInc s.ldp.encFence } }
  let s := s.ledEvent 0x2003 (leBytes 1 e)
  if s.ldp.encFenced.contains (e ^^^ 1) then (s.linkFault e).linkFault (e ^^^ 1) else s

/-- The PROGRAM of quire q's sheet on a block (10 R288). -/
def sheetOp (owner : OpOwner) (q blk : Nat) (slc reloc : Bool) : LinkOp :=
  { opc := 3, die := blk / 8192 % 128, block := blk % 8192, mode := b2n slc, page := 16 * q, len := 294912, owner := owner, reloc := reloc }

/-- Quires of a ream: 64 where its blocks are SLC ones, else 256 (09 R238). -/
def Ream.quireCount (r : Ream) : Nat := if 3 ≤ r.kind then 64 else 256

/-- The last quire of a ream that is ever written: its last one, or the last with data in a ream closed before (09 R242, R247). -/
def State.lastQuire (s : State) (r : Ream) : Nat := if r.closed && decide (0 < s.filled r) then (s.filled r - 1) / 1984 else r.quireCount - 1

/-- The block that takes the programs of a position now: its replacement where one is under way; none on a block that failed or
needs a replacement (09 R252, R253). -/
def State.progBlk (s : State) (r : Ream) (p : Nat) : Option Nat :=
  match r.entries.getD p none with
  | none => none
  | some b => match tfind s.media.repls b with
    | some x => some x.new
    | none => if (tfind s.media.bad b).isSome || decide ((s.mblk b).st = .retired) then none else some b

/-- Queue a sheet's program, with a token where one is free (01 R18, R21; 12 R354). -/
def State.queueSheet (s : State) (k : Nat) (op : LinkOp) : State :=
  let l := s.link k
  let give := decide (l.tokens < s.tokenLimit k) && (!op.reloc || s.gcUrgent op || decide (l.relocTokens < s.relocTokens k) || !l.mainWaits)
  let s := if give then s.modLink k (fun l => { l with
      tokens := l.tokens + 1, relocTokens := if op.reloc then l.relocTokens + 1 else l.relocTokens }) else s
  s.linkQueue k { op with token := give } false

/-- A read holds the staging window that covers a block (01 R22; 14 R402). -/
def State.readHolds (s : State) (nsid lba : Nat) : Bool :=
  s.hz.entries.any (fun p => decide (8 ≤ hzBank p.1 ∧ hzBank p.1 < 12 ∧ p.2.nsid = nsid ∧ p.2.lo ≤ lba ∧ lba ≤ p.2.last
    ∧ p.2.readers ≠ 0))

/-- Release the staged copies of a verified quire: those that a read holds go when it ends (01 R21, R22; 09 R251, R261). -/
def State.blkVerified (s : State) (id q key : Nat) : State :=
  match tfind s.media.blks key with
  | none => s
  | some b =>
    let nsid := key / 2 ^ 40
    let lba := key % 2 ^ 40
    match b.staged with
    | some g =>
      let on : Option Blk :=
        if g.loc.ream = id ∧ g.loc.quire = q ∧ g.programming = true then some { b with media := some (g.ver, g.loc), native := none, mpiece := g.piece }
        else match g.flush with
          | some l => if l.ream = id ∧ l.quire = q then some { b with media := some (g.ver, l), native := some g.loc, mpiece := g.piece } else none
          | none => none
      match on with
      | some b => if s.readHolds nsid lba then s.setBlk nsid lba b else (s.stageGive g.deckle 4096).setBlk nsid lba { b with staged := none }
      | none => s
    | none => match b.native, b.media with
      | some l, some (v, _) => if l.ream = id ∧ l.quire = q then s.setBlk nsid lba { b with media := some (v, l), native := none } else s
      | _, _ => s

/-- A quire has verified (09 R251): its staging is released, its parity and pads too. -/
def State.quireDone (s : State) (id q : Nat) (r : Ream) : State :=
  let x := r.quire q
  let s := s.modReam id (fun r => { r with quires := tset r.quires q { x with verified := true, extra := 0 } })
  let s := s.stageGive r.deckle x.extra
  let s := if q = s.lastQuire r && !(decide (r.kind = 1) && r.closed) then s.reamClose id (q + 1) else s
  let s := ((s.media.blks.map Prod.fst).foldl (fun s k => s.blkVerified id q k) s).windowsRelease
  (r.entries.filterMap (fun e => e)).foldl (fun s b => s.replTry b) s

/-! ### The flush area (09 R261) -/

/-- A staged block takes a place in the flush area, from where its sheet is programmed; it leaves staging when its flush-area quire
has verified (09 R261). -/
def State.evictBlk (s : State) (key : Nat) : State :=
  match tfind s.media.blks key with
  | none => s
  | some b => match b.staged with
    | none => s
    | some g =>
      if b.onMedia || g.flush.isSome then s
      else match s.flushPlace g.deckle g.loc.cw with
        | (t, none) => t
        | (t, some l) => t.setBlk (key / 2 ^ 40) (key % 2 ^ 40) { b with staged := some { g with flush := some l } }

/-- Bytes of a deckle that leave staging with flush-area quires under way. -/
def State.leaving (s : State) (d : Nat) : Nat :=
  4096 * (s.media.blks.filter (fun p => match p.2.staged with
    | some g => decide (g.deckle = d) && g.flush.isSome
    | none => false)).length

/-- Flush-area reams that hold nothing any more are released. -/
def State.flushTrim (s : State) : State :=
  (s.media.reams.filter (fun r => decide (r.2.kind = 4 ∧ r.2.fill = slcBlocks) && s.media.blks.all (fun p => !p.2.holds r.1))).foldl
    (fun s r => s.releaseReam r.1) s

/-- Dump reams whose extents have all verified on media are erased (09 R265). -/
def State.dumpTrim (s : State) : State :=
  if s.pwr.dumping || !s.brd.released || s.mode.booting then s
  else [0, 1, 2].foldl (fun s d =>
    let held := (s.dk d).dumpHeld
    if held = 0 || s.media.blks.any (fun p => match p.2.staged with
        | some g => decide (g.deckle = d) && !g.dumpListed
        | none => false) then s
    else
      let rs := ((s.media.reams.filter (fun r => decide (r.2.kind = 5 ∧ r.2.deckle = d))).map Prod.fst).take held
      (rs.foldl (fun s r => s.releaseReam r) s).modDk d (fun x => { x with dumpHeld := 0 })) s

/-- The zone of a staged block is READ_ONLY: its data goes to the flush area (09 R253). -/
def State.inReadOnly (s : State) (key : Nat) : Bool :=
  decide ((s.zone (key / 2 ^ 40) (zoneOfLba (key % 2 ^ 40))).st = .readOnly)

/-- The partial quire of a block is written out whatever the cap: a staging drain, the third step of a dormant entry, a FLUSH with
MEDIA that covers its namespace, or a READ_ONLY zone (09 R253, R260, R261; 04 R120; 16 R439). -/
def State.evictAll (s : State) (key : Nat) : Bool :=
  s.media.draining || s.inReadOnly key || (s.pwr.phase == 1 && decide (2 ≤ s.pwr.entryStep)) ||
  s.sub.slots.any (fun p => decide (p.2.phase = .flushing) && (s.flushSet p.2 (cmdOf p.2.cmd)).contains (key / 2 ^ 40))

/-- A deckle at its effective cap with no full quire waiting (09 R261). -/
def State.evictDue (s : State) (d : Nat) : Bool :=
  decide (s.deckleCap < (s.dk d).staged + 4096) &&
  s.media.blks.all (fun p => match p.2.staged with | some g => decide (g.deckle ≠ d) || g.programming || s.quirePartial g | none => true)

/-- Keys of the blocks to evict, quire by quire, the oldest last write first. -/
def State.evictList (s : State) (d : Nat) : List Nat :=
  let l := s.media.blks.filterMap (fun p => match p.2.staged with
    | some g => if g.deckle = d && s.isPartial g then
        some (p.1, (((tfind s.media.reams g.loc.ream).map Ream.lastWrite).getD 0) * 2 ^ 32 + g.loc.ream * 2 ^ 8 + g.loc.quire)
      else none
    | none => none)
  (l.map Prod.fst).foldl (fun acc k => insBy (fun k => tget l k 0) k acc) []

/-- What was placed in a deckle's flush area is padded to a multiple of n blocks: to whole sheets (04 R120), and after the last one to
a whole quire, for only a whole quire verifies (09 R251, R261; DESIGN CHOICE, log 16). -/
def State.flushPad (s : State) (d n : Nat) : State :=
  match s.flushReam d with
  | some (id, _) => s.modReam id (fun r => { r with fill := (r.fill + (n - 1)) / n * n })
  | none => s

/-- The place of a staged block. -/
def State.stagedLoc (s : State) (key : Nat) : Option MediaLoc :=
  (tfind s.media.blks key).bind (fun b => b.staged.map Staged.loc)

/-- Evict blocks until the deckle is below 90 % of its cap, and those to be written out whatever the cap; each quire's are
padded to whole sheets (04 R120; 09 R261). -/
def State.evictRun (s : State) (d : Nat) (due : Bool) : State :=
  let step := fun (a : State × Option (Nat × Nat)) (k : Nat) =>
    if a.1.evictAll k || (due && decide (a.1.deckleCap * 9 / 10 ≤ (a.1.dk d).staged - a.1.leaving d)) then
      let q := (a.1.stagedLoc k).map (fun l => (l.ream, l.quire))
      ((if a.2 = q then a.1 else a.1.flushPad d 64).evictBlk k, q)
    else a
  ((s.evictList d).foldl step (s, none)).1.flushPad d 1984

/-! ### Reams of zones and runs, relocation (09 R250, R253–R257) -/

/-- Abandon a relocation: its target is released (09 R256). -/
def State.relocDrop (s : State) (tgt : Nat) : State :=
  ({ s with media := { s.media with relocs := s.media.relocs.filter (fun (m : Reloc) => m.tgt != tgt) } }).releaseReam tgt

/-- A power loss before the switch: the source of each relocation is valid, and its target is released (09 R256). -/
def State.relocsDrop (s : State) : State := s.media.relocs.foldl (fun s (m : Reloc) => s.relocDrop m.tgt) s

/-- A command of a zone is being staged (05 R146). -/
def State.zoneInStaging (s : State) (nsid z : Nat) : Bool := s.sub.slots.any (fun p => p.2.stages nsid z)

/-- A block of a ream without a replacement has to wait: a command of its zone is being staged, and the zone goes READ_ONLY
between two commands of its sequence (05 R146). -/
def State.goneWaits (s : State) (r : Ream) : Bool := decide (r.kind = 1) && !r.target && s.zoneInStaging r.nsid (zoneOfLba r.zslba)

/-- No replacement for a block of a ream: a refresh without its target is due again, and a random run is left to collection (09 R253,
R256). -/
def State.noReplacement (s : State) (id pos : Nat) (r : Ream) : State :=
  let s := s.ledEvent 0x2002 (leBytes 4 id ++ leBytes 1 pos)
  if r.target then
    let again := (s.media.relocs.filter (fun (m : Reloc) => m.tgt == id && m.cause == 0)).map Reloc.src
    let s := s.relocDrop id
    { s with media := { s.media with refresh := again.foldl addOnce s.media.refresh } }
  else if r.kind = 1 then
    let z := zoneOfLba r.zslba
    let st := (s.zone r.nsid z).st
    let s := if st.isOpen || decide (st = .closed) || decide (st = .full) then s.zoneReadOnly r.nsid z else s
    let ks := (s.media.blks.filter (fun p => match p.2.staged with | some g => decide (g.loc.ream = id) | none => false)).map Prod.fst
    (ks.foldl (fun s k => s.evictBlk k) s).flushPad r.deckle 1984
  else if r.kind = 2 then
    let s := s.modReam id (fun r => { r with closed := true, evac := true })
    s.modGrp r.grp (fun x => { x with
      hostRun := if x.hostRun = some id then none else x.hostRun, gcRun := if x.gcRun = some id then none else x.gcRun })
  else (s.modReam id (fun r => { r with closed := true, fill := slcBlocks })).flushAgain (fun l => decide (l.ream = id) && !(r.quire l.quire).verified)

/-- The replacement of a block: a spare on its die, else on the lowest die of its link that has one (09 R252); none on a
link whose FAULT hold is over (10 R311). -/
def State.sparePick (s : State) (b : Nat) : Option Nat :=
  let k := b / 2 ^ 20
  if (s.link k).faultOver then none
  else match s.spareOn k (b / 8192 % 128) with
  | some x => some x
  | none => (List.range 128).findSome? (fun d => s.spareOn k d)

/-- Mean erase count of some blocks, without its fraction (DESIGN CHOICE, log 89). -/
def State.meanWear (s : State) (l : List Nat) : Nat :=
  if l.isEmpty then 0 else l.foldl (fun a b => a + (s.mblk b).erases) 0 / l.length

/-- Mean erase count of a ream's blocks. The spec gives no rounding of a mean: it is cut to an integer before the spread and the lowest
source are compared (DESIGN CHOICE, log 89). -/
def State.reamWear (s : State) (r : Ream) : Nat := s.meanWear (r.entries.filterMap (fun e => e))

/-- Mean erase counts of the stamped reams of a deckle: the one that its least worn stamped free blocks would form, and the one that its
most worn ones would (09 R257; DESIGN CHOICE, log 89). -/
def State.stampedWear (s : State) (d : Nat) : List Nat :=
  [false, true].filterMap (fun most =>
    let l := s.reamBlocks d false most
    if l.any Option.isNone then none else some (s.meanWear (l.filterMap (fun e => e))))

/-- Mean erase counts of the reams of a placement group: those in use, and the stamped ones of its deckles (09 R257). -/
def State.groupWear (s : State) (g : Nat) : List Nat :=
  (s.media.reams.filter (fun r => decide (r.2.kind < 3 ∧ r.2.grp = g))).map (fun r => s.reamWear r.2) ++
  ([0, 1, 2].filter (fun d => s.inGroup g d)).flatMap s.stampedWear

/-- Spread of a group's mean erase counts (09 R257). -/
def State.wearSpread (s : State) (g : Nat) : Nat :=
  match s.groupWear g with
  | [] => 0
  | a :: r => r.foldl max a - r.foldl min a

/-- A ream may be relocated: a zone's ream or a full run, in no relocation (09 R255). -/
def State.mayMove (s : State) (id : Nat) (r : Ream) : Bool :=
  decide (r.kind < 3) && (decide (r.kind = 1) || r.closed) && !r.target &&
  s.media.relocs.all (fun (m : Reloc) => m.src != id && m.tgt != id)

/-- A FULL zone whose parity protection needs a new ream: a position of its ream can no longer be read (05 R145; 09 R256). -/
def State.needsParity (s : State) (id : Nat) (r : Ream) : Bool :=
  decide (r.kind = 1) && decide ((s.zone r.nsid (zoneOfLba r.zslba)).st = .full) &&
  (List.range 32).any (fun p => s.placeDead { ream := id, pos := p })

/-- Form the target of a relocation and record it (09 R255 step 1); cause 0 refresh, 1 wear levelling. A zone that still
needs parity protection and can get no target goes READ_ONLY (09 R256). -/
def State.relocStart (s : State) (id cause : Nat) : State :=
  match tfind s.media.reams id with
  | none => s
  | some r =>
    if !s.mayMove id r then s
    else match s.formReam r.deckle r.kind r.grp r.nsid r.zslba 0 (cause == 1) with
      | .ok t tgt =>
        let t := t.modReam tgt (fun m => { m with target := true })
        { t with media := { t.media with
          relocs := t.media.relocs ++ [{ src := id, tgt := tgt, cause := cause }], refresh := t.media.refresh.filter (· ≠ id) } }
      | .fail t => if t.needsParity id r then t.zoneReadOnly r.nsid (zoneOfLba r.zslba) else t
      | .wait t => t

/-- The source of a wear move: FULL zone or full run, lowest mean, oldest last write (09 R257). -/
def State.wearSource (s : State) (g : Nat) : Option Nat :=
  (s.media.reams.foldl (fun (b : Option (Nat × Nat × Nat)) p =>
    let full := if p.2.kind = 1 then decide ((s.zone p.2.nsid (zoneOfLba p.2.zslba)).st = .full) else p.2.closed
    if decide (p.2.grp = g) && full && s.mayMove p.1 p.2 then
      let w := s.reamWear p.2
      match b with
      | none => some (p.1, w, p.2.lastWrite)
      | some (i, v, t) => if w < v ∨ (w = v ∧ p.2.lastWrite < t) then some (p.1, w, p.2.lastWrite) else some (i, v, t)
    else b) none).map Prod.fst

/-- Wear levelling of a group: moves start where the spread exceeds `med.wl_spread`, and go on one at a time, also after a wait for a
target, until it is at most 80 % of it (09 R257). -/
def State.wearMove (s : State) (g : Nat) : State :=
  let running := s.media.relocs.any (fun (m : Reloc) => m.cause == 1 && ((tfind s.media.reams m.src).map Ream.grp) == some g)
  let on := decide ((if (s.grp g).wlOn then s.pvA pWlSpread * 8 / 10 else s.pvA pWlSpread) < s.wearSpread g)
  let s := if (s.grp g).wlOn = on then s else s.modGrp g (fun x => { x with wlOn := on })
  if running || !on then s
  else match s.wearSource g with
    | some id => s.relocStart id 1
    | none => s

/-- Change places of a ream to another one. -/
def MediaLoc.moved (l : MediaLoc) (src tgt : Nat) : MediaLoc := if l.ream = src then { l with ream := tgt } else l

/-- A block's places moved from one ream to another. -/
def Blk.moved (b : Blk) (src tgt : Nat) : Blk :=
  { staged := b.staged.map (fun g => if g.loc.ream = src then { g with loc := g.loc.moved src tgt, programming := false } else g)
    media := b.media.map (fun m => (m.1, m.2.moved src tgt))
    native := b.native.map (fun l => l.moved src tgt)
    mpiece := b.mpiece }

/-- The target's copies of a ream's blocks: one that the last rung could not read was carried as unreadable (09 R250, R256;
log 58). -/
def State.carryAll (s : State) (src : Nat) : State :=
  ((s.media.blks.filter (fun p => decide (p.2.media.map (fun m => m.2.ream) = some src))).map Prod.fst).foldl (fun s k =>
    match tfind s.media.blks k with
    | none => s
    | some b => match b.media with
      | none => s
      | some (v, l) =>
        let (s, v) := s.carry k l v
        { s with media := { s.media with blks := tset s.media.blks k { b with media := some (v, l) } } }) s

/-- QUIRES of a ream's CLOSE records, 0 where they are not programmed (09 R242). -/
def State.closedQuires (s : State) (id : Nat) : Nat :=
  match (tfind s.media.reams id).bind (fun r => (r.entries.getD 0 none).bind (fun b => (s.mblk b).close)) with
  | some (_, _, n) => n
  | none => 0

/-- Switch the mapping from the source to the target (09 R255 step 3): parity and pads still staged go with their quires, and the target
of a finished zone is closed as its source was (09 R242). -/
def State.relocSwap (s : State) (src tgt : Nat) (r : Ream) : State :=
  let s := s.carryAll src
  let open_ := r.quires.filter (fun q => !q.2.verified && decide (q.2.extra ≠ 0))
  let s := { s with
    zones := tmap s.zones (fun _ z => if z.ream = some src then { z with ream := some tgt } else z)
    media := { s.media with
      blks := tmap s.media.blks (fun _ b => b.moved src tgt)
      buns := tmap s.media.buns (fun _ b => { b with loc := b.loc.moved src tgt })
      relocs := s.media.relocs.filter (fun (m : Reloc) => m.src != src) } }
  let s := s.modReam tgt (fun m => { m with
    target := false, fill := r.fill, closed := r.closed, ownerDone := r.ownerDone, resvOf := r.resvOf, lastWrite := r.lastWrite
    quires := open_.foldl (fun t q => tmod t q.1 {} (fun x => { x with extra := q.2.extra })) m.quires })
  let s := if r.closed then s.reamClose tgt (s.closedQuires src) else s
  let s := s.modReam src (fun m => { m with resvOf := 0 })
  (s.jrec r.deckle).releaseReam src

/-! ### Collection (09 R258) -/

/-- Bundles with a block in a ream. -/
def State.validBundles (s : State) (id : Nat) : Nat :=
  (s.media.blks.foldl (fun (a : List Nat) p => if p.2.within id then addOnce a (p.1 / 16) else a) []).length

/-- A run of the group lost a block without a replacement and still holds bundles: collection empties it (09 R253). -/
def State.hasEvac (s : State) (g : Nat) : Bool :=
  s.media.reams.any (fun p => decide (p.2.kind = 2 ∧ p.2.grp = g) && p.2.evac && decide (s.validBundles p.1 ≠ 0))

/-- The full run of a group with the fewest valid bundles, the older epoch among equals; a run that lost a block without a replacement
comes first (09 R253, R258). -/
def State.gcVictim (s : State) (g : Nat) : Option Nat :=
  let evac := s.hasEvac g
  (s.media.reams.foldl (fun (b : Option (Nat × Nat × Nat)) p =>
    let v := s.validBundles p.1
    if decide (p.2.kind = 2 ∧ p.2.grp = g) && p.2.closed && s.mayMove p.1 p.2 && decide (v ≠ 0) && (p.2.evac || !evac) then
      match b with
      | none => some (p.1, v, p.2.epoch)
      | some (i, w, e) => if v < w ∨ (v = w ∧ p.2.epoch < e) then some (p.1, v, p.2.epoch) else some (i, w, e)
    else b) none).map Prod.fst

/-- A victim with no valid bundle left makes room for the next one (09 R258). -/
def State.gcSettle (s : State) (g v : Nat) : State :=
  (if s.validBundles v ≠ 0 then s else s.modGrp g (fun x => { x with victim := none })).runTrim

end Sys2Proof.Machine
end

