-- ==== Sys2Proof/Machine/DramOps.lean ====
section
/-! DEFINITION. DRAM: the address map, the symbol code, line reads and writes, error counts, rank loss and the channel
scheduler (13 R373–R388). -/

namespace Sys2Proof.Machine

/-! ### Address map (13 R373, R374) -/

/-- Channel of a physical address. -/
def paCh (a : Nat) : Nat := a / 2 ^ 7 % 8

/-- Logical rank of a physical address. -/
def paRank (a : Nat) : Nat := a / 2 ^ 22 % 4

/-- Bank group and bank, as one number 0–31, with the rank above. -/
def paBank (a : Nat) : Nat := paRank a * 32 + a / 2 ^ 17 % 32

/-- Row, ROW16 included. -/
def paRow (a : Nat) : Nat := a / 2 ^ 24 % 2 ^ 17

/-- First byte of the line that holds an address. -/
def paLine (a : Nat) : Nat := a / 128 * 128

/-- Index of a line in its rank, in ascending address order. -/
def paIdx (a : Nat) : Nat := a / 2 ^ 10 % 4096 + 4096 * paRow a

/-- The line of a channel and rank with a given index. -/
def paOf (ch rank idx : Nat) : Nat := idx / 4096 * 2 ^ 24 + rank * 2 ^ 22 + idx % 4096 * 2 ^ 10 + ch * 2 ^ 7

/-- Lines of a rank: 32 GiB or 64 GiB (13 R371). -/
def Chan.lines (c : Chan) : Nat := if c.dev32 then 2 ^ 29 else 2 ^ 28

/-- A channel. -/
def State.chan (s : State) (c : Nat) : Chan := tget s.drc.chans c {}

/-- Change a channel. -/
def State.modChan (s : State) (c : Nat) (f : Chan → Chan) : State :=
  { s with drc := { s.drc with chans := tset s.drc.chans c (f (s.chan c)) } }

/-- An address is in service (13 R373). -/
def State.paUp (s : State) (a : Nat) : Bool :=
  let c := s.chan (paCh a)
  decide (a < 2 ^ 41) && decide (c.st = 1) && c.insvc.getLsbD (paRank a) && (c.dev32 || decide (paRow a < 2 ^ 16))

/-- Physical rank that serves a line: the spare for the lines that a migration has copied (13 R374, R382). -/
def Chan.physOf (c : Chan) (rank idx : Nat) : Nat :=
  if c.migr && decide (c.migRank = rank) && decide (idx < c.ptr.toNat) then c.spare else tget c.rankMap rank rank

/-! ### Symbol code (13 R375, R376) -/

/-- Multiplication by α in GF(2^8) with 0x11D. -/
def gfDouble (a : Nat) : Nat := if 128 ≤ a then (2 * a - 256) ^^^ 0x1D else 2 * a

/-- Product in GF(2^8). -/
def gfMul (a b : Nat) : Nat :=
  ((List.range 8).foldl (fun (p : Nat × Nat) i => (if bitN b i then p.1 ^^^ p.2 else p.1, gfDouble p.2)) (0, a)).1

/-- α to a power. -/
def gfPow : Nat → Nat
  | 0 => 1
  | n + 1 => gfDouble (gfPow n)

/-- Locator of symbol i: the first symbol is the highest coefficient. PRESUMED (log 37). -/
def symLoc (i : Nat) : Nat := gfPow (19 - i)

/-- Syndrome j of a codeword's symbol errors. -/
def syndrome (e : Nat → Nat) (j : Nat) : Nat :=
  (List.range 20).foldl (fun a i => a ^^^ gfMul (e i) (gfPow (j * (19 - i)))) 0

/-- The poison pattern: the four check symbols inverted (13 R376). -/
def poisonSym (i : Nat) : Nat := if 16 ≤ i then 255 else 0

/-- What the decoder finds in a codeword: 0 CLEAN, 1 CE, 2 UE, 3 POISON, with the symbols it corrects. -/
structure CwOut where
  out : Nat
  fix : List (Nat × Nat) := []
  deriving DecidableEq, Repr

/-- Decode one codeword from its symbol errors; `mark` is the erased device of its rank (13 R376). -/
def cwDecode (e : Nat → Nat) (mark : Option Nat) : CwOut :=
  let s0 := syndrome e 0
  let s1 := syndrome e 1
  let s2 := syndrome e 2
  let s3 := syndrome e 3
  if s0 = 0 ∧ s1 = 0 ∧ s2 = 0 ∧ s3 = 0 then { out := 0 }
  else if s0 = syndrome poisonSym 0 ∧ s1 = syndrome poisonSym 1 ∧ s2 = syndrome poisonSym 2 ∧ s3 = syndrome poisonSym 3 then
    { out := 3 }
  else match mark with
    | none =>
      match (List.range 20).find? (fun i => decide (s0 ≠ 0 ∧ s1 = gfMul s0 (symLoc i) ∧ s2 = gfMul s1 (symLoc i)
          ∧ s3 = gfMul s2 (symLoc i))) with
      | some i => { out := 1, fix := [(i, s0)] }
      | none => { out := 2 }
    | some m =>
      let x := symLoc m
      let t0 := s1 ^^^ gfMul x s0
      let t1 := s2 ^^^ gfMul x s1
      let t2 := s3 ^^^ gfMul x s2
      if t0 = 0 ∧ t1 = 0 ∧ t2 = 0 then { out := 1, fix := [(m, s0)] }
      else match (List.range 20).find? (fun i => decide (i ≠ m ∧ t0 ≠ 0 ∧ t1 = gfMul t0 (symLoc i)
          ∧ t2 = gfMul t1 (symLoc i))) with
        | some i =>
          let f := ((List.range 256).find? (fun f => decide (gfMul f (symLoc i ^^^ x) = t0))).getD 0
          { out := 1, fix := if s0 ^^^ f = 0 then [(i, f)] else [(i, f), (m, s0 ^^^ f)] }
        | none => { out := 2 }

/-- What a line read finds: the worst outcome, the corrected devices, and the byte differences it delivers. -/
structure LineOut where
  out : Nat := 0
  devs : List Nat := []
  diff : Tbl Nat := []
  deriving DecidableEq, Repr

/-- Decode the eight codewords of a line (13 R376). -/
def lineDecode (errs : Tbl Nat) (mark : Option Nat) : LineOut :=
  if errs.isEmpty then {}
  else (List.range 8).foldl (fun (r : LineOut) j =>
    let e := fun i => tget errs (20 * j + i) 0
    let c := cwDecode e mark
    let left := fun i => c.fix.foldl (fun a p => if p.1 = i then a ^^^ p.2 else a) (e i)
    { out := max r.out c.out
      devs := c.fix.foldl (fun l p => addOnce l p.1) r.devs
      diff := (List.range 16).foldl (fun t i => if left i = 0 then t else tset t (16 * j + i) (left i)) r.diff }) {}

/-- The symbol errors of a poisoned line. -/
def poisonErrs : Tbl Nat :=
  (List.range 32).map (fun k => (20 * (k / 4) + 16 + k % 4, 255))

/-- Symbol errors after further symbols changed by themselves. -/
def addFlips (errs : Tbl Nat) (flips : Flips) : Tbl Nat :=
  flips.foldl (fun t p => if 160 ≤ p.1 then t else
    let v := tget t p.1 0 ^^^ (p.2 % 256)
    if v = 0 then tdel t p.1 else tset t p.1 v) errs

/-- Set a line's symbol errors; a line without any is not listed. -/
def Drc.setErrs (d : Drc) (line : Nat) (e : Tbl Nat) : Drc :=
  { d with errs := if e.isEmpty then tdel d.errs line else tset d.errs line e }

/-- Write a line as whole codewords, poisoned where asked (13 R376, R379). -/
def State.lineWrite (s : State) (line : Nat) (bytes : List Byte) (poison : Bool) : State :=
  { s with drc := ({ s.drc with mem := memWrite s.drc.mem line (padTo 128 bytes) }).setErrs line (if poison then poisonErrs else []) }

/-! ### Rank loss (13 R381–R384; 01 R21) -/

/-- Runs of successive keys. -/
def keyRuns : List Nat → List (Nat × Nat)
  | [] => []
  | k :: r => match keyRuns r with
    | (j, n) :: t => if j = k + 1 then (k, n + 1) :: t else (k, 1) :: (j, n) :: t
    | [] => [(k, 1)]

/-- Record a run of lost blocks (15 R427, code 0x3004). -/
def State.lostRecord (s : State) (run : Nat × Nat) : State :=
  s.ledEvent 0x3004 (leBytes 8 (run.1 % 2 ^ 40) ++ leBytes 4 (run.1 / 2 ^ 40) ++ leBytes 4 run.2)

/-- Staged blocks with neither copy in service are lost, with their records and one health event (13 R383). -/
def State.lossSweep (s : State) : State :=
  let ks := (s.media.blks.filter (fun p => match p.2.staged with
    | some g => !s.dramUp g.chA && !s.dramUp g.chB
    | none => false)).map Prod.fst
  if ks.isEmpty then s
  else ((keyRuns ks).foldl (fun s r => s.lostRecord r) ((ks.foldl (fun s k => s.blkLose k) s).windowsRelease)).healthEvent

/-- A new second copy from the surviving one (01 R21); with no other channel in service the pair stays single. -/
def State.copyRenew (s : State) (g : Staged) : Staged :=
  if s.dramUp g.chA && s.dramUp g.chB then g
  else if s.dramUp g.chA then { g with chB := (s.placeBut (g.chA % 8)).getD g.chB }
  else if s.dramUp g.chB then { g with chA := (s.placeBut (g.chB % 8)).getD g.chA }
  else g

/-- The copies that R21 writes again, which an idle tick gives time to (log 1). -/
def State.copiesRenew (s : State) : State :=
  if s.mode.booting || s.mode.dormant then s
  else { s with media := { s.media with blks := tmap s.media.blks (fun _ b => { b with staged := b.staged.map s.copyRenew }) } }

/-- One idle tick of 100 ns (log 1). -/
def State.idle (s : State) : State := ({ s with now := s.now + 1 }).storeTick.copiesRenew

/-- The DRAM pools after a loss: counts that the DRAM in service no longer holds go, and their buffers with them
(11 R341, 13 R383). -/
def State.vatShrink (s : State) : State :=
  let old := s.vat
  let t := s.vatBuild
  let counts := [4, 5, 6, 7].map (fun n => (n, min (tget old.counts n 0) (tget t.vat.counts n 0)))
  { s with vat := { old with
      counts := counts
      bufs := old.bufs.filter (fun p => decide (p.1 / 2 ^ 22 < 4) || decide (p.1 % 2 ^ 22 < tget counts (p.1 / 2 ^ 22) 0)) } }

/-- What follows a loss of DRAM in service (13 R383; 09 R245, R264). -/
def State.dramLoss (s : State) : State := s.lossSweep.recap.vatShrink.dramCheck

/-- Record a physical rank as out of service against its DIMM's serial number (13 R384). -/
def State.rankFail (s : State) (ch phys : Nat) : State :=
  let e := (ch, phys, (s.chan ch).serials.getD phys 0)
  if s.drc.failed.contains e then s else { s with drc := { s.drc with failed := s.drc.failed ++ [e] } }

/-- A rank leaves service at once, without migration (13 R383). -/
def State.rankOut (s : State) (ch rank : Nat) : State :=
  let c := s.chan ch
  let s := s.rankFail ch (tget c.rankMap rank rank)
  let s := s.modChan ch (fun c =>
    let m := BitVec.ofNat 4 (c.insvc.toNat - (if c.insvc.getLsbD rank then 2 ^ rank else 0))
    { c with insvc := m, st := if m = 0 then 2 else c.st })
  s.dramLoss

/-- A ledger record of a migration's start or end (13 R382; 15 R427, code 0x3002). -/
def State.migrRecord (s : State) (ch rank stage : Nat) : State :=
  s.ledEvent 0x3002 (leBytes 1 ch ++ leBytes 1 rank ++ leBytes 1 stage)

/-- Start a migration of a rank to the spare (13 R382). -/
def State.migrStart (s : State) (ch rank : Nat) : State :=
  ((s.modChan ch (fun c => { c with migr := true, migRank := rank, ptr := 0, poisoned := 0 })).migrRecord ch rank 0).healthEvent

/-- A rank leaves service: by migration where a spare is unused and none runs, else at once (13 R381–R383). A rank that
migrates already is leaving. -/
def State.rankLeave (s : State) (ch rank : Nat) : State :=
  let c := s.chan ch
  if !c.insvc.getLsbD rank || decide (c.st ≠ 1) then s
  else if c.migr && decide (c.migRank = rank) then s
  else if c.spareOk && !c.migr then s.migrStart ch rank
  else s.rankOut ch rank

/-- A device's count reaches the threshold: it is marked and its rank leaves (13 R380, R381). The mark of a rank that
migrates stays. -/
def State.devCross (s : State) (ch rank dev : Nat) : State :=
  let s := s.modChan ch (fun c => if c.migr then c
    else { c with emark := true, edev := dev, markRank := tget c.rankMap rank rank })
  s.rankLeave ch rank

/-- Count one device of a corrected line, once per line and pass (13 R380). -/
def State.devCount (s : State) (ch rank idx dev : Nat) : State :=
  let c := s.chan ch
  let key := idx * 128 + rank * 32 + dev
  if c.ceSeen.contains key then s
  else
    let n := tget c.dev (rank * 32 + dev) 0 + 1
    let s := s.modChan ch (fun c => { c with ceSeen := key :: c.ceSeen, dev := tset c.dev (rank * 32 + dev) n })
    if n = s.pvA pCeThreshold then s.devCross ch rank dev else s

/-- Count a corrected line for its rank and devices (13 R380, R390). -/
def State.ceLine (s : State) (ch rank idx : Nat) (devs : List Nat) : State :=
  let c := s.chan ch
  let first := (List.range 20).all (fun d => !c.ceSeen.contains (idx * 128 + rank * 32 + d))
  let s := if first then s.modChan ch (fun c => { c with ce := tset c.ce rank (satInc (tget c.ce rank 0)) }) else s
  devs.foldl (fun s d => s.devCount ch rank idx d) s

/-- A UE that no poisoned write explains: counted, and its rank leaves (13 R377, R381). -/
def State.ueLine (s : State) (ch rank : Nat) : State :=
  (s.modChan ch (fun c => { c with ue := satInc c.ue })).rankLeave ch rank

/-- Read and decode a line in service: what it delivers, and whether poisoned (13 R376, R377, R380). -/
def State.lineRead (s : State) (line : Nat) (flips : Flips) : List Byte × Bool × State :=
  let ch := paCh line
  let rank := paRank line
  let idx := paIdx line
  let c := s.chan ch
  let errs := addFlips (tget s.drc.errs line []) flips
  let mark := if c.emark && decide (c.physOf rank idx = c.markRank) then some c.edev else none
  let r := lineDecode errs mark
  let s := { s with drc := s.drc.setErrs line errs }
  let data := (List.range 128).map (fun k => memByte s.drc.mem (line + k) ^^^ BitVec.ofNat 8 (tget r.diff k 0))
  if r.out = 0 then (data, false, s)
  else if r.out = 1 then (data, false, s.ceLine ch rank idx r.devs)
  else if r.out = 2 then (data, true, s.ueLine ch rank)
  else (data, true, s)

/-- An access to an address not in service: refused as poisoned and counted (13 R373). -/
def State.paRefuse (s : State) (a : Nat) : State :=
  let s := s.modChan (paCh a) (fun c => { c with ue := satInc c.ue })
  { s with drc := { s.drc with lastPoison := true, lastRead := [] } }

/-! ### Channel queues and row activations (13 R386–R388) -/

/-- Pending writes of a line go to memory in their order. -/
def State.lineFlush (s : State) (line : Nat) : State :=
  let ch := paCh line
  let ws := (s.chan ch).reqs.filter (fun q => q.isWrite && decide (paLine q.addr = line))
  let s := ws.foldl (fun s q => s.lineWrite line q.bytes false) s
  s.modChan ch (fun c => { c with reqs := c.reqs.filter (fun q => !(q.isWrite && decide (paLine q.addr = line))) })

/-- Rows that a row-hammer refresh touches, inside the device (13 R387). -/
def rhNeighbours (dev32 : Bool) (row : Nat) : Nat :=
  let top := if dev32 then 2 ^ 17 else 2 ^ 16
  b2n (decide (2 ≤ row)) + b2n (decide (1 ≤ row)) + b2n (decide (row + 1 < top)) + b2n (decide (row + 2 < top))

/-- Place of the entry with the lowest count, the first of equals. -/
def rhLowest (l : List (Nat × Nat)) : Nat × Nat :=
  match l with
  | [] => (0, 0)
  | p :: r => (r.foldl (fun (b : Nat × Nat × Nat) q =>
      (b.1 + 1, if q.2 < b.2.2 then (b.1 + 1, q.2) else b.2)) (0, 0, p.2)).2

/-- A row-hammer table after an ACT: the table, and the row's count (13 R387). -/
def rhAct (l : List (Nat × Nat)) (row : Nat) : List (Nat × Nat) × Nat :=
  match l.find? (fun p => p.1 == row) with
  | some p => (l.map (fun q => if q.1 = row then (row, q.2 + 1) else q), p.2 + 1)
  | none =>
    if l.length < 16 then (l ++ [(row, 1)], 1)
    else
      let m := rhLowest l
      (l.set m.1 (row, m.2 + 1), m.2 + 1)

/-- Open a row where it is not open: the ACT is counted, and at the threshold the neighbours are refreshed and the count
starts again (13 R387). Each refreshed row counts (DEDUCED, log 38). -/
def State.activate (s : State) (a : Nat) : State :=
  let ch := paCh a
  let b := paBank a
  let row := paRow a
  let c := s.chan ch
  if tfind c.openRow b = some row then s
  else
    let (l, n) := rhAct (tget c.rows b []) row
    let hit := decide (s.pvA pRhThreshold ≤ n)
    s.modChan ch (fun c => { c with
      openRow := tset c.openRow b row
      rows := tset c.rows b (if hit then l.map (fun q => if q.1 = row then (row, 0) else q) else l)
      rhref := if hit then satAdd c.rhref (rhNeighbours c.dev32 row) else c.rhref })

/-- Age of a request in ns. -/
def State.ageNs (s : State) (q : DReq) : Nat := 100 * (s.now - q.at_)

/-- Urgency of an age under a target (13 R388). -/
def urgency (age t : Nat) : Nat := if t ≤ age then 3 else if 3 * t ≤ 4 * age then 2 else if t ≤ 2 * age then 1 else 0

/-- Urgency of a request. -/
def State.urg (s : State) (q : DReq) : Nat := urgency (s.ageNs q) (s.pv (pPortTarget q.port))

/-- Count the requests that have reached urgency 3 (13 R388, R390). -/
def State.countU3 (s : State) (ch : Nat) : State :=
  let c := s.chan ch
  let u3 := c.reqs.foldl (fun t q => if !q.u3 && decide (s.urg q = 3) then tset t q.port (satInc (tget t q.port 0)) else t) s.drc.u3
  let s := { s with drc := { s.drc with u3 := u3 } }
  s.modChan ch (fun c => { c with reqs := c.reqs.map (fun q => { q with u3 := q.u3 || decide (s.urg q = 3) }) })

/-- A bank serves in order: a read and a pending write of it address the same row (13 R386). -/
def bankInOrder (rs : List DReq) (b : Nat) : Bool :=
  rs.any (fun w => w.isWrite && decide (paBank w.addr = b) &&
    rs.any (fun q => !q.isWrite && decide (paBank q.addr = b) && decide (paRow q.addr = paRow w.addr)))

/-- A bank's write queue drains (13 R388). -/
def State.bankDrains (s : State) (rs : List DReq) (b : Nat) : Bool :=
  let ws := rs.filter (fun q => q.isWrite && decide (paBank q.addr = b))
  decide (48 ≤ ws.length) || ws.any (fun q => decide (2 ≤ s.urg q))

/-- The data that a read takes from a pending write of its line, issued before it (13 R386). -/
def forwarded (rs : List DReq) (i : Nat) (a : Nat) : Option (List Byte) :=
  (((rs.take i).filter (fun q => q.isWrite && decide (paLine q.addr = paLine a))).getLast?).map DReq.bytes

/-- The requests that a decision may serve, by place in the queue. -/
def State.servable (s : State) (rs : List DReq) : List Nat :=
  (List.range rs.length).filter (fun i => match rs[i]? with
    | none => false
    | some q =>
      let b := paBank q.addr
      let firstOfBank := !(rs.take i).any (fun p => decide (paBank p.addr = b))
      if !q.isWrite && (forwarded rs i q.addr).isSome then true
      else if bankInOrder rs b then firstOfBank
      else if q.isWrite then s.bankDrains rs b && !(rs.take i).any (fun p => decide (paLine p.addr = paLine q.addr))
      else true)

/-- Rank of a request for the decision: urgency, then row hit, then age (13 R388). -/
def State.better (s : State) (c : Chan) (a b : DReq) : Bool :=
  let hit := fun (q : DReq) => decide (tfind c.openRow (paBank q.addr) = some (paRow q.addr))
  if s.urg a ≠ s.urg b then decide (s.urg b < s.urg a)
  else if hit a ≠ hit b then hit a
  else false

/-- The request that a channel serves next. -/
def State.pickReq (s : State) (ch : Nat) : Option (Nat × DReq) :=
  let c := s.chan ch
  (s.servable c.reqs).foldl (fun best i => match c.reqs[i]? with
    | none => best
    | some q => match best with
      | none => some (i, q)
      | some (j, p) => if s.better c q p then some (i, q) else some (j, p)) none

/-! ### The merge buffer (13 R379) -/

/-- Bytes of a merge entry laid over a line. -/
def mergeOver (data : List Byte) (e : Tbl Byte) : List Byte :=
  (List.range data.length).map (fun k => match tfind e k with | some b => b | none => data.getD k 0#8)

/-- The merge entry of a line. -/
def State.mergeOf (s : State) (line : Nat) : Option (Nat × Merge) := s.drc.merge.find? (fun p => p.2.line == line)

/-- Drop a merge entry. -/
def State.mergeDrop (s : State) (k : Nat) : State := { s with drc := { s.drc with merge := tdel s.drc.merge k } }

/-- Complete a merge entry by read-modify-write: a UE or POISON line is written back poisoned, and the writes are reported
as failed. -/
def State.mergeRmw (s : State) (k : Nat) (flips : Flips) : State :=
  match tfind s.drc.merge k with
  | none => s
  | some e =>
    let s := (s.mergeDrop k).lineFlush e.line
    if !s.paUp e.line then s.paRefuse e.line
    else
      let (data, bad, s) := (s.activate e.line).lineRead e.line flips
      let s := s.lineWrite e.line (mergeOver data e.bytes) bad
      { s with drc := { s.drc with lastPoison := bad } }

/-- The oldest merge entry. -/
def oldestMerge (t : Tbl Merge) : Option Nat :=
  (t.foldl (fun (b : Option (Nat × Nat)) p => match b with
    | none => some (p.1, p.2.since)
    | some (k, a) => if p.2.since < a then some (p.1, p.2.since) else some (k, a)) none).map Prod.fst

/-- Queue a request at its channel. -/
def State.dramPush (s : State) (q : DReq) : State := s.modChan (paCh q.addr) (fun c => { c with reqs := c.reqs ++ [q] })

/-- A full-line write: it replaces a merge entry of its line. -/
def State.fullWrite (s : State) (port line : Nat) (bytes : List Byte) : State :=
  let s := match s.mergeOf line with | some (k, _) => s.mergeDrop k | none => s
  s.dramPush { port := port, addr := line, isWrite := true, bytes := bytes, at_ := s.now }

/-- Put bytes into the merge entry of a line; a full entry is written as a whole line. -/
def State.mergeInto (s : State) (k : Nat) (e : Merge) : State :=
  if e.bytes.length = 128 then (s.mergeDrop k).fullWrite e.port e.line (e.bytes.map Prod.snd)
  else { s with drc := { s.drc with merge := tset s.drc.merge k e } }

/-- A write to DRAM of part of a line, or of all of it. -/
def State.dramWrite (s : State) (port a : Nat) (bytes : List Byte) (flips : Flips) : State :=
  let line := paLine a
  if bytes.isEmpty ∨ line + 128 < a + bytes.length then s
  else if !s.paUp a then s.paRefuse a
  else if bytes.length = 128 then s.fullWrite port line bytes
  else
    let lay := fun (t : Tbl Byte) => (List.range bytes.length).foldl (fun t i => tset t (a - line + i) (bytes.getD i 0#8)) t
    match s.mergeOf line with
    | some (k, e) => s.mergeInto k { e with bytes := lay e.bytes }
    | none =>
      let s := if 64 ≤ s.drc.merge.length then
          (match oldestMerge s.drc.merge with | some k => s.mergeRmw k flips | none => s) else s
      s.mergeInto (tfree s.drc.merge 64 0) { line := line, bytes := lay [], since := s.now, port := port }

/-- A request arrives at its channel. -/
def State.dramArrive (s : State) (r : DramReq) : State :=
  if r.isWrite then s.dramWrite r.port r.addr r.bytes []
  else if s.paUp r.addr then s.dramPush { port := r.port, addr := r.addr, isWrite := false, at_ := s.now }
  else s.paRefuse r.addr

/-- Serve one request. -/
def State.dramServe (s : State) (ch i : Nat) (q : DReq) (flips : Flips) : State :=
  let line := paLine q.addr
  let c := s.chan ch
  let fwd := if q.isWrite then none else forwarded c.reqs i q.addr
  let ns := s.ageNs q
  let s := s.modChan ch (fun c => { c with reqs := c.reqs.eraseIdx i })
  let m := tget s.drc.maxlat q.port 0
  let s := { s with drc := { s.drc with maxlat := if m.toNat < ns / 16 then tset s.drc.maxlat q.port (satAdd 0#16 (ns / 16)) else s.drc.maxlat } }
  if q.isWrite then (s.activate q.addr).lineWrite line q.bytes false
  else
    let done := fun (s : State) (data : List Byte) (bad : Bool) =>
      { s with drc := { s.drc with lastPoison := bad, lastRead := match s.mergeOf line with
          | some (_, e) => mergeOver data e.bytes
          | none => data } }
    match fwd with
    | some d => done s (padTo 128 d) false
    | none =>
      if !s.paUp line then s.paRefuse line
      else
        let (data, bad, s) := (s.activate q.addr).lineRead line flips
        done s data bad

end Sys2Proof.Machine
end

