-- ==== Sys2Proof/Machine/Dram.lean ====
section
/-! DEFINITION. The DRAM rows: scheduling, narrow writes, scrubbing, migration, parity errors, retraining and row-hammer
defence (13 R379–R388). -/

namespace Sys2Proof.Machine

/-- DRAM_SCHEDULE (13 R386, R388): the requests that arrived join their queues, and the channel serves one. -/
def execDramSchedule (ch : Nat) (arrive : List DramReq) (flips : Flips) (s : State) : Host.Outcome State Fault Refusal :=
  let s := (arrive.foldl (fun s r => s.dramArrive r) s).countU3 ch
  .next (if (s.chan ch).st ≠ 1 then s
    else match s.pickReq ch with
      | none => s
      | some (i, q) => s.dramServe ch i q flips)

/-- NARROW_WRITE (13 R379). -/
def execNarrowWrite (port addr : Nat) (bytes : List Byte) (flips : Flips) (s : State) : Host.Outcome State Fault Refusal :=
  .next (s.dramWrite port addr bytes flips)

/-- MERGE_ENTRY_TIMEOUT (13 R379). -/
def execMergeEntryTimeout (entry : Nat) (flips : Flips) (s : State) : Host.Outcome State Fault Refusal :=
  .next (s.mergeRmw entry flips)

/-- Where the scrubber stands in a channel: logical rank and line. -/
def Chan.scrubAt (c : Chan) : Nat × Nat := (c.scrub / c.lines, c.scrub % c.lines)

/-- The scrubber reads this rank: in service and not migrating (13 R380, R385). -/
def Chan.scrubs (c : Chan) (rank : Nat) : Bool :=
  c.insvc.getLsbD rank && !(c.migr && decide (c.migRank = rank))

/-- The scrubber's place after a line or a skipped rank; a new pass starts its counts again (13 R380). -/
def Chan.scrubTo (c : Chan) (p : Nat) : Chan :=
  if 4 * c.lines ≤ p then { c with scrub := 0, ce := [], dev := [], ceSeen := [] } else { c with scrub := p }

/-- SCRUB_LINE (13 R380): one line of the pass, ranks that the scrubber skips left out. -/
def execScrubLine (ch : Nat) (flips : Flips) (s : State) : Host.Outcome State Fault Refusal :=
  let c := s.chan ch
  .next (if c.st ≠ 1 then s
    else
      let (rank, idx) := c.scrubAt
      if !c.scrubs rank then s.modChan ch (fun c => c.scrubTo ((rank + 1) * c.lines))
      else
        let s := (s.lineRead (paOf ch rank idx) flips).2.2
        s.modChan ch (fun c => c.scrubTo (rank * c.lines + idx + 1)))

/-- RANK_MIGRATION_LINE (13 R382): the next line is copied; a UE or POISON line is written poisoned and counted. -/
def execRankMigrationLine (ch : Nat) (flips : Flips) (s : State) : Host.Outcome State Fault Refusal :=
  let c := s.chan ch
  .next (if !c.migr ∨ c.st ≠ 1 ∨ c.lines ≤ c.ptr.toNat then s
    else
      let line := paOf ch c.migRank c.ptr.toNat
      let (data, bad, s) := s.lineRead line flips
      let s := s.lineWrite line data bad
      s.modChan ch (fun c => { c with ptr := c.ptr + 1, poisoned := if bad then satInc c.poisoned else c.poisoned }))

/-- RANK_MIGRATION_DONE (13 R382, R384). -/
def execRankMigrationDone (ch : Nat) (s : State) : Host.Outcome State Fault Refusal :=
  let c := s.chan ch
  .next (if !c.migr ∨ c.ptr.toNat < c.lines then s
    else
      let s := s.rankFail ch (tget c.rankMap c.migRank c.migRank)
      let s := s.modChan ch (fun c => { c with migr := false, spareOk := false, rankMap := tset c.rankMap c.migRank c.spare })
      s.migrRecord ch c.migRank 1)

/-- CAPAR_ERROR (13 R381): counted, once more where the retry fails too; over the limit within 1 s the rank leaves. -/
def execCaparError (ch rank : Nat) (again : Bool) (s : State) : Host.Outcome State Fault Refusal :=
  let c := s.chan ch
  .next (if c.st ≠ 1 ∨ 4 ≤ rank then s
    else
      let n := if again then 2 else 1
      let w := match tfind c.caparWin rank with
        | some (k, t) => if s.now - t ≤ 10000000 then (k + n, t) else (n, s.now)
        | none => (n, s.now)
      let s := s.modChan ch (fun c => { c with capar := satAdd c.capar n, caparWin := tset c.caparWin rank w })
      if s.pvA pCaparLimit < w.1 then (s.modChan ch (fun c => { c with caparWin := tdel c.caparWin rank })).rankLeave ch rank else s)

/-- The channel whose turn it is to be retrained (13 R385). -/
def State.trainTurn (s : State) : Option Nat :=
  ((List.range 8).map (fun i => (s.drc.nextTrain + i) % 8)).find? (fun c => decide ((s.chan c).st = 1))

/-- A channel fenced after its last failed retrain (13 R385). -/
def State.chanFence (s : State) (ch : Nat) : State :=
  let c := s.chan ch
  let s := (ranksOf c.present.toNat).foldl (fun s p => s.rankFail ch p) s
  let s := s.modChan ch (fun c => { c with st := 2, insvc := 0, migr := false, spareOk := false, retryAt := none })
  (s.dramLoss).ledEvent 0x3003 (leBytes 1 ch)

/-- A channel's retrain succeeded: RTFAIL counts consecutive failures. -/
def Chan.trained (c : Chan) : Chan := { c with rtfail := 0, retryAt := none }

/-- DRAM_RETRAIN (13 R385): the channels take turns; a failure keeps the previous setting and is tried again. -/
def execDramRetrain (ch : Nat) (ok : Bool) (s : State) : Host.Outcome State Fault Refusal :=
  .next (if s.trainTurn ≠ some ch ∨ (s.chan ch).retryAt.isSome then s
    else
      let s := { s with drc := { s.drc with nextTrain := (ch + 1) % 8 } }
      s.modChan ch (fun c => if ok then c.trained else { c with rtfail := 1, retryAt := some s.now }))

/-- DRAM_RETRAIN_RETRY (13 R385): up to 3 retries; the third failure of a retry fences the channel. -/
def execDramRetrainRetry (ch : Nat) (ok : Bool) (s : State) : Host.Outcome State Fault Refusal :=
  let c := s.chan ch
  .next (if c.st ≠ 1 ∨ c.retryAt.isNone then s
    else if ok then s.modChan ch Chan.trained
    else if c.rtfail = 3 then s.chanFence ch
    else s.modChan ch (fun c => { c with rtfail := satInc c.rtfail, retryAt := some s.now }))

/-- RH_WINDOW_CLEAR (13 R387). -/
def execRhWindowClear (ch : Nat) (s : State) : Host.Outcome State Fault Refusal :=
  .next (s.modChan ch (fun c => { c with rows := [] }))

/-- RFM_REQUEST (13 R387). -/
def execRfmRequest (ch : Nat) (s : State) : Host.Outcome State Fault Refusal :=
  .next (if (s.chan ch).st ≠ 1 then s else s.modChan ch (fun c => { c with rfm := satInc c.rfm }))

end Sys2Proof.Machine
end

