-- ==== Sys2Proof/Machine/PowerRun.lean ====
section
/-! DEFINITION. Dormant states: the steps of an entry, the commit, wake events, exits and their retries, the steep patrol
(01 R16; 02 R61; 16 R438–R447). -/

namespace Sys2Proof.Machine

/-! ### Power rails and links -/

/-- A media link is in ACTIVE. -/
def Link.isActive (l : Link) : Bool := decide (l.st = 4) && !l.idle

/-- PARK of a scope on every active link whose hub is not lost: 1 ERASE, 2 FULL (10 R299, R308, R313; 09 R262). -/
def State.parkAll (s : State) (scope : Nat) : State :=
  (List.range 96).foldl (fun s k =>
    if (s.link k).isActive && !(s.link k).lost then
      (s.modLink k (fun l => { l with parkAsked := scope, parkDone := false })).sendMgmt k 0x13 16 [0, scope]
    else s) s

/-- No tag is outstanding on a link (10 R313). -/
def State.tagsEmpty (s : State) : Bool := s.links.all (fun p => p.2.tags.isEmpty)

/-- Every PARK asked for has its reply. -/
def State.parkedAll (s : State) : Bool := s.links.all (fun p => decide (p.2.parkAsked = 0) || p.2.parkDone || !inR 4 5 p.2.st.toNat)

/-- EIOS on every link that is parked; any other goes DOWN, but for FAULT (10 R313). -/
def State.silenceAll (s : State) : State :=
  (s.links.map Prod.fst).foldl (fun s k =>
    let l := s.link k
    if l.st = 6 then s
    else if l.st = 5 then (s.modLink k (fun l => { l with idle := true, parkAsked := 0 })).emit (.link k kindEios [])
    else s.modLink k (fun l => { l.unwire with st := 0, bring := 0, parkAsked := 0 })) s

/-! ### Entry (16 R439, R440) -/

/-- Every link group that is up goes down (16 R439 step 7, PS5; 02 R59). -/
def State.groupsDown (s : State) : State :=
  (List.range s.nPf).foldl (fun s p => if (s.port p).up then (s.groupDown p).groupSettle p else s) s

/-- The step of an entry that comes next, when its conditions hold (16 R439). -/
def State.entryAdvance (s : State) : State :=
  let at_ := fun (s : State) (n : Nat) => { s with pwr := { s.pwr with entryStep := n } }
  match s.pwr.entryStep with
  | 1 => at_ s 2
  | 2 => if s.sub.slots.isEmpty then at_ s 3 else s
  | 3 => if s.stagingEmpty && s.journalsDone && s.tagsEmpty then at_ (s.parkAll 2) 4 else s
  | 4 => if s.parkedAll then at_ s.silenceAll 5 else s
  | 5 => at_ s 6
  | 6 => at_ s 7
  | 7 => at_ (if s.pwr.goal = 5 then s.groupsDown else s) 8
  | _ => s

/-- DORMANT_ENTRY (16 R439): one step at a time. -/
def execDormantEntry (s : State) : Host.Outcome State Fault Refusal :=
  .next (if s.pwr.phase = 1 ∧ s.pwr.pfailLow = false then s.entryAdvance else s)

/-- The RTC alarm matches (16 R442 code 1); never without an oscillation (17 R471). -/
def State.alarmDue (s : State) : Bool := s.pwr.armed && !s.brd.noRtc && decide (s.pwr.alarm.toNat ≤ s.rtc)

/-- Power is off: the state is entered, and what is present as a level ends it at once (16 R439 step 9, R440). -/
def State.dormantNow (s : State) : State :=
  let s := { s with pwr := { s.pwr with cur := s.pwr.goal, phase := 0, entryStep := 0 } }
  let s := s.railsSwitch false
  let s := if s.pwr.goal = 5 then s.railPcie false else s
  match s.pwr.heldWake with
  | some c => s.beginExit c
  | none => if s.alarmDue then s.beginExit 1 else s

/-- DORMANT_COMMIT (16 R439 steps 8 and 9, R440): the commit, then the opening of the entry window, then its end. -/
def execDormantCommit (s : State) : Host.Outcome State Fault Refusal :=
  .next (if s.pwr.phase = 1 ∧ s.pwr.entryStep = 8 then
      { s with pwr := { s.pwr with phase := 2, target := s.pwr.goal, entryStep := 9 } }
    else if s.pwr.phase = 2 then
      (if s.pwr.entryStep = 9 then { s with pwr := { s.pwr with entryStep := 10 } } else s.dormantNow)
    else s)

/-! ### Wake events (16 R440–R442, R445) -/

/-- WAKE_EVENT (16 R442): sources 1 to 3, 5 and 6. The alarm acts only when it matches; source 4 is the patrol's, 7 the
latched request's, 8 the restart of PERST#. -/
def execWakeEvent (code : Nat) (s : State) : Host.Outcome State Fault Refusal :=
  .next (if code = 1 then (if s.alarmDue then s.wake 1 else s)
    else if code = 2 ∨ code = 3 ∨ code = 5 ∨ code = 6 then s.wake code
    else s)

/-- FN_STATUS as the shadow of a dormant state shows it (02 R61). -/
def shadowStatus (pstate : Nat) : Nat := 2 * 5 + 2 ^ 16 * pstate

/-! ### D3hot (02 R62; 16 R438, R445) -/

/-- Every PF of the groups that are up is in D3hot with L1.2 enabled. -/
def State.allD3 (s : State) : Bool :=
  let up := (List.range s.nPf).filter (fun p => (s.port p).up)
  !up.isEmpty && up.all (fun p => (s.fn p).d3 && (s.fn p).l12)

/-- PF_D3HOT (16 R438, R445). -/
def execPfD3hot (p : Nat) (l12 : Bool) (s : State) : Host.Outcome State Fault Refusal :=
  .next (if !s.isPf p || !s.reach p then s
    else
      let s := s.modFn p (fun f => { f with d3 := true, l12 := l12 })
      if !s.allD3 then s
      else if s.pwr.phase = 3 then { s with pwr := { s.pwr with next := some 3 } }
      else if s.mode.dormant then s
      else s.askDormant 3)

/-- PF_D0_RETURN (16 R438, R441, R445): the wake source that it is recorded as is not stated (log 11). -/
def execPfD0Return (p : Nat) (s : State) : Host.Outcome State Fault Refusal :=
  .next (if !s.isPf p then s
    else
      let s := s.modFn p (fun f => { f with d3 := false })
      if !s.mode.dormant then s.wake 0
      else if s.pwr.phase = 3 then { s with pwr := { s.pwr with next := none } }
      else if s.pwr.phase = 1 then
        let (v, s) := s.fresh
        s.wake (v.toNat % 16)
      else s)

/-- PS2_IDLE_GATE (16 R437): every brew core idles, so no command stands in a landing FIFO. -/
def execPs2IdleGate (s : State) : Host.Outcome State Fault Refusal :=
  .next (if s.mode.dormant || s.mode.booting || decide (3 ≤ s.pwr.cur.toNat) || s.sub.landing.any (fun p => !p.2.isEmpty) then s
    else { s with pwr := { s.pwr with gated := true } })

/-! ### Exit (16 R443–R446) -/

/-- An exit that ends with READY: MODE returns under 01 R15, every function gets a mode event, and what waited is served. -/
def State.exitDone (s : State) : State :=
  let s := { s with
    pwr := { s.pwr with cur := 0, phase := 0, goal := 0, gated := false }
    mode := { s.mode with dormant := false } }
  s.faultClear.modeEvent.wakeTail

/-- Channels that do not come out of self-refresh are fenced (13 R378, R384). -/
def State.dramWake (s : State) (l : List Nat) : State := l.foldl (fun s c => s.chanFence c) s

/-- The boot of an exit from PS3 or PS4: the retained image restarts if its resume tag and the retention supplies held; else
the ROM verifies as at a start (16 R443). -/
def State.exitBoot (s : State) (kind : Nat) (kept : Bool) : State :=
  if kept then { s with pwr := { s.pwr with kind := kind }, led := { s.led with boot := s.led.boot + 1, bootSealed := false } }
  else s.bootRom kind

/-- Exit from PS3 and PS4. A ROM that halts leaves the controller in BOOT. -/
def State.exitShort (s : State) (kept : Bool) (facts : BootFacts) : State :=
  let s := (s.exitBoot (1 + s.pwr.cur.toNat) kept).dramWake facts.chansFail
  let s := (s.calRestart.linksWake).bootRecords
  if s.fst.halt then ({ s with mode := { s.mode with dormant := false, booting := true } }).modeEvent
  else if kept then s.exitDone
  else
    let s := { s with pwr := { s.pwr with cur := 0, goal := 0 }, mode := { s.mode with dormant := false } }
    s.modeEvent.resumeSanitize

/-- Settings at the exit from PS5: restored from the retention region, or K-class defaults and the profile in force; what
only PERST# or power-on applies stays as it is (02 R32, R39; 06 R480; 16 R444, R459). -/
def State.warmSettings (s : State) (ret : Bool) : State :=
  if ret then s
  else
    let live := tset (pVals ((s.profCopy s.par.loaded).getD {}).values) pProfileLock s.par.lock
    ({ s with
      par := { s.par with live := live }
      media := { s.media with plp := decide (pval live pPlp = 1), holdup := pval live pHoldup } }).kBlocks

/-- Exit from PS5: a warm boot without fill and without straps, K-class counters restored with the settings; READY follows as
firmware sets it (16 R444, R458, R459). -/
def State.exitWarm (s : State) (ret : Bool) (facts : BootFacts) : State :=
  let s := ((s.warmSettings ret).hzRestart).vBlocks
  let s := { s with
    sub := { ccStall := s.sub.ccStall }
    ldp := { s.ldp with jobs := [] }
    cip := { s.cip with lanes := tmap s.cip.lanes (fun _ l => { l with inside := [], queue := [] }) }
    pwr := { s.pwr with cur := 0, goal := 0 }
    mode := { s.mode with dormant := false } }
  let s := (s.dramWake facts.chansFail).sizeUp
  let s := (s.calRestart.linksWake).bootRom 6
  let s := s.bootRecords.bootRelease
  if s.fst.halt then s.modeEvent else s.modeEvent.resumeSanitize

/-- DORMANT_EXIT (16 R441, R443, R444): the power-goods and locks are there; an entry that was abandoned leaves from the
point it had reached. -/
def execDormantExit (tagOk retOk : Bool) (facts : BootFacts) (s : State) : Host.Outcome State Fault Refusal :=
  .next (if s.pwr.phase ≠ 3 ∨ s.pwr.retryWait = true ∨ s.pwr.stuck = true ∨ s.mode.dormant = false then s
    else if s.pwr.cur.toNat < 3 then s.linksWake.exitDone
    else if s.pwr.cur = 5 then s.exitWarm retOk facts
    else s.exitShort (tagOk && retOk) facts)

/-- Rails are being brought up: an exit from a dormant state, or step 6 of the power-up (16 R446; 17 R467, R469). -/
def State.railsRising (s : State) : Bool :=
  !s.pwr.stuck && !s.pwr.retryWait &&
  ((s.pwr.phase == 3 && decide (3 ≤ s.pwr.cur.toNat)) || (s.brd.pwrgd && !s.brd.released && !s.pwr.afterDump))

/-- WAKE_POWER_GOOD_TIMEOUT (16 R446; 17 R469): cause 0 power-good, 1 PLL; after 3 retries the controller stays as it is. -/
def execWakePowerGoodTimeout (cause id : Nat) (s : State) : Host.Outcome State Fault Refusal :=
  .next (if !s.railsRising then s
    else
      let s := s.railsSwitch false
      let s := { s with pwr := { s.pwr with fstate := s.pwr.cur, fcause := decide (cause = 1), fid := BitVec.ofNat 8 id,
                                            ftime := BitVec.ofNat 48 s.rtc } }
      if s.pwr.retries = 3 then
        { s with pwr := { s.pwr with fault := true, stuck := true, phase := 0 }, brd := { s.brd with faultN := true } }
      else { s with pwr := { s.pwr with retries := s.pwr.retries + 1, retryWait := true } })

/-- WAKE_RETRY (16 R446). -/
def execWakeRetry (s : State) : Host.Outcome State Fault Refusal :=
  .next (if s.pwr.retryWait then ({ s with pwr := { s.pwr with retryWait := false } }).railsSwitch true else s)

/-! ### Steep (16 R447) -/

/-- A hub's breach: 1 temperature, 2 alert, 3 silent. -/
def State.hubBreach (s : State) (hubs : List HubSteep) (k : Nat) : Nat :=
  match hubs.find? (fun h => h.link == k) with
  | none => 3
  | some h => if h.temps.any (fun t => decide ((s.pvA pSteepHub : Int) ≤ t)) then 1 else if h.alert ≠ 0 then 2 else 0

/-- Fault bits of STATUS_WORD (17 R463). -/
def railFault (status : Nat) : Bool := decide (status % 65536 ≠ 0)

/-- A PMBus device's breach: 4 voltage, 5 status. -/
def State.railBreach (s : State) (r : RailSteep) : Nat :=
  let d := if r.vout < r.cmd then r.cmd - r.vout else r.vout - r.cmd
  if r.cmd * s.pvA pSteepRail < 100 * d then 4 else if railFault r.status then 5 else 0

/-- The first breach of a patrol, hubs before rails and lower numbers first: kind and index. -/
def State.firstBreach (s : State) (hubs : List HubSteep) (rails : List RailSteep) : Option (Nat × Nat) :=
  let hs := (List.range 96).map (fun k => (s.hubBreach hubs k, k))
  let rs := ((List.range 8).filter (fun i => s.pv (pPmbus i) ≠ 0xFF)).filterMap (fun i =>
    (rails.find? (fun r => r.dev == i)).map (fun r => (s.railBreach r, i)))
  (hs ++ rs).find? (fun p => decide (p.1 ≠ 0))

/-- The readings of a patrol: indices 0x20 to 0x2A of every hub, twice of one that does not answer, and three commands of each
PMBus device (10 R315; 16 R447). -/
def State.patrolReads (s : State) (hubs : List HubSteep) : State :=
  let s := (List.range 96).foldl (fun s k =>
    let o := Output.sideband (k / 24) (hubAddr k) 0x20 none 11
    if hubs.any (fun h => h.link == k) then s.emit o else (s.emit o).emit o) s
  ((List.range 8).filter (fun i => s.pv (pPmbus i) ≠ 0xFF)).foldl (fun s i =>
    [0x8B, 0x21, 0x79].foldl (fun s c => s.emit (.pmbus (s.pv (pPmbus i)) c 0)) s) s

/-- STEEP_PATROL (16 R447). -/
def execSteepPatrol (hubs : List HubSteep) (rails : List RailSteep) (s : State) : Host.Outcome State Fault Refusal :=
  .next (if s.pwr.cur ≠ 4 ∨ s.pwr.phase ≠ 0 ∨ s.pwr.stuck = true then s
    else
      let s := { s.patrolReads hubs with pwr := { s.pwr with patrols := s.pwr.patrols + 1 } }
      match s.firstBreach hubs rails with
      | none => s
      | some (kind, i) =>
        ({ s with pwr := { s.pwr with breach := BitVec.ofNat 4 kind, bidx := BitVec.ofNat 8 i } }).wake 4)

end Sys2Proof.Machine
end

