-- ==== Sys2Proof/Machine/Board.lean ====
section
/-! DEFINITION. The board: PFAIL# and the dump, PWRGD, THERMTRIP#, VDD_AON, clocks and crossings, PMBus (08 R233–R237; 09
R262–R266; 16 R451–R457; 17 R463–R478). -/

namespace Sys2Proof.Machine

/-! ### Outcomes of a power loss (08 R233–R237) -/

/-- RESULT of a tag's entry with 0x304 (08 R225, R234): an abort status that was fixed keeps its fields, a real status is
kept only as OUTCOME 1, also where a success changed nothing (DESIGN CHOICE, log 76). -/
def powerOutcome (x : Slot) (zoned : Bool) : BitVec 64 :=
  let c := cmdOf x.cmd
  if x.phase ≠ .fixed then outcomeFields x zoned
  else if inR 0x300 0x305 x.status then x.result
  else if opWrite c.opc then (if x.allDurable zoned then outcomeFields x zoned else 0)
  else if (c.opc = 5 ∨ c.opc = 7) ∧ x.status = 0 then 1
  else 0

/-- The outcome table as the entries that it becomes (08 R233, R234). -/
def State.outcomeTable (s : State) : List OutEntry :=
  s.sub.slots.map (fun p => { outEntry p.2 with status := 0x304, result := powerOutcome p.2 (s.cmdZoned p.2) })

/-- The entry that stands for every tag of a function (08 R236): TAGINV, SEQINV and WHOLE. -/
def wholeEntry (g : Nat) : OutEntry := { tag := 0, qid := 0, status := 0x304, seq := 0, result := 0, flags := 14, gfn := g }

/-- Dump reams that a number of staged bytes takes, 8 at a time (09 R263). -/
def dumpTakes (bytes : Nat) : Nat := 8 * ((bytes + 8 * 520093696 - 1) / (8 * 520093696))

/-- Staged bytes of a deckle that stand in no earlier dump, one copy of each (09 R262, R265). -/
def State.toDump (s : State) (d : Nat) : Nat :=
  4096 * (s.media.blks.filter (fun p => match p.2.staged with
    | some g => decide (g.deckle = d) && g.dumpListed
    | none => false)).length

/-- The dump starts (09 R262): no step goes on, the outcome table is written first where the hold-up lasts, and the staged
extents take dump reams. -/
def State.dumpStart (s : State) (complete : Bool) : State :=
  let s := { s with
    media := { s.media with dump := if complete then some s.outcomeTable else none }
    pwr := { s.pwr with dumping := true } }
  let s := [0, 1, 2].foldl (fun (s : State) d =>
    let n := min (s.dk d).dumpReady (dumpTakes (s.toDump d))
    s.modDk d (fun x => { x with dumpReady := x.dumpReady - n, dumpHeld := x.dumpHeld + n })) s
  { s with sub := {} }

/-- Staged blocks of a key range that no earlier dump holds. -/
def State.atRisk (s : State) (lo hi : Nat) : List Nat :=
  (s.media.blks.filter (fun p => decide (lo ≤ p.1 ∧ p.1 < hi) && (match p.2.staged with
    | some g => g.dumpListed
    | none => false))).map Prod.fst

/-- Nothing is in flight, and nothing is staged that no dump holds. -/
def State.nothingAtRisk (s : State) : Bool := s.sub.slots.isEmpty && (s.atRisk 0 (2 ^ 80)).isEmpty

/-- The controller holds itself in reset for want of power or after a dump, and has nothing to save; PERST# alone leaves the staged data
in DRAM (09 R262; 17 R469). -/
def State.heldInReset (s : State) : Bool := !s.brd.released && (s.pwr.afterDump || s.pwr.powerOn || !s.brd.perstLow)

/-- PFAIL_SAMPLED (08 R232, R233, R235–R237; 09 R262; 15 R409; 16 R439; 17 R469, R473). Before READY there is a dump only
where a reset has left tags or staged data at risk (log 41). -/
def execPfailSampled (complete : Bool) (s : State) : Host.Outcome State Fault Refusal :=
  .next (if s.pwr.pfailLow then s
    else
      let s := ({ s with pwr := { s.pwr with pfailLow := true }, cal := { s.cal with halted := true } }).storeCut
      if s.heldInReset || s.pwr.phase == 2 || decide (3 ≤ s.pwr.cur.toNat) then s
      else
        let s := if s.pvA pMedPfail ≠ 0 then s.parkAll 1 else s
        if !s.media.plp || (s.mode.booting && s.nothingAtRisk) then s else s.dumpStart complete)

/-- DUMP_END (09 R262 step 6; 17 R469): the controller then holds itself in reset; a PERST# that was held off takes effect. -/
def execDumpEnd (s : State) : Host.Outcome State Fault Refusal :=
  .next (if !s.pwr.dumping then s
    else
      let s := s.parkAll 2
      { s with
        pwr := { s.pwr with dumping := false, afterDump := true }
        mode := { s.mode with booting := true }
        brd := { s.brd with released := false, perstLow := s.brd.perstLow || s.brd.perstHeld, perstHeld := false } })

/-- PFAIL_RETURN_HIGH (17 R469): a dump runs to its end; where none runs, parked hubs go on. -/
def execPfailReturnHigh (s : State) : Host.Outcome State Fault Refusal :=
  .next (if !s.pwr.pfailLow then s
    else
      let s := { s with pwr := { s.pwr with pfailLow := false } }
      if s.pwr.dumping || s.pwr.afterDump || !s.brd.released then s
      else
        let s := (s.links.map Prod.fst).foldl (fun s k =>
          if (s.link k).parkAsked = 1 then (s.modLink k (fun l => { l with parkAsked := 0 })).sendUnpark k else s) s
        s.storePump)

/-! ### Power-on reset (17 R467, R469, R478; 16 R458, R459) -/

/-- A staged block's program had finished when power went. -/
def State.blkKeep (s : State) (key : Nat) : State :=
  match tfind s.media.blks key with
  | none => s
  | some b => match b.staged with
    | none => s
    | some g =>
      let b : Blk := { staged := none, media := some (g.ver, g.loc), mpiece := g.piece }
      { s with media := { s.media with blks := tset s.media.blks key b } }

/-- A staged block is gone: the version on media, if any, is found again. -/
def State.blkRevert (s : State) (key : Nat) : State :=
  match tfind s.media.blks key with
  | none => s
  | some b => s.setBlk (key / 2 ^ 40) (key % 2 ^ 40) { b with staged := none }

/-- The piece that a block's current version belongs to. -/
def Blk.pieceNo (b : Blk) : Nat := match b.staged with | some g => g.piece | none => b.mpiece

/-- Places at which a zone's pieces end, from the piece that block `w0` belongs to: its start, and every later end (04 R130,
R132). A piece has at most 64 blocks. -/
def State.pieceCuts (s : State) (nsid z w0 wp : Nat) : List Nat :=
  let no := fun (j : Nat) => (s.blk nsid (zslba z + j)).pieceNo
  let cut := fun (j : Nat) => decide (j = 0) || decide (no (j - 1) ≠ no j)
  let start := (((List.range 64).map (fun i => w0 - i)).find? cut).getD w0
  (((List.range (wp - start)).map (· + start)).filter cut) ++ [wp]

/-- A zone keeps a prefix of the pieces that were staged: which one power left is free (04 R130, R132; 05 R147; 08 R236; log
17). A FULL zone keeps its pointer, and what it lost reads as lost. -/
def State.zonePrefix (s : State) (nsid z : Nat) : State :=
  let lo := bkey nsid (zslba z)
  match s.atRisk lo (lo + zspan) with
  | [] => s
  | k :: r =>
    let x := s.zone nsid z
    let cuts := s.pieceCuts nsid z (k - lo) x.wp
    let (v, s) := s.fresh
    let wp := cuts.getD (v.toNat % cuts.length) x.wp
    let s := (k :: r).foldl (fun s k => if k - lo < wp then s.blkKeep k else s) s
    if x.st.active then
      (s.dropRange nsid (zslba z + wp) (zslba (z + 1))).modZone nsid z (fun x => { x with wp := wp })
    else (k :: r).foldl (fun s k => s.blkLose k) s

/-- A part of a piece stands on media as its block's newest version, so that the whole piece does. -/
def State.partOn (s : State) (p : Nat) : Bool := s.media.blks.any (fun b => b.2.staged.isNone && decide (b.2.mpiece = p))

/-- Pieces whose staged versions the staged blocks of a piece replaced. -/
def State.pieceOver (s : State) (ks : List Nat) : List Nat :=
  ks.foldl (fun a k => match (tfind s.media.blks k).bind Blk.staged with
    | some g => g.laidOver.foldl addOnce a
    | none => a) []

/-- Of staged pieces, oldest first, those that have to stay: a part of them stands on media, or they replaced in staging a part of a
piece that has to stay or stands there (04 R130). -/
def State.piecesOn (s : State) (ps : List (Nat × List Nat)) : List Nat :=
  ps.foldl (fun a p => if s.partOn p.1 || (s.pieceOver p.2).any (fun q => a.contains q || s.partOn q) then p.1 :: a else a) []

/-- The staged blocks of one piece stay or go together, which is free; one of which a part was replaced by a piece that goes, goes with
it (04 R130; 08 R236; log 17). `on`: the pieces that have to stay; `out`: what the pieces that have gone replaced. -/
def State.pieceChance (s : State) (on out : List Nat) (p : Nat) (ks : List Nat) : State × List Nat :=
  let (v, s) := s.fresh
  let stays := on.contains p || (v.getLsbD 0 && !out.contains p)
  (ks.foldl (fun s k => if stays then s.blkKeep k else s.blkRevert k) s, if stays then out else s.pieceOver ks ++ out)

/-- Staging that no dump holds is lost, piece by piece; what a read held stands on media already (08 R235, R236; 04 R130,
R132, R133; 01 R22). -/
def State.stagingLost (s : State) : State :=
  let s := ((s.media.blks.filter (fun p => p.2.staged.isSome && p.2.onMedia)).map Prod.fst).foldl (fun s k => s.blkRevert k) s
  let s := s.zones.foldl (fun s p => s.zonePrefix (p.1 / 2 ^ 21) (p.1 % 2 ^ 21)) s
  let l := (s.atRisk 0 (2 ^ 80)).map (fun k => (k, ((tfind s.media.blks k).map Blk.pieceNo).getD 0))
  let ps := ((l.foldl (fun a p => addOnce a p.2) []).foldl (fun a p => insBy id p a) []).map (fun p =>
    (p, (l.filter (fun q => decide (q.2 = p))).map Prod.fst))
  let on := s.piecesOn ps
  (ps.reverse.foldl (fun a p => a.1.pieceChance on a.2 p.1 p.2) (s, [])).1.windowsRelease

/-- Staged bytes counted again. -/
def State.stagedCount (s : State) : State :=
  [0, 1, 2].foldl (fun (s : State) d =>
    let b := (s.media.blks.filter (fun p => match p.2.staged with | some g => decide (g.deckle = d) | none => false)).length
    let e := s.media.reams.foldl (fun a r => if r.2.deckle = d then r.2.quires.foldl (fun a q => a + q.2.extra) a else a) 0
    s.modDk d (fun x => { x with staged := 4096 * b + e, jprog := x.jbuf })) s

/-- Zones as a power loss leaves them (05 R147). -/
def State.zonesRestore (s : State) : State :=
  s.zones.foldl (fun s p =>
    let nsid := p.1 / 2 ^ 21
    let z := p.1 % 2 ^ 21
    let s := s.modZone nsid z (fun x => { x with pend := 0 })
    let x := s.zone nsid z
    if !x.st.active then s
    else if x.wp = 0 then s.zoneEmpty nsid z
    else if x.st.isOpen then s.zoneSet nsid z .closed
    else s) s

/-- The ledger when power goes: a record under way leaves a torn slot; the stages travel in a dump, else they are lost, and
LOSTSTAGE follows from a torn slot at the head or the FREEZE cell (15 R422, R429). -/
def State.ledgerCut (s : State) (kept : Bool) : State :=
  let stage := match s.led.prog with | some e => e :: s.led.stage | none => s.led.stage
  let rec_ := match s.led.prog with | some e => !(s.led.matchesHead e && decide (s.led.reps < 32)) | none => false
  let s := match s.led.prog with | some e => if rec_ then s.ledTorn e else s | none => s
  { s with led := { s.led with
      prog := none, torn := 0, stage := if kept then stage else [], fstage := if kept then s.led.fstage else []
      fdrops := if kept then s.led.fdrops else [], fdropTotal := if kept then s.led.fdropTotal else 0
      lost := !kept && (rec_ || s.fst.freezeCell)
      tokens := [], drops := [], dropTotal := 0, dropCnt := 0, nonce := none, bootSealed := false } }

/-- The store when power goes: an erase under way is cut, and its flag cells stay as they are (15 R409, R411). -/
def State.storeLost (s : State) : State :=
  let q := match s.fst.erasing with | some k => k :: s.fst.eraseQ.filter (· ≠ k) | none => s.fst.eraseQ
  { s with fst := { s.fst with
      erasing := none, susp := false, eraseQ := q, verified := [], reads := [], resumed := false, low := false, wait := 15, clk := 3, vdd := 0
      running := [], slot := 3, fallback := false, failA := 0, failB := 0, failR := 0, halt := false } }

/-- A dump with a complete outcome table carries the loss. -/
def State.dumped (s : State) : Bool := (s.pwr.dumping || s.pwr.afterDump) && s.media.dump.isSome

/-- Power is lost with nothing to report: a start that has not released reset, or, with a hold-up declared, an announced loss before READY
or in a dormant state with nothing at risk and no dump begun (08 R237; 17 R468, R469; log 22). -/
def State.lossFree (s : State) : Bool :=
  (s.pwr.powerOn && !s.brd.released) ||
  (s.media.plp && s.pwr.pfailLow && s.nothingAtRisk && (s.mode.booting || s.mode.dormant) && !s.pwr.dumping && !s.pwr.afterDump)

/-- What the next start will post for the loss (08 R234, R236, R237; 17 R469). -/
def State.lossNote (s : State) : State :=
  if s.dumped || s.lossFree then s
  else { s with media := { s.media with
    dump := some (s.liveFns.map wholeEntry), loss := if s.media.plp then 2 else 1 } }

/-- A namespace whose deletion or format had no reply yet is as it was (06 R178). -/
def Ns.unbusy (n : Ns) : Ns := { n with busy := if inR 1 2 n.busy then 0 else n.busy }

/-- Functions whose detach had no reply yet are attached as they were (06 R178). -/
def State.detachesUndo (s : State) : State :=
  (s.fns.map (fun p => p.2.wait) ++ [s.adm.oobWait]).foldl (fun s w => match w with
    | some (.nsDetach _ _) => s.cancelWait w
    | _ => s) s

/-- Every domain except PD_AON loses its state; media, store and fuses keep theirs (16 R458, R459; 17 R469). -/
def State.powerDown (s : State) : State :=
  let kept := s.dumped
  let s := s.lossNote
  let s := if kept then s else s.stagingLost
  let s := ((s.stagedCount.zonesRestore.relocsDrop.ledgerCut kept).storeLost.linksDown).hzRestart
  { s with
    sub := {}, qs := [], fns := [], hist := [], vat := {}, ldp := {}, cal := {}
    nss := tmap s.detachesUndo.nss (fun _ n => n.unbusy)
    hif := {}
    mode := {}
    glb := { s.glb with dram := false, thermal := false, cipher := 0 }
    adm := { sanitize := s.adm.sanitize, sanState := s.adm.sanState, sanProgress := s.adm.sanProgress, sanReams := s.adm.sanReams,
             healthCount := s.adm.healthCount, dlActive := s.adm.dlActive, dlSlot := s.adm.dlSlot }
    cip := {}
    drc := { chans := tmap s.drc.chans (fun _ c => c.kReset), failed := s.drc.failed }
    media := { s.media with draining := false, drainTo := none }
    pwr := { s.pwr with gated := false, phase := 0, entryStep := 0, next := none, heldWake := none, retryWait := false, stuck := false,
                        dumping := false, afterDump := false, powerOn := true, xfenced := [], xover := [], stale := false,
                        xid := 0, ovrcnt := 0, staleOff := 0 }
    brd := { s.brd with released := false, perstHeld := false, avsMv := [], avsTries := [] } }

/-- PFAIL_HIGH_HOLD_EXPIRY (17 R469): the controller starts as a power-on, once reset may be released. -/
def execPfailHighHoldExpiry (s : State) : Host.Outcome State Fault Refusal :=
  .next (if s.pwr.afterDump && !s.pwr.pfailLow then s.powerDown else s)

/-- PWRGD_RISE (17 R467): the switched rails come up, and the straps are sampled if PERST# is high; JTAG_EN always. -/
def execPwrgdRise (st : Straps) (s : State) : Host.Outcome State Fault Refusal :=
  .next (if s.brd.pwrgd || s.brd.thermtrip then s
    else
      let s := { s with
        brd := { s.brd with pwrgd := true, jtag := st.jtagEn, straps := { s.brd.straps with jtagEn := st.jtagEn, test := st.test } }
        pwr := { s.pwr with powerOn := true, retries := 0, retryWait := false, stuck := false } }
      let s := if s.brd.perstLow then s else s.sampleStraps st
      s.railsSwitch true)

/-- PWRGD_FALL (17 R467, R469). -/
def execPwrgdFall (s : State) : Host.Outcome State Fault Refusal :=
  .next (if !s.brd.pwrgd then s
    else
      let s := s.powerDown.railsSwitch false
      { s with brd := { s.brd with pwrgd := false } })

/-- THERMTRIP (17 R469, R478): it stays asserted until VDD_AON falls. -/
def execThermtrip (s : State) : Host.Outcome State Fault Refusal :=
  .next (if s.brd.thermtrip then s
    else
      let s := if s.brd.pwrgd then s.powerDown else s
      { s with brd := { s.brd with thermtrip := true, pwrEn := 0 } })

/-- VDD_AON_IN_REGULATION (17 R466, R467): the RTC counts from the first oscillation, which follows within 1 s: when is a
free value (16 R460; 17 R471; log 78). -/
def execVddAonInRegulation (s : State) : Host.Outcome State Fault Refusal :=
  .next (if s.brd.aonUp then s
    else
      let (v, s) := s.fresh
      ({ s with brd := { s.brd with aonUp := true }, pwr := { s.pwr with rtc0 := s.now + v.toNat % 10000001 } }).railPcie true)

/-- VDD_AON_FALL (00 R9; 16 R459; 17 R478): every A-class value is lost, and THERMTRIP# is released. -/
def execVddAonFall (s : State) : Host.Outcome State Fault Refusal :=
  .next (if !s.brd.aonUp then s
    else
      let s := if s.brd.pwrgd then s.powerDown else s
      { s with
        pwr := { pfailLow := s.pwr.pfailLow, rtc0 := s.now }
        fst := { s.fst with brown := false }
        brd := { perstLow := s.brd.perstLow, noRtc := s.brd.noRtc } })

/-! ### Clocks and crossings (16 R451–R457) -/

/-- The domain's clock should run (16 R449, R451). -/
def State.clockDue (s : State) (dom : Nat) : Bool :=
  s.brd.pwrgd && inR 2 19 dom && (dom == 2 || dom == 3 || decide (s.pwr.cur.toNat < 3)) && !(dom == 7 && s.pwr.gated)

/-- PERST# as the controller performs it on itself: the pin stays as the board drives it, and reset is released as at a
power-up (16 R452). -/
def State.selfPerst (s : State) : State :=
  let low := s.brd.perstLow
  let s := s.perstReset
  { s with brd := { s.brd with perstLow := low } }

/-- CLOCK_LOSS (16 R452): CPU and MGMT restart firmware, any other domain the controller, DRA and DRB as a power-on. A PLL
that does not relock leaves it in reset; the number under which PWR_FAULT names the PLL is not stated (log 11). -/
def execClockLoss (dom : Nat) (relock : Bool) (s : State) : Host.Outcome State Fault Refusal :=
  .next (if !s.clockDue dom then s
    else if relock then
      (if dom = 7 ∨ dom = 8 then s.resetBegin 2
       else if dom = 16 ∨ dom = 17 then s.powerDown
       else s.selfPerst)
    else
      let (v, s) := s.selfPerst.fresh
      { s with
        pwr := { s.pwr with fault := true, fstate := s.pwr.cur, fcause := true, fid := BitVec.ofNat 8 v.toNat,
                            ftime := BitVec.ofNat 48 s.rtc, stuck := true }
        brd := { s.brd with faultN := true } })

/-- CROSSING_FENCE (16 R457). -/
def execCrossingFence (xid : Nat) (s : State) : Host.Outcome State Fault Refusal :=
  .next { s with pwr := { s.pwr with xfenced := addOnce s.pwr.xfenced (xid % 256), xid := BitVec.ofNat 8 xid } }

/-! ### PMBus (17 R463, R465) -/

/-- PMB_ALERT (17 R463): watched in PS0 to PS2; STATUS_WORD by device number. -/
def execPmbAlert (status : List (Nat × Nat)) (s : State) : Host.Outcome State Fault Refusal :=
  .next (if !s.brd.released || decide (3 ≤ s.pwr.cur.toNat) then s
    else
      let ds := (List.range 8).filter (fun i => s.pv (pPmbus i) ≠ 0xFF)
      let s := ds.foldl (fun (s : State) i => s.emit (.pmbus (s.pv (pPmbus i)) 0x79 0)) s
      if ds.any (fun i => railFault (tget status i 0)) then s.healthEvent else s)

/-- Boot voltage of an AVS rail in mV: VDD_CORE, VDD_CPU (17 R465). -/
def bootMv (r : Nat) : Nat := if r = 0 then 800 else 900

/-- A setting within the rail's range (17 R464). -/
def mvOk (r mv : Nat) : Bool := if r = 0 then inR 650 850 mv else inR 700 950 mv

/-- AVS_CORRECTION (17 R465): the fused voltage first, then steps of no more than 10 mV; after 3 writes without
acknowledgement the rail stays at its boot voltage. -/
def execAvsCorrection (r mv : Nat) (ack : Bool) (s : State) : Host.Outcome State Fault Refusal :=
  .next (
    let cur := tfind s.brd.avsMv r
    let tries := tget s.brd.avsTries r 0
    let small := match cur with | none => true | some v => decide (mv ≤ v + 10 ∧ v ≤ mv + 10)
    if 2 ≤ r ∨ s.pf (pAvs r) = 0xFF ∨ !s.brd.released ∨ 3 ≤ s.pwr.cur.toNat ∨ !mvOk r mv ∨ !small ∨ 3 ≤ tries then s
    else
      let s := s.emit (.pmbus (s.pf (pAvs r)) 0x21 mv)
      if ack then { s with brd := { s.brd with avsMv := tset s.brd.avsMv r mv, avsTries := tset s.brd.avsTries r 0 } }
      else
        let s := { s with brd := { s.brd with avsTries := tset s.brd.avsTries r (tries + 1) } }
        if tries = 2 then ({ s with brd := { s.brd with avsMv := tset s.brd.avsMv r (bootMv r) } }).healthEvent else s)

end Sys2Proof.Machine
end

