-- ==== Sys2Proof/Machine/Calender.lean ====
section
/-! DEFINITION. The calender's events: samples, measurements, reconstruct credit (12 R348–R355). -/

namespace Sys2Proof.Machine

/-- LOOP_SAMPLE (12 R348, R349). -/
def execLoopSample (n : Nat) (late : Nat × Nat) (s : State) : Res := .next (s.loopSampleOp n late)

/-- Measurements that the controller itself refreshes; the hubs' readings come by link messages (12 R350). -/
def refreshed (code : Nat) : Bool :=
  let src := code % 256
  let i := code / 256
  ((src == 0x01 || src == 0x05 || src == 0x0A || src == 0x0B) && i == 0) ||
  ((src == 0x06 || src == 0x07) && (decide (i < 16) || i == 0xFF))

/-- CALENDER_INPUT_REFRESH (12 R350, R351, R365): the operand is what the rail monitors, PMBus or the junction sensor measure,
none where it arrives with the STALE flag; the other sources follow from the state. The junction temperature also moves the
thermal limit. -/
def execCalenderInputRefresh (input : Nat) (value : Option Int) (s : State) : Res :=
  .next (if !s.calRuns || !refreshed input then s
    else if input % 256 = 6 then s.inputSet input (s.freeReamsIn (input / 256))
    else if input % 256 = 7 then s.inputSet input (s.backlogIn (input / 256))
    else if input = 0x0A then { s.inputSet input s.hostRateIn with media := { s.media with hostBytes := 0 } }
    else if input = 0x0B then
      let prog := (s.media.progBytes :: s.cal.prog10).take 10
      let s := s.inputSet input (s.drainIn prog)
      { s with cal := { s.cal with prog10 := prog }, media := { s.media with progBytes := 0 } }
    else match value with
      | some v => (s.inputSet input v).thermalCheck
      | none => s.inputStale input)

/-- A class that no enabled slot drives (12 R355). -/
def State.undriven (s : State) (c : Nat) : Bool :=
  match s.tenantSlot c with
  | some n => !(s.loop n).cfg.on
  | none => true

/-- RECONSTRUCT_BUCKET_CREDIT (12 R355): every 1 ms, at the class's pressure. -/
def execReconstructBucketCredit (c : Nat) (s : State) : Res :=
  .next (if s.calRuns && decide (c < 64) && s.undriven c then s.creditBucket c 1000 (s.pressure c) else s)

end Sys2Proof.Machine
end

