-- ==== Sys2Proof/Machine/Hazard.lean ====
section
/-! DEFINITION. The hazard engine's operations as commands of its requesters (14 R394, R395, R398). -/

namespace Sys2Proof.Machine

/-- The key of an operation. -/
def hzKeyOf (k : SearchKey) : HzKey :=
  { lo := k.lo, last := k.last, nsid := k.nsid, w := k.w, value := k.value, dontCare := k.dontCare }

/-- Record a search: its result, the requester's handle, and the count of operations (14 R395, R405). -/
def Hz.searched (h : Hz) (requester : Nat) (k : HzKey) (mask : Nat) (ceiling : Option Nat) : Hz :=
  let r := hzResult (hzSearch h k mask ceiling)
  { h with
    lastResult := r
    searches := h.searches + 1
    handles := tset h.handles requester { key := k, mask := mask, ceiling := ceiling, last := r.index } }

/-- SEARCH (14 R394, R395). -/
def execSearch (requester : Nat) (key : SearchKey) (mask : Nat) (ceiling : Option Nat) (s : State) : Res :=
  .next { s with hz := s.hz.searched requester (hzKeyOf key) mask ceiling }

/-- SEARCH_INSERT (14 R394): the search covers banks 0–11 and sees no entry inserted later; then the key goes into the
lowest free entry of its group. With none free the wait is counted (14 R400, R401). -/
def execSearchInsert (requester : Nat) (key : SearchKey) (staging : Bool) (s : State) : Res :=
  let k := hzKeyOf key
  let h := s.hz.searched requester k 0xFFF none
  .next (match hzFreeIn h staging with
    | some i => { s with hz := hzPut h i k none }
    | none =>
      if staging then { s with hz := { h with full8 := satInc h.full8 } }
      else { s with hz := { h with full0 := satInc h.full0 } })

/-- STEP (14 R394, R395): the lowest match above the handle's position, by the original key, as the engine stands now.
COUNT and MULTI stay. -/
def execStep (requester : Nat) (s : State) : Res :=
  .next (match tfind s.hz.handles requester with
    | none => s
    | some d =>
      match (hzSearch s.hz d.key d.mask d.ceiling).find? (fun i => decide (d.last < i)) with
      | some i => { s with hz := { s.hz with
          lastResult := { s.hz.lastResult with isMatch := true, index := i }
          handles := tset s.hz.handles requester { d with last := i } } }
      | none => { s with hz := { s.hz with lastResult := { s.hz.lastResult with isMatch := false, index := 0xFFFF } } })

/-- A change that MODIFY makes: an in-flight range may only narrow, a window may also widen (14 R398, R401; DEDUCED,
log 29). -/
def modifyOk (i : Nat) (e : HzEntry) (lo last : Nat) : Bool :=
  decide (lo ≤ last) && (decide (8 ≤ hzBank i) || decide (e.lo ≤ lo ∧ last ≤ e.last))

/-- MODIFY (14 R394, R398). -/
def execModify (i lo last : Nat) (s : State) : Res :=
  .next (match tfind s.hz.entries i with
    | none => s
    | some e => if modifyOk i e lo last then s.hzModify i lo last else s)

/-- An entry leaves its owner's list. -/
def State.disown (s : State) (i : Nat) (owner : Option Nat) : State :=
  match owner with
  | none => s
  | some o => match s.slot o with
    | none => s
    | some x => s.setSlot o { x with hz := x.hz.filter (· ≠ i) }

/-- REMOVE (14 R394, R397). -/
def execRemove (i : Nat) (s : State) : Res :=
  .next (match tfind s.hz.entries i with
    | none => s
    | some e => (s.disown i e.owner).hzRemove i)

end Sys2Proof.Machine
end

