-- ==== Sys2Proof/Machine/Io.lean ====
section
/-! DEFINITION. The meanings of the I/O commands and their events, one per row (04 R116–R128; 02 R35; 11 R328, R347). -/

namespace Sys2Proof.Machine

/-- READ (04 R116). -/
def execRead (i : Nat) (s : State) : Res := .next (s.doRead i 1)

/-- VERIFY (04 R124). -/
def execVerify (i : Nat) (s : State) : Res := .next (s.doRead i 8)

/-- WRITE (04 R117). -/
def execWrite (i : Nat) (s : State) : Res := .next (s.doWrite i 2)

/-- WRITE_ZEROES (04 R127). -/
def execWriteZeroes (i : Nat) (s : State) : Res := .next (s.doWrite i 10)

/-- ZONE_APPEND (04 R118). -/
def execZoneAppend (i : Nat) (s : State) : Res := .next (s.doAppend i)

/-- COPY (04 R125). -/
def execCopy (i : Nat) (s : State) : Res := .next (s.doCopy i)

/-- FLUSH (04 R119, R120). -/
def execFlush (i : Nat) (s : State) : Res := .next (s.doFlush i)

/-- ZONE_REPORT (04 R122). -/
def execZoneReport (i : Nat) (s : State) : Res := .next (s.doReport i)

/-- DEALLOCATE (04 R123). -/
def execDeallocate (i : Nat) (s : State) : Res := .next (s.doDeallocate i)

/-- NOP (04 R128). -/
def execNop (i : Nat) (s : State) : Res := .next (s.doNop i)

/-- ZONE_SEQUENCE_HEAD (04 R117, R118). -/
def execZoneSequenceHead (i : Nat) (s : State) : Res := .next (s.unlessPfail (s.doSequenceHead i))

/-- APPEND_STAGE (04 R118). -/
def execAppendStage (i : Nat) (s : State) : Res := .next (s.unlessPfail (s.doAppendStage i))

/-- OPEN of one zone (04 R121, 05 R141). -/
def State.openOne (s : State) (i : Nat) (x : Slot) (c : Cmd) (ns : Ns) (z : Nat) : State :=
  match (s.zone c.nsid z).st with
  | .explicitOpen => s.mgmtOk i 0
  | .full | .readOnly | .offline => s.fix i 0x107 0
  | _ => match s.openZone i c.nsid z ns x.cls x.grp .explicitOpen with
    | .ok t => t.mgmtOk i 1
    | .wait t => t
    | .fail t st => t.fix i st 0

/-- ZONE_MGMT OPEN (04 R121; 05 R141, R142, R149). -/
def execZoneMgmtOpen (i : Nat) (s : State) : Res :=
  .next (s.doMgmt i 1 (fun st => decide (st = .closed)) (fun s n z => some (s.zoneSet n z .explicitOpen))
    (fun ns => match s.slot i with
      | some x => let n := (cmdOf x.cmd).nsid
        decide (ns.mor ≠ 0) && decide (ns.mor < s.openNs n + (s.zonesIn n (fun st => decide (st = .closed))).length)
      | none => false)
    (fun x c ns z => s.openOne i x c ns z))

/-- ZONE_MGMT CLOSE (04 R121; 05 R141, R142). -/
def execZoneMgmtClose (i : Nat) (s : State) : Res :=
  .next (s.doMgmt i 2 ZState.isOpen (fun s n z => some (s.zoneSet n z .closed)) (fun _ => false)
    (fun _ c _ z => match (s.zone c.nsid z).st with
      | .implicitOpen | .explicitOpen => (s.zoneSet c.nsid z .closed).mgmtOk i 1
      | .closed => s.mgmtOk i 0
      | _ => s.fix i 0x107 0))

/-- FINISH of one zone; none where staging has no room for its pads and parity (01 R28; 09 R247). -/
def State.finishOne (s : State) (n z : Nat) : Option State :=
  let k := s.finishBytes n z
  if k ≠ 0 && !(s.stageFits (s.zoneDeckle n z) k) then none else some (s.zoneFinish n z)

/-- ZONE_MGMT FINISH (04 R121; 05 R141–R143; 09 R247). -/
def execZoneMgmtFinish (i : Nat) (s : State) : Res :=
  .next (s.doMgmt i 3 ZState.active State.finishOne (fun _ => false)
    (fun _ c _ z => match (s.zone c.nsid z).st with
      | .readOnly | .offline => s.fix i 0x107 0
      | .full => s.mgmtOk i 0
      | _ => if s.jrnlStuck 3 then s.fix i 0x204 0
        else match s.finishOne c.nsid z with
          | some t => t.mgmtOk i 1
          | none => s))

/-- RESET of one zone: it is EMPTY again, with its journal record (05 R141, R143). -/
def State.zoneReset (s : State) (n z : Nat) : State := (s.jrec (s.zoneDeckle n z)).zoneEmpty n z

/-- ZONE_MGMT RESET (04 R121; 05 R141–R144). -/
def execZoneMgmtReset (i : Nat) (s : State) : Res :=
  .next (s.doMgmt i 4 (fun st => st.active || decide (st = .full)) (fun s n z => some (s.zoneReset n z)) (fun _ => false)
    (fun _ c _ z => match (s.zone c.nsid z).st with
      | .readOnly | .offline => s.fix i 0x107 0
      | .empty => s.mgmtOk i 0
      | _ => if s.jrnlStuck 4 then s.fix i 0x204 0 else (s.zoneReset c.nsid z).mgmtOk i 1))

/-- A READ_ONLY zone goes OFFLINE: it holds no ream, and its ZCAP reads 0 (05 R138, R140). -/
def State.zoneOffline (s : State) (n z : Nat) : State :=
  ((s.zoneReset n z).modZone n z (fun y => { y with zcap := 0 })).zoneSet n z .offline

/-- ZONE_MGMT OFFLINE (04 R121; 05 R141, R142). -/
def execZoneMgmtOffline (i : Nat) (s : State) : Res :=
  .next (s.doMgmt i 5 (fun st => decide (st = .readOnly)) (fun s n z => some (s.zoneOffline n z)) (fun _ => false)
    (fun _ c _ z => match (s.zone c.nsid z).st with
      | .readOnly => (s.zoneOffline c.nsid z).mgmtOk i 1
      | _ => s.fix i 0x107 0))

/-- A bitmap access of a function's dirty log fails: logging stops (07 R217). -/
def State.bitmapFail (s : State) (g : Nat) : State :=
  match (s.fn g).dirty with
  | none => s
  | some d => s.modFn g (fun f => { f with dirty := some { d with failed := true } })

/-- A host access of a command slot ends; the operands from 2^32 on name the bitmap accesses of function `i - 2^32`
(log 32). -/
def State.dmaEnd (s : State) (i : Nat) (res : DmaRes) : State :=
  if 2 ^ 32 ≤ i then (if (dmaBytes res).isNone then s.bitmapFail (i - 2 ^ 32) else s)
  else match s.slot i with
    | none => s
    | some x => if x.dma then s.dmaDone i x res else s

/-- DMA_COMPLETION (02 R35; 07 R217). -/
def execDmaCompletion (i : Nat) (res : DmaRes) (s : State) : Res := .next (s.unlessPfail (s.dmaEnd i res))

/-- DMA_TIMEOUT (02 R35; 07 R217): the read ends with 0x007. -/
def execDmaTimeout (i : Nat) (s : State) : Res := .next (s.unlessPfail (s.dmaEnd i .ur))

/-- CIPHER_UNIT_DONE (11 R328). -/
def execCipherUnitDone (lane slot idx : Nat) (ok : Bool) (s : State) : Res := .next (s.unlessPfail (s.cipherDone lane slot idx ok))

/-- MIRROR_WRITE_ACK (01 R20). -/
def execMirrorWriteAck (slot piece chA chB : Nat) (ok : Bool) (s : State) : Res :=
  .next (s.unlessPfail (s.mirrorAck slot piece chA chB ok))

/-- COMPLETION_COLLECTOR_ENTRY (11 R347). -/
def execCompletionCollectorEntry (s : State) : Res := .next (s.unlessPfail s.collectorStep)

end Sys2Proof.Machine
end

