-- ==== Sys2Proof/Machine/Link.lean ====
section
/-! DEFINITION. The link rows: flits, link states, ALIGN, heartbeats, hub messages, bring-up, link queues and the busy-die
decision (10 R273–R315; 01 R24; 12 R351, R354). -/

namespace Sys2Proof.Machine

/-! ### Flits and timers (10 R281, R282, R304) -/

/-- FLIT_RECEIVE (10 R281, R282). -/
def execFlitReceive (k : Nat) (b : List Byte) (s : State) : Host.Outcome State Fault Refusal :=
  let (t, due) := s.flitIn k b
  .next (if due then t.retrainOr k else t)

/-- REPLAY_TIMER_EXPIRY (10 R282): it also ends the disregard of NAKs already answered. -/
def execReplayTimerExpiry (k : Nat) (s : State) : Host.Outcome State Fault Refusal :=
  let l := s.link k
  .next (if !l.flows ∨ l.replay.isEmpty then s
    else
      let (t, due) := (s.modLink k (fun l => { l with lastNak := none })).retransmit k
      if due then t.retrainOr k else t)

/-- LINK_SILENCE_TIMEOUT (10 R304). -/
def execLinkSilenceTimeout (k : Nat) (s : State) : Host.Outcome State Fault Refusal :=
  .next (if (s.link k).flows then s.retrainOr k else s)

/-! ### Ordered sets and link states (10 R273, R275) -/

/-- Send JTS1 with a preset asked of the peer, 0xFF for none (10 R273). -/
def State.sendJts1 (s : State) (k ask : Nat) : State := s.emit (.link k kindJts1 [0, (s.link k).preset, ask, 0])

/-- Send n JTS2; the LFSR is reseeded after each, and data blocks are counted from there (10 R273–R275). -/
def State.sendJts2 (s : State) (k n : Nat) : State :=
  (List.range n).foldl (fun s _ => s.emit (.link k kindJts2 [0, (s.link k).preset, 0xFF, 1]))
    (s.modLink k (fun l => { l with jts2Sent := l.jts2Sent + n, blocks := 0, lfsr := lfsrSeed }))

/-- The controller's own turn in TRAIN: it asks for another preset, at most 4 times, or sends JTS2. Which preset it asks for, and
whether it asks again, is its receiver's measurement: a free value (10 R275; log 11). -/
def State.eqTurn (s : State) (k : Nat) : State :=
  if (s.link k).ownReqs < 4 then
    let (v, s) := s.fresh
    let ask := v.toNat % 12
    if ask ≤ 10 then (s.modLink k (fun l => { l with ownReqs := l.ownReqs + 1 })).sendJts1 k ask
    else (s.modLink k (fun l => { l with ownReqs := 4 })).sendJts2 k 1
  else s.sendJts2 k 1

/-- JTS1_RECEIVE (10 R275): eight end DETECT; in TRAIN a preset request is met, at most 4 times, and the controller has its own turn;
in ACTIVE, PARK and ALIGN the peer retrains; in DOWN the hub's ROM has started. -/
def execJts1Receive (k preset request : Nat) (eqDone : Bool) (s : State) : Host.Outcome State Fault Refusal :=
  let l := s.link k
  .next (match l.st.toNat with
    | 0 => if l.bring = 0 ∨ l.bring = 8 then s else (s.startDetect k).modLink k (fun l => { l with jts1 := 1 })
    | 1 =>
      if 8 ≤ l.jts1 + 1 then (s.modLink k (fun l => l.train)).sendJts1 k 0xFF
      else s.modLink k (fun l => { l with jts1 := l.jts1 + 1 })
    | 2 =>
      if request ≤ 10 ∧ l.eqReqs < 4 ∧ eqDone = false ∧ preset ≤ 10 then
        (s.modLink k (fun l => { l with preset := request, eqReqs := l.eqReqs + 1 })).sendJts1 k 0xFF
      else s.eqTurn k
    | 3 => s.modLink k (fun l => l.train)
    | 4 => s.retrainOr k
    | 5 => s.retrainOr k
    | _ => s)

/-- Payload of a CTRL flit of the controller: 1 ALIGN, 2 ALIGN_ACK (10 R276). -/
def Link.ctrlPayload (l : Link) (ctype : Nat) : List Byte :=
  leBytes 1 ctype ++ zeros 1 ++ leBytes 1 0x10 ++ leBytes 1 (b2n l.stateLost) ++ leBytes 2 l.session.toNat ++ leBytes 2 l.rxExp.toNat
    ++ zeros 4 ++ recordOf l.own

/-- Send a CTRL flit: 1 ALIGN, 2 ALIGN_ACK (10 R276, R278). -/
def State.sendCtrl (s : State) (k ctype : Nat) : State :=
  s.emitFlit k (flitBytes (flitHeader 0 0 false 2 false) ((s.link k).ctrlPayload ctype))

/-- Every 1 µs a side in ALIGN sends ALIGN until it has the peer's, and from then on ALIGN_ACK (10 R276; log 1). -/
def State.alignTick (s : State) : State :=
  if s.now % 10 ≠ 0 then s
  else (s.links.filter (fun p => decide (p.2.st = 3))).foldl (fun s p => s.sendCtrl p.1 (if p.2.gotAlign then 2 else 1)) s

/-- JTS2_RECEIVE (10 R274, R275): eight received, and 16 sent, end TRAIN. -/
def execJts2Receive (k : Nat) (s : State) : Host.Outcome State Fault Refusal :=
  let l := s.link k
  .next (if l.st ≠ 2 then s
    else if 8 ≤ l.jts2 + 1 then
      ((s.sendJts2 k (16 - l.jts2Sent)).modLink k (fun l => { l with
        st := 3, jts2 := 0, gotAlign := false, sentAck := false })).sendCtrl k 1
    else s.modLink k (fun l => { l with jts2 := l.jts2 + 1 }))

/-- EIOS_RECEIVE (10 R273). -/
def execEiosReceive (k : Nat) (s : State) : Host.Outcome State Fault Refusal :=
  .next (if (s.link k).st = 6 then s else s.modLink k (fun l => { l with idle := true }))

/-- A sound CTRL flit of a hub with the given CTYPE (10 R276). -/
def ctrlOk (b : List Byte) (ctype : Nat) : Bool :=
  flitSound b && decide ((flitHead b).typ = 2) && decide (byteAt b 4 = ctype) && decide (byteAt b 5 = 1)

/-- The conversation goes on (10 R277). -/
def Link.continues (l : Link) : Bool :=
  let first := match l.replay with | f :: _ => f.seq | [] => l.txSeq
  !l.stateLost && decide (l.xstate = 0) && decide (l.peerSession = l.session)
    && decide (seqAhead (BitVec.ofNat 10 l.peerExp) first ≤ l.replay.length)

/-- ALIGN_RECEIVE (10 R276): a peer of another protocol version fails ALIGN, and the link trains again. ALIGN_ACK advertises the
initial credits where the conversation will not go on (10 R277, R285). -/
def execAlignReceive (k : Nat) (b : List Byte) (s : State) : Host.Outcome State Fault Refusal :=
  .next (if (s.link k).st ≠ 3 then s
    else if !ctrlOk b 1 then s.modLink k (fun l => { l with badflit := satInc l.badflit })
    else if byteAt b 6 ≠ 0x10 then (s.modLink k (fun l => l.train)).sendJts1 k 0xFF
    else
      let s := s.modLink k (fun l => { l with
        gotAlign := true, sentAck := true, xstate := BitVec.ofNat 2 (byteAt b 7)
        peerSession := BitVec.ofNat 16 (fieldLe b 8 2), peerExp := fieldLe b 10 2 % 1024
        alignPark := BitVec.ofNat 2 (byteAt b 12), limits := creditRecord (sliceB b 16 16) })
      (s.modLink k (fun l => if l.continues then l else { l with own := ownStart })).sendCtrl k 2)

/-- Where ALIGN leads: PARK when the hub reports itself parked (10 R275). -/
def Link.afterAlign (l : Link) : BitVec 3 := if l.alignPark = 1 ∨ l.alignPark = 2 then 5 else 4

/-- The recovery that follows an ALIGN which restarted the conversation (10 R308, R309): a bring-up or a new session begins
with IDENTIFY, a hub that only lost its transactions with SET_LEVELS and UNPARK. Such a loss is counted in HBMISS: R305 asks for a
count in MLK_ERR or MLK_HB and names no field (DESIGN CHOICE, log 82); a hub's own reset is counted with its HUB_RESET event. -/
def State.alignRestart (s : State) (k : Nat) : State :=
  let bring := (s.link k).bring
  let s := s.hubLose k
  let s := s.modLink k (fun l => { l with
    txSeq := 0, rxExp := 0, replay := [], txq := [], asm := [], used := [0, 0, 0, 0, 0, 0], own := ownStart
    session := l.peerSession, stateLost := false, st := l.afterAlign, idle := false, nakPend := false, stalled := []
    hbmiss := if l.xstate = 1 then satInc l.hbmiss else l.hbmiss
    hbRow := 0, hbSeen := false, bring := 2, sessAt := if l.xstate = 2 ∨ l.peerSession ≠ l.session then s.now else l.sessAt })
  if bring = 1 ∨ (s.link k).xstate = 2 then s.identify k else s.sendLevels k

/-- The conversation continues: what the peer has is freed, the rest is sent again (10 R277). An exit from a power state
then sends UNPARK, a bring-up its IDENTIFY. -/
def State.alignContinue (s : State) (k : Nat) : State :=
  let s := s.modLink k (fun l => { (l.acked (BitVec.ofNat 10 l.peerExp - 1)) with
    st := l.afterAlign, idle := false, hbRow := 0, hbSeen := false })
  let s := (if (s.link k).replay.isEmpty then s else s.resend k).txRun k
  let bring := (s.link k).bring
  if bring = 7 then s.sendUnpark k else if bring = 1 then s.identify k else s

/-- ALIGN_ACK_RECEIVE (10 R276, R277). -/
def execAlignAckReceive (k : Nat) (b : List Byte) (s : State) : Host.Outcome State Fault Refusal :=
  let l := s.link k
  .next (if l.st ≠ 3 then s
    else if !ctrlOk b 2 then s.modLink k (fun l => { l with badflit := satInc l.badflit })
    else if !l.gotAlign || !l.sentAck then s
    else if l.continues then s.alignContinue k
    else s.alignRestart k)

/-- LINK_STATE_TIMEOUT (10 R275). -/
def execLinkStateTimeout (k : Nat) (s : State) : Host.Outcome State Fault Refusal :=
  let l := s.link k
  .next (if l.st = 1 ∨ l.st = 2 then s.bringFailed k
    else if l.st = 3 then (s.modLink k (fun l => l.train)).sendJts1 k 0xFF
    else s)

/-! ### Heartbeats (10 R296, R304) -/

/-- HEARTBEAT_SEND (10 R296). -/
def execHeartbeatSend (k : Nat) (s : State) : Host.Outcome State Fault Refusal :=
  .next (if !(s.link k).flows then s
    else
      let s := s.modLink k (fun l => { l with hbseq := l.hbseq + 1 })
      let l := s.link k
      s.sendMgmt k 0x12 16 [0, l.hbseq.toNat, l.tags.length, (s.now - l.sessAt) / 10])

/-- Act on the first VC3 message when it has the type asked for. -/
def State.onMgmt (s : State) (k typ : Nat) (f : List Byte → State → State) : State :=
  match s.rxFirst k 3 with
  | some m => if byteAt m 0 = typ then f m (s.rxTake k 3) else s
  | none => s

/-- Act on an EVENT of the code asked for (10 R297). -/
def State.onEvent (s : State) (k code : Nat) (f : List Byte → State → State) : State :=
  match s.rxFirst k 3 with
  | some m =>
    if byteAt m 0 = 0x10 ∧ byteAt m 1 = code then
      f m ((s.rxTake k 3).modLink k (fun l => { l with evseq := BitVec.ofNat 16 (fieldLe m 2 2) }))
    else s
  | none => s

/-- HEARTBEAT (10 R296). -/
def execHeartbeat (k : Nat) (s : State) : Host.Outcome State Fault Refusal :=
  .next (s.onMgmt k 0x12 (fun m s => s.modLink k (fun l => { l with hpark := BitVec.ofNat 2 (byteAt m 1), hbSeen := true, hbRow := 0 })))

/-- HEARTBEAT_WINDOW_EXPIRY (10 R304, R309). -/
def execHeartbeatWindowExpiry (k : Nat) (s : State) : Host.Outcome State Fault Refusal :=
  let l := s.link k
  .next (if !l.flows then s
    else if l.hbSeen then s.modLink k (fun l => { l with hbSeen := false, hbRow := 0 })
    else
      let s := s.modLink k (fun l => { l with hbmiss := satInc l.hbmiss, hbRow := l.hbRow + 1 })
      if 3 ≤ l.hbRow + 1 then s.hubResetStart k else s)

/-! ### Completions and data (10 R289, R292, R294, R306, R307) -/

/-- A controller reset runs: completions wait for the restarted firmware (10 R313). -/
def State.fwAway (s : State) : Bool := s.mode.booting && decide (s.mode.start = 0)

/-- CMPL (10 R294, R306, R307, R313). -/
def execCmpl (k : Nat) (s : State) : Host.Outcome State Fault Refusal :=
  .next (if s.fwAway then s else match s.rxFirst k 0 with
    | none => s
    | some m =>
      let c := cmplOf m
      let s := ({ s with pwr := { s.pwr with gated := false } }).rxTake k 0
      match (s.link k).tagOf c.tag with
      | none => s.discardMsg k
      | some (slot, t) => s.cmplIn k slot t c)

/-- DATA_RD (10 R292, R294, R313). -/
def execDataRd (k : Nat) (s : State) : Host.Outcome State Fault Refusal :=
  .next (if s.fwAway then s else match s.rxFirst k 2 with
    | none => s
    | some m =>
      let s := s.rxTake k 2
      match (s.link k).tagOf (fieldLe m 2 2) with
      | none => s.discardMsg k
      | some (slot, t) =>
        if !opIsRead t.op.opc then s.discardMsg k
        else (s.modLink k (fun l => { l with tags := tset l.tags slot { t with got := t.got + fieldLe m 8 4 } })).readCheck k slot)

/-- A die operation of one of some opcodes is outstanding on a die. -/
def Link.dieHas (l : Link) (d : Nat) (p : Nat → Bool) : Bool := l.tags.any (fun t => decide (t.2.op.die = d) && p t.2.op.opc)

/-- An operation of the die is outstanding that is not suspended: the die's timer runs (10 R304). -/
def State.dieTimed (s : State) (k d : Nat) : Bool :=
  let x := s.die k d
  let susp := inR 4 5 x.st
  (x.op.isSome && !susp) || (s.link k).tags.any (fun t => decide (t.2.op.die = d) && !(susp && x.op == some t.1))

/-- DIE_TIMER_EXPIRY (10 R304–R306): of an operation outstanding on the die, in its unsuspended time; it is counted with the
inconsistent completions. Of an unknown die's STATUS or RESET_DIE, and then RESET_DIE is sent. -/
def execDieTimerExpiry (k d : Nat) (s : State) : Host.Outcome State Fault Refusal :=
  let x := s.die k d
  .next (if !(s.link k).flows ∨ x.retired then s
    else if x.unknown then (if (s.link k).dieHas d (fun o => o == 7 || o == 8) then s.resetDie k d else s)
    else if s.dieTimed k d then s.inconsistent k d
    else s)

/-! ### Events and telemetry (10 R297, R298) -/

/-- DIE_FAIL (10 R297, R306). -/
def execDieFail (k : Nat) (s : State) : Host.Outcome State Fault Refusal :=
  .next (s.onEvent k 1 (fun m s => s.retireDie k (byteAt m 4 % 128)))

/-- TEMP (10 R297). -/
def execTemp (k : Nat) (s : State) : Host.Outcome State Fault Refusal :=
  .next (s.onEvent k 2 (fun m s => s.hubTemp k (sx8 (byteAt m 8))))

/-- POWER (10 R297). -/
def execPower (k : Nat) (s : State) : Host.Outcome State Fault Refusal :=
  .next (s.onEvent k 3 (fun m s => s.hubPower k (byteAt m 8)))

/-- HUB_RESET (10 R297, R305, R308, R316): expected while the link recovers or is brought up. A reset that the controller did not
make is counted and recorded here. -/
def execHubReset (k : Nat) (s : State) : Host.Outcome State Fault Refusal :=
  .next (s.onEvent k 4 (fun m s =>
    let l := s.link k
    let due := l.lost || decide (l.bring ≠ 0)
    if due && l.ctlReset then s.modLink k (fun l => { l with ctlReset := false })
    else
      let s := (s.modLink k (fun l => { l with hubresets := satInc l.hubresets, ctlReset := false, bring := if due then l.bring else 2 })).ledEvent
        0x4001 (leBytes 1 k ++ leBytes 1 (byteAt m 8))
      if due then s else (s.hubLose k).identify k))

/-- ERASE_INT (10 R297). -/
def execEraseInt (k : Nat) (s : State) : Host.Outcome State Fault Refusal :=
  .next (s.onEvent k 5 (fun m s =>
    s.modDk (k / 32) (fun x => { x with reErase := addOnce x.reErase (blockKey k (byteAt m 4 % 128) (fieldLe m 8 2 % 8192)) })))

/-- CHAN_FAULT (10 R297): each of the channel's 16 dies. -/
def execChanFault (k : Nat) (s : State) : Host.Outcome State Fault Refusal :=
  .next (s.onEvent k 6 (fun m s => (List.range 16).foldl (fun s i => s.retireDie k (16 * (byteAt m 4 % 8) + i)) s))

/-- TELEMETRY (10 R298; 12 R350). -/
def execTelemetry (k : Nat) (s : State) : Host.Outcome State Fault Refusal :=
  .next (s.onMgmt k 0x11 (fun m s =>
    let s := s.modLink k (fun l => { l with
      currents := (List.range 8).map (fun c => fieldLe m (4 + 2 * c) 2)
      hottest := (List.range 8).map (fun c => sx8 (byteAt m (21 + c)))
      rails := byteAt m 29 })
    (s.hubTemp k (sx8 (byteAt m 20))).powerIn (k / 32)))

/-- HUB_IBI (10 R314): TEMP and POWER only, also while the link is down. -/
def execHubIbi (k code arg : Nat) (s : State) : Host.Outcome State Fault Refusal :=
  .next (if 96 ≤ k then s else if code = 2 then s.hubTemp k (sx8 (arg % 256)) else if code = 3 then s.hubPower k (arg % 256) else s)

/-- HUB_SIDEBAND_TEMPERATURE_READ (12 R351): a hub silent for 1 s is read over its sideband; one that does not answer is
left out. -/
def execHubSidebandTemperatureRead (k : Nat) (answer : Option (List Int)) (s : State) : Host.Outcome State Fault Refusal :=
  let silent := match (s.link k).tempAt with | none => true | some t => decide (10000000 ≤ s.now - t)
  .next (if 96 ≤ k ∨ silent = false then s
    else
      let s := s.emit (.sideband (k / 24) (hubAddr k) 0x20 none 9)
      match answer with
      | none => (s.modLink k (fun l => { l with tempLeft := true })).tempsIn (k / 32)
      | some vs => (s.modLink k (fun l => { l with
          temp := vs.getD 0 0, hottest := (List.range 8).map (fun c => vs.getD (c + 1) 0), tempLeft := false,
          tempAt := l.tempAt.or (some 0) })).tempsIn (k / 32))

/-! ### Park, identity, hub firmware (10 R299–R303) -/

/-- PARK_REPLY (10 R299–R301): a hub parked in full scope takes its link to PARK. -/
def execParkReply (k : Nat) (s : State) : Host.Outcome State Fault Refusal :=
  .next (s.onMgmt k 0x13 (fun m s =>
    if !bitN (byteAt m 1) 0 then s
    else s.modLink k (fun l => { l with
      parkDone := true
      st := if byteAt m 2 = 2 ∧ l.st = 4 then 5 else l.st })))

/-- UNPARK_REPLY (10 R299, R308): the recovery is over and held operations go on. -/
def execUnparkReply (k : Nat) (s : State) : Host.Outcome State Fault Refusal :=
  .next (s.onMgmt k 0x14 (fun m s =>
    if !bitN (byteAt m 1) 0 then s
    else s.modLink k (fun l => { l with
      lost := false, bring := 0, bringfail := 0, parkDone := false, parkAsked := 0
      st := if l.st = 5 then 4 else l.st })))

/-- The identity matches the media geometry and the protocol (09 R238; 10 R302). -/
def identOk (m : List Byte) : Bool :=
  decide (fieldLe m 8 4 = 0x4B483132) && decide (fieldLe m 12 2 = 0x0100) && decide (byteAt m 17 = 8) && decide (byteAt m 18 = 16)
    && decide (fieldLe m 20 2 = 8192) && decide (fieldLe m 22 2 = 256) && decide (fieldLe m 24 2 = 64)

/-- Dies that the identity's mask leaves out. -/
def absentDies (m : List Byte) : List Nat := (List.range 128).filter (fun d => !bitN (fieldLe m 40 16) d)

/-- An IDENTIFY reply (10 R302, R307 BAD_ADDR; 09 R238). -/
def State.identReply (s : State) (k : Nat) (m : List Byte) : State :=
  let s := s.modLink k (fun l => { l with reqOut := 0, identOk := identOk m, fwState := byteAt m 16 })
  if !identOk m then (s.ledEvent 0x2001 (leBytes 1 k)).linkFault k
  else
    let s := { s with media := { s.media with rated := fieldLe m 26 2 } }
    let s := s.modLink k (fun l => { l with typUs := [fieldLe m 28 2, fieldLe m 30 2, fieldLe m 32 2] })
    let s := (absentDies m).foldl (fun s d => s.modDie k d (fun x => { x with retired := true })) s
    if (s.link k).bring = 0 then s
    else if byteAt m 16 = 0 then (s.modLink k (fun l => { l with fwTries := 0 })).sendChunk k 0
    else (s.ledEvent 0x4003 (leBytes 1 k ++ zeros 1 ++ leBytes 2 (fieldLe m 14 2))).sendSet k

/-- HUB_CFG_REPLY (10 R302, R309): a SET that fails resets the hub. -/
def execHubCfgReply (k : Nat) (s : State) : Host.Outcome State Fault Refusal :=
  .next (s.onMgmt k 0x15 (fun m s =>
    let l := s.link k
    if !bitN (byteAt m 1) 0 then s
    else if l.reqOut = 1 ∧ byteAt m 2 = 0 ∧ m.length = 72 then s.identReply k m
    else if l.reqOut = 2 ∧ byteAt m 2 = 2 then
      (if fieldLe m 4 2 = 0 then (s.modLink k (fun l => { l with reqOut := 0 })).sendLevels k else s.hubResetStart k)
    else s))

/-- HUB_FW_REPLY (10 R303). -/
def execHubFwReply (k : Nat) (s : State) : Host.Outcome State Fault Refusal :=
  .next (s.onMgmt k 0x16 (fun m s =>
    let l := s.link k
    if !bitN (byteAt m 1) 0 ∨ l.reqOut ≠ 3 then s
    else match fieldLe m 12 4 with
      | 3 => if 1 ≤ l.fwTries then s.bringFailed k else (s.modLink k (fun l => { l with fwTries := 1 })).sendChunk k 0
      | 4 => ((s.modLink k (fun l => { l with reqOut := 0, fwState := 1 })).ledEvent 0x4003
          (leBytes 1 k ++ zeros 1 ++ leBytes 2 (Config.hubVersionOf (Config.hubImageOf s.fst.running)).toNat)).sendSet k
      | _ => s.sendChunk k (fieldLe m 8 4)))

/-- HUB_CFG_TIMEOUT (10 R304, R309). -/
def execHubCfgTimeout (k : Nat) (s : State) : Host.Outcome State Fault Refusal :=
  let l := s.link k
  .next (if l.reqOut = 0 then s else if l.reqTries = 0 then s.resendReq k else s.hubResetStart k)

/-! ### Lost hubs and bring-ups (10 R304, R308, R309, R315) -/

/-- HUB_LOST (10 R308). -/
def execHubLost (k : Nat) (s : State) : Host.Outcome State Fault Refusal :=
  let l := s.link k
  .next (if l.st = 0 ∨ l.st = 6 then s else s.hubLose k)

/-- HUB_SIDEBAND_RESET (10 R309, R315): the reset write, tried three times; then the link waits for the hub's ROM. -/
def execHubSidebandReset (k : Nat) (acked : Bool) (s : State) : Host.Outcome State Fault Refusal :=
  let s := if (s.link k).lost && decide ((s.link k).bring = 0) then s.hubResetStart k else s
  let l := s.link k
  .next (if l.bring ≠ 8 then s
    else if acked || decide (2 ≤ l.reqTries) then s.modLink k (fun l => { l with bring := 1, reqTries := 0, idle := false })
    else (s.modLink k (fun l => { l with reqTries := l.reqTries + 1 })).sidebandReset k)

/-- BRINGUP_TIMEOUT (10 R304, R315). -/
def execBringupTimeout (k : Nat) (s : State) : Host.Outcome State Fault Refusal :=
  let l := s.link k
  .next (if l.bring = 0 ∨ l.bring = 8 ∨ l.st = 6 then s else s.bringFailed k)

/-! ### Link queues (10 R295; 01 R24; 12 R354) -/

/-- A free token may go to the operation (12 R354): the relocation share does not limit urgent collection (09 R258). -/
def State.tokenFor (s : State) (k : Nat) (op : LinkOp) : Bool :=
  let l := s.link k
  decide (l.tokens < s.tokenLimit k) &&
    (!op.reloc || s.gcUrgent op || decide (l.relocTokens < s.relocTokens k) || !l.mainWaits)

/-- Put back the head of a queue. -/
def Link.setHead (l : Link) (q : Nat) (op : LinkOp) : Link :=
  { l with queues := tset l.queues q (op :: (tget l.queues q []).drop 1) }

/-- ADMISSION_TOKEN_REQUEST (12 R354; 01 R18): the head of a write queue takes a token or waits. -/
def execAdmissionTokenRequest (k q : Nat) (s : State) : Host.Outcome State Fault Refusal :=
  .next (match tget (s.link k).queues q [] with
    | [] => s
    | op :: _ =>
      if op.token || decide (q % 2 = 0) || !s.tokenFor k op then s
      else s.modLink k (fun l => { l.setHead q { op with token := true } with
        tokens := l.tokens + 1, relocTokens := if op.reloc then l.relocTokens + 1 else l.relocTokens }))

/-- Blocks whose erase goes out are erasing (09 R266). -/
def State.erasing (s : State) (k : Nat) (op : LinkOp) : State :=
  if op.opc = 4 then s.modBlk (opBlk k op) (fun b => { b with st := .erasing }) else s

/-- The queue that a channel serves now: its read queue first. -/
def State.chanServes (s : State) (k c : Nat) : Option Nat :=
  let head := fun q => match tget (s.link k).queues q [] with | op :: _ => s.opReady k op | [] => false
  if head (2 * c) then some (2 * c) else if head (2 * c + 1) then some (2 * c + 1) else none

/-- LINK_QUEUE_SERVE (10 R295): the channels in turn, the read queue first. From PFAIL# on no erase starts (09 R262). -/
def execLinkQueueServe (k : Nat) (s : State) : Host.Outcome State Fault Refusal :=
  let order := (List.range 8).map (fun i => ((s.link k).nextChan + i) % 8)
  .next (match order.findSome? (fun c => (s.chanServes k c).map (fun q => (c, q))) with
    | none => s
    | some (c, q) => match tget (s.link k).queues q [] with
      | [] => s
      | op :: r =>
        if s.pwr.pfailLow && op.opc == 4 then s
        else ((s.modLink k (fun l => { l with queues := tset l.queues q r, nextChan := (c + 1) % 8 })).erasing k op).opSend k op)

/-- Deadline of a read unit in µs, if it has one (01 R23): the hint that READ and VERIFY carry (04 R105, R106), else the
class's latency target. -/
def State.deadline (s : State) (x : Slot) : Option Nat :=
  let c := cmdOf x.cmd
  let d := if (c.opc == 1 || c.opc == 8) && decide (c.dlh ≠ 0) then c.dlh else s.targetFor x.cls x.latTgt
  if d = 0 then none else some d

/-- Slack of a read in µs (01 R23). -/
def State.slackOf (s : State) (x : Slot) (est : Nat) : Option Int :=
  (s.deadline x).map (fun d => (d : Int) - ((s.now - x.acceptAt) / 10 : Nat) - est)

/-- What remains of a die's operation, in µs, as the controller reckons it (01 R24): what was known last less the time since,
and nothing while it is suspended (DEDUCED, log 60). -/
def State.dieRemain (s : State) (d : Die) : Nat :=
  if d.op.isNone || inR 4 5 d.st then 0 else d.remainUs - (s.now - d.remainAt) / 10

/-- None of the other 31 dies of the quire is busy beyond the slack (01 R24 step 2). -/
def State.othersFree (s : State) (l : MediaLoc) (slack : Int) : Bool :=
  (List.range 32).all (fun p => decide (p = l.pos) || (match s.reamBlk l.ream p with
    | none => false
    | some b => let d := s.die (s.locLink { l with pos := p }) (b / 8192 % 128)
      d.op.isNone || decide ((s.dieRemain d : Int) ≤ slack)))

/-- Let the head read of a channel wait (01 R24). -/
def State.headWaits (s : State) (k q : Nat) (op : LinkOp) : State := s.modLink k (fun l => l.setHead q { op with waits := true })

/-- The decision for a read unit whose die is busy (01 R24). -/
def State.busyDecide (s : State) (k q : Nat) (op : LinkOp) (i idx : Nat) (x : Slot) (l : MediaLoc) (est remain progress : Nat) : State :=
  let d := s.die k op.die
  let s := s.modDie k op.die (fun d => { d with remainUs := remain, remainAt := s.now, progressUs := progress })
  match s.slackOf x est with
  | none => s.headWaits k q op
  | some slack =>
    if (remain : Int) ≤ slack then s.headWaits k q op
    else if 0 < s.bucketTokens x.cls && s.othersFree l slack && s.reconOk l then
      let s := s.modLink k (fun m => { m with queues := tset m.queues q ((tget m.queues q []).drop 1) })
      let s := { s with cal := { s.cal with buckets := tset s.cal.buckets x.cls (tget s.cal.buckets x.cls 0 - tokenUnit) } }
      ((s.startRecon i idx l (s.unitRung i idx)).modUnit i idx (fun u => { u with rbusy := true }))
    else
      let excess := (remain : Int) - slack
      let roomOk := match excessNeeded (s.slevel x.cls) with | some n => decide ((n : Int) ≤ excess) | none => false
      if decide (d.nsus < 15) && decide (500 ≤ progress) && roomOk then
        ((s.headWaits k q op).opDirect k { opc := 5, die := op.die }).modUnit i idx (fun u => { u with susp := true })
      else s.headWaits k q op

/-- BUSY_DIE_DECISION (01 R24): made once, when the read is at the head of its link queue and its die programs or erases. -/
def execBusyDieDecision (k c est remain progress : Nat) (s : State) : Host.Outcome State Fault Refusal :=
  let q := 2 * c
  .next (match tget (s.link k).queues q [] with
    | [] => s
    | op :: _ =>
      let d := s.die k op.die
      if !opIsRead op.opc ∨ op.waits ∨ d.op.isNone ∨ !(d.st == 2 || d.st == 3) then s
      else match op.owner with
        | .unit i idx => match s.slot i, s.unitLoc i idx with
          | some x, some l => s.busyDecide k q op i idx x l est remain progress
          | _, _ => s
        | _ => s.headWaits k q op)

end Sys2Proof.Machine
end

