-- ==== Sys2Proof/Machine/Media.lean ====
section
/-! DEFINITION. The media rows: programs, quires, decodes, replacement, reams, erases, relocation, collection, flush area,
journal and intent pages (09 R246–R269; 11 R320–R324). -/

namespace Sys2Proof.Machine

/-! ### Decodes and the read ladder (09 R249, R250; 11 R320, R323) -/

/-- Steps 1 to 3 of the metadata check of a converged codeword, which are all of a slice's (11 R320). -/
def sliceGood (cw : CwMeta) (epoch : Nat) : Bool := cw.mcrcOk && decide (cw.ver = 1) && decide (cw.epoch = epoch)

/-- The metadata check of a converged codeword (11 R320). -/
def cwGood (cw : CwMeta) (epoch nsid lba : Nat) : Bool :=
  sliceGood cw epoch &&
  (!(cw.kind == 0 || cw.kind == 3 || cw.kind == 4) || (decide (cw.lba = lba) && decide (cw.nsid = nsid)))

/-- After a failed decode of a read or a slice: the rung, level set, sets tried and opcode of its next read, rung 2 through
the level sets in turn, at most `med.retry_max` of them, then rung 3; none after rung 3 (09 R249). -/
def nextRead (rung lset tries most : Nat) : Option (Nat × Nat × Nat × Nat) :=
  if rung ≤ 2 then (if tries < most then some (2, (lset + 1) % 16, tries + 1, 1) else some (3, lset, tries, 2)) else none

/-- Send a read of a unit again at another rung, level set and operation. -/
def State.unitReread (s : State) (i idx : Nat) (n : Nat × Nat × Nat × Nat) (l : MediaLoc) : State :=
  match s.readOp l n.2.2.2 n.2.1 (.unit i idx) with
  | some (k, op) => (s.linkQueue k op true).modUnit i idx (fun u => { u with
      st := .media, rung := n.1, lset := n.2.1, tries := n.2.2.1, recon := false })
  | none => s.unitFail i idx

/-- The next rung after a failed decode of a block, under the `med.retry_max` of the command's acceptance (01 R10; 09 R249):
rung 4 gives up where the quire is not verified or a slice cannot be read. -/
def State.nextRung (s : State) (i idx : Nat) (x : Slot) (u : IoUnit) (l : MediaLoc) : State :=
  match nextRead u.rung u.lset u.tries x.retryMax with
    | some n => s.unitReread i idx n l
    | none => if u.rung = 3 && s.reconOk l then s.startRecon i idx l 4 else s.unitFail i idx

/-- The next rung after a failed decode of a slice (01 R25; 09 R248): a slice that fails rung 3 fails the reconstruct. -/
def State.sliceNext (s : State) (i idx p : Nat) (x : Slot) (c : Slice) (l : MediaLoc) : State :=
  match nextRead c.rung c.lset c.tries x.retryMax with
  | none => s.reconFail i idx
  | some n => match s.readOp l n.2.2.2 n.2.1 (.slice i idx p) with
    | some (k, op) =>
      let g : Slice := { rung := n.1, lset := n.2.1, tries := n.2.2.1 }
      (s.linkQueue k op true).modUnit i idx (fun u => { u with slices := tset u.slices p g })
    | none => s.reconFail i idx

/-- Count a failed decode: at rung 3 a soft one, else a hard one (11 R325). -/
def State.decodeFail (s : State) (soft conv : Bool) : State :=
  { s with ldp := { s.ldp with
    hardFail := if soft then s.ldp.hardFail else satInc s.ldp.hardFail
    softFail := if soft then satInc s.ldp.softFail else s.ldp.softFail
    mdFail := if conv then satInc s.ldp.mdFail else s.ldp.mdFail } }

/-- A soft decode starts: it is counted, also for telemetry (09 R268; 11 R325). -/
def State.softStart (s : State) : State :=
  { s with
    ldp := { s.ldp with softRun := satInc s.ldp.softRun }
    media := { s.media with softDecodes := s.lastHour s.media.softDecodes ++ [s.now] } }

/-- The level set that succeeded at rung 2 or 3 updates the die's level table for the block group (09 R249). -/
def State.learnSet (s : State) (l : MediaLoc) (rung lset : Nat) : State :=
  if inR 2 3 rung then match s.reamBlk l.ream l.pos with
    | some b => s.modDie (s.locLink l) (b / 8192 % 128) (fun d => { d with levels := tset d.levels (Config.blockGroup (b % 8192)) lset })
    | none => s
  else s

/-- A decode succeeds: the level table learns, a late rung schedules a refresh, and the block goes on to the lane of its link, or
that lane's replacement (11 R329, R330); an unreadable marker fails, a pad reads as an unwritten block, tag included (04 R112;
09 R249, R250; 11 R320). -/
def State.decodePass (s : State) (i idx : Nat) (x : Slot) (u : IoUnit) (l : MediaLoc) (kind : Nat) (lost : Bool) : State :=
  let s := if u.recon then s else s.learnSet l u.rung u.lset
  let s := if x.relocRung ≤ u.rung then s.refreshAt l else s
  if kind = 5 || lost then s.postUnit (s.locLink l) i idx { u with recon := false } 0x200
  else if kind = 1 then
    s.postUnit (s.locLink l) i idx { u with unwritten := true, plain := zeros 4096, recon := false
                                            tag := ((s.nsAny u.nsid).map (fun n => zeroTag n u.lba)).getD 0 } 0
  else (s.enterLane (s.laneRoute (s.locLink l)) i idx).modUnit i idx (fun u => { u with st := .cipher, recon := false })

/-- The metadata that a reconstruct recovers: its target's exactly, as it stands on media; slices whose wrong bytes escaped their
checks show in MCRC (11 R319). -/
def State.reconMeta (s : State) (u : IoUnit) (v : BlkVer) (l : MediaLoc) (cw : CwMeta) : CwMeta :=
  { conv := true, mcrcOk := cw.mcrcOk, epoch := s.epochAt l, lba := u.lba, nsid := u.nsid, btag := v.tag
    kslot := v.data.slot, kgen := v.data.gen, kind := if v.lost then 5 else kindOf ((tfind s.media.reams l.ream).map Ream.kind |>.getD 0) }

/-- The decode of a unit's own codeword. -/
def State.unitDecoded (s : State) (i idx : Nat) (x : Slot) (u : IoUnit) (v : BlkVer) (l : MediaLoc) (cw : CwMeta) : State :=
  let soft := decide (u.rung = 3)
  let s := if soft then s.softStart else s
  let s := if cw.conv && cwGood cw (s.epochAt l) u.nsid u.lba then s.decodePass i idx x u l cw.kind v.lost
    else (s.decodeFail soft cw.conv).nextRung i idx x u l
  if soft then s.healthCheck else s

/-- The check of what the slices of a reconstruct give; it is no decode, and counts as none (09 R248; 11 R319, R325). -/
def State.reconDone (s : State) (i idx : Nat) (x : Slot) (u : IoUnit) (v : BlkVer) (l : MediaLoc) (cw : CwMeta) : State :=
  let m := s.reconMeta u v l cw
  if cwGood m (s.epochAt l) u.nsid u.lba then s.decodePass i idx x u l m.kind v.lost else s.reconFail i idx

/-- The decode of one slice of a reconstruct (01 R25; 09 R248, R249), whose buffer goes back once its data is in the XOR; the last
one leaves the XOR to be checked. -/
def State.sliceDecoded (s : State) (i idx p : Nat) (x : Slot) (u : IoUnit) (c : Slice) (l : MediaLoc) (cw : CwMeta) : State :=
  let soft := decide (c.rung = 3)
  let s := if soft then s.softStart else s
  let s := if cw.conv && sliceGood cw (s.epochAt l) then
      let g := tset u.slices p { c with done := true }
      ((s.learnSet l c.rung c.lset).modUnit i idx (fun u => { u with
        slices := g, st := if g.all (fun q => q.2.done) then .decode else .media })).placeBack i (sliceBuf idx p)
    else (s.decodeFail soft cw.conv).sliceNext i idx p x c l
  if soft then s.healthCheck else s

/-- Decoders of a kind that passed their test (11 R321, R322). -/
def Ldp.decoders (l : Ldp) (soft : Bool) : Nat := if soft then 16 - l.softOff else 48 - l.hardOff

/-- The codeword is in a decoder: they are granted in arrival order (11 R321, R323; log 52). -/
def Ldp.decoding (l : Ldp) (j : DecJob) : Bool := ((l.jobs.filter (fun c => c.soft == j.soft)).take (l.decoders j.soft)).contains j

/-- A decoder is done with a codeword. -/
def State.decLeave (s : State) (j : DecJob) : State := { s with ldp := { s.ldp with jobs := s.ldp.jobs.erase j } }

/-- DECODE_DONE (11 R320, R323; 09 R248, R249): of a block's codeword, or of the slice at a position; where all slices are
decoded, of their XOR. -/
def execDecodeDone (i idx : Nat) (cw : CwMeta) (s : State) : Host.Outcome State Fault Refusal :=
  .next (match s.slot i with
    | none => s
    | some x => match tfind x.units idx with
      | none => s
      | some u => match (s.blk u.nsid u.lba).media with
        | none => s
        | some (v, l) => match cw.slice with
          | none =>
            let j : DecJob := { slot := i, idx := idx, soft := decide (u.rung = 3) }
            if u.st ≠ .decode then s
            else if u.recon then (s.reconDone i idx x u v l cw).stopDue i
            else if !s.ldp.decoding j then s
            else ((s.decLeave j).unitDecoded i idx x u v l cw).stopDue i
          | some p => match tfind u.slices p with
            | none => s
            | some c =>
              let j : DecJob := { slot := i, idx := idx, slice := some p, soft := decide (c.rung = 3) }
              if u.st ≠ .media ∨ u.recon = false ∨ c.arrived = false ∨ c.done = true ∨ s.ldp.decoding j = false then s
              else ((s.decLeave j).sliceDecoded i idx p x u c { l with pos := p } cw).stopDue i)

/-! ### Programs and quires (01 R21; 09 R247, R251) -/

/-- SHEET_PROGRAM_ISSUE (01 R21; 09 R251; 11 R322): an assembled sheet is encoded and its program queued. An encoder that fails twice
is fenced, and the pair's other one encodes; with both fenced the links are in FAULT and no sheet is issued. The sheets of the flush area
go the same way (09 R261). -/
def execSheetProgramIssue (id q p encFaults : Nat) (s : State) : Host.Outcome State Fault Refusal :=
  .next (match tfind s.media.reams id with
    | none => s
    | some r => match s.progBlk r p with
      | none => s
      | some b =>
        let k := 32 * r.deckle + p
        if !s.mediaRuns ∨ r.kind = 3 ∨ 5 ≤ r.kind ∨ r.quireCount ≤ q ∨ 32 ≤ p ∨ (r.quire q).issued.getLsbD p = true ∨ s.sheetFull id r q p = false then s
        else match s.encoderFor k with
          | none => s
          | some e =>
            let s := if 2 ≤ encFaults then s.encFault e else s
            if (s.encoderFor k).isNone then s
            else
              let s := (s.modReam id (fun r => { r with quires := tmod r.quires q {} (fun x => { x with issued := x.issued ||| (1#32 <<< p) }) }))
              (s.sheetMark id q p).queueSheet k (sheetOp (.sheet id q p) q b (decide (r.kind = 4)) (r.target || r.gc)))

/-- QUIRE_VERIFIED (09 R251): all 32 sheets report success, and the last page of each decodes. -/
def execQuireVerified (id q : Nat) (s : State) : Host.Outcome State Fault Refusal :=
  .next (match tfind s.media.reams id with
    | none => s
    | some r =>
      if (r.quire q).programmed ≠ 0xFFFFFFFF#32 ∨ (r.quire q).verified = true then s
      else ((s.quireDone id q r).jrec r.deckle).flushTrim.runTrim.dumpTrim)

/-! ### Replacement (09 R252, R253) -/

/-- The quires whose sheet at a position is programmed, and the first issued one whose sheet is not. -/
def Ream.programmedAt (r : Ream) (p : Nat) : List Nat := (r.quires.filter (fun q => q.2.programmed.getLsbD p)).map Prod.fst

/-- The first issued quire whose sheet at a position is not programmed. -/
def Ream.failedQuire (r : Ream) (p : Nat) : Option Nat :=
  (r.quires.find? (fun q => q.2.issued.getLsbD p && !q.2.programmed.getLsbD p)).map Prod.fst

/-- Start the replacement of a ream's block on a new one (09 R252): the new block takes its OWNER record, the sheets programmed so far
are copied to it at the relocation share, and those that were issued and are not programmed are issued again. A spare that does not
read as stamped is erased and verified first (09 R243, R267). -/
def State.replStart (s : State) (id p b nb cause : Nat) (r : Ream) : State :=
  if !(s.mblk nb).asStamped then s.eraseLater nb
  else
    let qs := r.programmedAt p
    let s := s.blkJoin nb id p r
    let s := s.modReam id (fun r => { r with quires := tmap r.quires (fun _ x =>
      if x.programmed.getLsbD p then x else { x with issued := x.issued &&& ~~~(1#32 <<< p) }) })
    let s := { s with media := { s.media with repls := tset s.media.repls b { new := nb, todo := qs, quire := r.failedQuire p, cause := cause } } }
    let s := qs.foldl (fun s q => s.queueSheet (32 * r.deckle + p) (sheetOp (.copy b q) q nb (decide (3 ≤ r.kind)) true)) s
    ((s.sparesCheck (b / 2 ^ 20)).healthCheck).replTry b

/-- A ream's block needs a replacement: one step down the order of 09 R252, or R253. -/
def State.replFor (s : State) (id p b cause : Nat) (r : Ream) : State :=
  match s.sparePick b with
  | some nb => s.replStart id p b nb cause r
  | none =>
    let s := { s with media := { s.media with bad := tdel s.media.bad b } }
    let s := s.modBlk b (fun x => { x with st := .retired })
    ((s.noReplacement id p r).sparesCheck (b / 2 ^ 20)).healthCheck

/-- The block that a new one is replacing. -/
def State.replOld (s : State) (nb : Nat) : Option (Nat × Repl) := s.media.repls.find? (fun x => x.2.new == nb)

/-- A replacement block fails during the copy, or its program is suspect: its queued copies go, and it is retired, or erased; the block
that it was to replace takes the next step of the order (09 R252). -/
def State.replFailed (s : State) (b cause nb : Nat) : State :=
  let mine := fun (o : LinkOp) => match o.owner with | .copy x _ => x == b | _ => false
  let gone := (s.link (b / 2 ^ 20)).queues.flatMap (fun q => q.2.filter mine)
  let s := s.modLink (b / 2 ^ 20) (fun l => { (gone.foldl (fun l o => l.tokenBack o) l) with
    queues := tmap l.queues (fun _ q => q.filter (fun o => !mine o)) })
  let s := { s with media := { s.media with bad := tdel s.media.bad nb, repls := tdel s.media.repls b } }
  let s := if cause = 1 then s.eraseLater nb else s.modBlk nb (fun x => { x with st := .retired })
  match s.reamOf b, tfind s.media.bad b with
  | some (id, r, p), some c => s.replFor id p b c r
  | _, _ => s

/-- A block in no ream is retired, and a spare takes its place; without one its deckle can form a ream less, and the event is recorded with
ream 0, for it has none (09 R252, R253; DESIGN CHOICE, log 91). -/
def State.replLoose (s : State) (b : Nat) : State :=
  let role := (s.mblk b).role
  let s := { s with media := { s.media with bad := tdel s.media.bad b } }
  let s := s.modBlk b (fun x => { x with st := .retired })
  let s := match s.sparePick b with
    | some nb => s.modBlk nb (fun x => { x with st := role, role := role })
    | none => (s.modDk (b / 2 ^ 25) (fun x => { x with capacity := x.capacity - 1 })).ledEvent 0x2002 (leBytes 4 0 ++ leBytes 1 (b / 2 ^ 20 % 32))
  ((s.jrec (b / 2 ^ 25)).sparesCheck (b / 2 ^ 20)).healthCheck

/-- BLOCK_REPLACEMENT (09 R252, R253; 05 R146). -/
def execBlockReplacement (b cause : Nat) (s : State) : Host.Outcome State Fault Refusal :=
  .next (match tfind s.media.bad b with
    | none => s
    | some c =>
      if c ≠ cause ∨ (tfind s.media.repls b).isSome = true ∨
          ((s.sparePick b).isNone ∧ (s.reamOf b).any (fun x => s.goneWaits x.2.1) = true) then s
      else match s.replOld b with
        | some (old, _) => s.replFailed old cause b
        | none => match s.reamOf b with
          | some (id, r, p) => s.replFor id p b cause r
          | none => s.replLoose b)

/-- FAULT_HOLD_EXPIRY (10 R311): every block of the link has no replacement. -/
def execFaultHoldExpiry (k : Nat) (s : State) : Host.Outcome State Fault Refusal :=
  let l := s.link k
  .next (if l.st ≠ 6 ∨ l.faultOver = true then s
    else
      let s := s.modLink k (fun l => { l with faultOver := true, queues := [] })
      let rs := s.media.reams.filter (fun r => decide (r.2.deckle = k / 32) && (r.2.entries.getD (k % 32) none).isSome)
      rs.foldl (fun s r => if s.goneWaits r.2 then s.blkBad ((r.2.entries.getD (k % 32) none).getD 0) 0
        else s.noReplacement r.1 (k % 32) r.2) s)

/-! ### Reams and erases (09 R243, R254, R257, R266) -/

/-- A scheduled refresh of a kind of ream that may start: the named zone's ream, or a full run of the group. -/
def State.refreshPick (s : State) (kind grp nsid zone : Nat) : Option Nat :=
  s.media.refresh.find? (fun id => match tfind s.media.reams id with
    | some r => decide (r.kind = kind) && s.mayMove id r &&
        (if kind = 1 then decide (r.nsid = nsid ∧ zoneOfLba r.zslba = zone) else decide (r.grp = grp))
    | none => false)

/-- Dump reams formed on a deckle. -/
def State.dumpReams (s : State) (d : Nat) : Nat := (s.media.reams.filter (fun r => decide (r.2.kind = 5 ∧ r.2.deckle = d))).length

/-- The controller needs one more ream of its own structures: the flush area holds 16, and D dump reams are formed beside
those that still hold a dump (09 R246, R261, R264). -/
def State.ownWanted (s : State) (d kind : Nat) : Bool :=
  decide (kind = 3) || (decide (kind = 4) && !s.flushAll d) ||
  (decide (kind = 5) && decide (s.dumpReams d < dumpWanted s.media.cap0 + (s.dk d).dumpHeld))

/-- REAM_FORMATION (09 R254, R255): a target for a scheduled refresh, or a ream of the journal, the flush area or the dump.
Reams of zones and open runs are formed by the commands that need them. -/
def execReamFormation (d kind grp nsid zone : Nat) (s : State) : Host.Outcome State Fault Refusal :=
  .next (if !s.mediaRuns ∨ 3 ≤ d then s
    else if kind = 1 ∨ kind = 2 then
      (match s.refreshPick kind grp nsid zone with | some id => s.relocStart id 0 | none => s)
    else if s.ownWanted d kind = true then
      (match s.formReam d kind grp 0 0 0 with | .ok t _ => t | .wait t => t | .fail t => t)
    else s)

/-- What follows the verified erase of a block (09 R242, R254, R266). -/
def State.eraseOk (s : State) (b : Nat) : State :=
  let s := s.blkErased b
  let s := { s with media := { s.media with erasesDone := s.media.erasesDone + 1, reamAt := s.now } }
  let s := s.modDk (b / 2 ^ 25) (fun x => { x with
    doneWait := x.doneWait ++ [b], reErase := x.reErase.filter (· ≠ b) })
  (s.jrec (b / 2 ^ 25)).healthCheck

/-- ERASE_DONE (09 R252, R254, R257): an erase that fails retires its block, which then needs a replacement. -/
def execEraseDone (b : Nat) (ok : Bool) (s : State) : Host.Outcome State Fault Refusal :=
  .next (if (s.mblk b).st ≠ .erasing ∨ (s.link (b / 2 ^ 20)).tags.any (fun t => decide (t.2.op.owner = .erase b)) = true then s
    else if !ok then (s.modBlk b (fun x => { x with st := .retired })).blkBad b 2
    else
      let s := s.eraseOk b
      (List.range 16).foldl (fun s g => if s.inGroup g (b / 2 ^ 25) then s.wearMove g else s) s)

/-- Every quire that the source has on media is verified in the target (09 R255 step 3). -/
def relocReady (src tgt : Ream) : Bool :=
  src.quires.all (fun q => !q.2.verified || (tgt.quire q.1).verified)

/-- RELOCATION_SWITCH (09 R255, R257). -/
def execRelocationSwitch (src : Nat) (s : State) : Host.Outcome State Fault Refusal :=
  .next (match s.media.relocs.find? (fun (m : Reloc) => m.src == src) with
    | none => s
    | some m => match tfind s.media.reams src, tfind s.media.reams m.tgt with
      | some r, some t =>
        if !s.mediaRuns ∨ relocReady r t = false then s
        else
          let s := s.relocSwap src m.tgt r
          if m.cause = 1 then s.wearMove r.grp else s
      | _, _ => s)

/-! ### Collection (09 R258) -/

/-- GC_START (09 R253, R258). -/
def execGcStart (g : Nat) (s : State) : Host.Outcome State Fault Refusal :=
  .next (if 16 ≤ g ∨ (s.grp g).victim.isSome = true ∨ !((s.grp g).gcOn || decide (s.freePct g < s.pvA pGcStart) || s.hasEvac g) then s
    else match s.gcVictim g with
      | none => s
      | some v => (s.urgencyCheck g).modGrp g (fun x => { x with gcOn := true, victim := some v }))

/-- Blocks of a bundle that stand in a ream. -/
def State.bundleIn (s : State) (nsid b id : Nat) : Bool :=
  (List.range 16).any (fun i => (s.blk nsid (16 * b + i)).within id)

/-- GC_BUNDLE_MOVE (09 R258): the entry moves only if it still points at the victim. -/
def execGcBundleMove (nsid b : Nat) (s : State) : Host.Outcome State Fault Refusal :=
  .next (match tfind s.nss nsid with
    | none => s
    | some ns => match (List.range 16).find? (fun g => match (s.grp g).victim with
        | some v => s.bundleIn nsid b v
        | none => false) with
      | none => s
      | some g => match (s.grp g).victim, s.gcPlaces g nsid ns with
        | some v, .ok t locs => match t.bundleTo nsid b locs [] false with
          | some t => ((t.jrec (v / 2 ^ 20)).modGrp g (fun x => { x with moved := x.moved + 1 })).gcSettle g v
          | none => s
        | _, .wait t => t
        | _, .fail t => t
        | none, _ => s)

/-! ### Flush area, dump reams, journal, intents (09 R246, R261, R264, R266) -/

/-- STAGING_EVICTION (09 R261). -/
def execStagingEviction (d : Nat) (s : State) : Host.Outcome State Fault Refusal :=
  .next (if 3 ≤ d ∨ !s.mediaRuns then s
    else (s.evictRun d (s.evictDue d)).dumpTrim)

/-- DUMP_REAM_READY (09 R264): one more ready dump ream, of which a deckle holds at most D; the cap is taken again. -/
def execDumpReamReady (d : Nat) (s : State) : Host.Outcome State Fault Refusal :=
  let up := fun (s : State) => s.watching (fun s => (s.modDk d (fun x => { x with dumpReady := x.dumpReady + 1 })).recap)
  .next (if 3 ≤ d ∨ !s.mediaRuns ∨ dumpWanted s.media.cap0 ≤ (s.dk d).dumpReady then s
    else if (s.dk d).dumpReady + (s.dk d).dumpHeld < s.dumpReams d then up s
    else match s.formReam d 5 0 0 0 0 with
      | .ok t _ => up t
      | .wait t => t
      | .fail t => t)

/-- MAP_CHECKPOINT (09 R246). -/
def execMapCheckpoint (d : Nat) (s : State) : Host.Outcome State Fault Refusal :=
  .next (if 3 ≤ d ∨ !s.mediaRuns then s else s.modDk d (fun x => { x with ckptSeq := x.jseq, ckpts := x.ckpts + 1 }))

/-- A link of the deckle has a free token for a journal program (12 R354). -/
def State.journalToken (s : State) (d : Nat) : Bool :=
  (List.range 32).any (fun i => decide ((s.link (32 * d + i)).tokens < s.tokenLimit (32 * d + i)))

/-- JOURNAL_PROGRAM (09 R246): a buffer with nothing new is not programmed again; the program waits for a token (12 R354). -/
def execJournalProgram (d : Nat) (s : State) : Host.Outcome State Fault Refusal :=
  .next (if 3 ≤ d ∨ !s.mediaRuns ∨ s.journalToken d = false then s else s.modDk d (fun x => { x with jprog := x.jbuf }))

/-- INTENT_BATCH (09 R266): the intent bits are programmed, completion bits of earlier erases with them, and the erases
that waited are queued. -/
def execIntentBatch (d : Nat) (s : State) : Host.Outcome State Fault Refusal :=
  .next (if 3 ≤ d ∨ !s.mediaRuns then s
    else
      let x := s.dk d
      let s := s.modDk d (fun x => { x with
        intentWait := [], doneWait := [], intentSet := (x.intentSet.filter (fun b => !x.doneWait.contains b)) ++ x.intentWait })
      x.intentWait.foldl (fun s b => s.queueErase b) s)

end Sys2Proof.Machine
end

