-- ==== Sys2Proof/Machine/Oob.lean ====
section
/-! DEFINITION. Out of band and beside the BARs: the MCTP endpoint, the DOE mailbox, SPDM sessions and IDE (02 R54–R57; 06
R191–R193; 16 R442). Messages of other standards carry their codes and the content that this spec gives them (log 43). -/

namespace Sys2Proof.Machine

/-! ### The MCTP endpoint (06 R191, R192; 16 R440, R442) -/

/-- The endpoint holds or serves a request already: the new one is refused (06 R192). -/
def State.oobFull (s : State) : Bool := s.adm.oob.isSome || s.adm.oobHeld.isSome

/-- The refusal of a request that finds another in the endpoint (06 R192). -/
def State.oobRefuse (s : State) (r : Req) : State := s.mctpSend (mctpHead ++ replyBytes r 4 0x405 0 [])

/-- The endpoint's address is written while the controller is DORMANT: a wake event, lost in the entry window (16 R440,
R442). A request waits for the wake, unless the endpoint has one (06 R192). -/
def State.oobWake (s : State) (r : Option Req) : State :=
  if s.pwr.stuck then s
  else if s.pwr.phase = 2 ∧ s.pwr.entryStep = 10 then s.wake 5
  else
    let s := match r with
      | none => s
      | some r => if s.oobFull then s.oobRefuse r else { s with adm := { s.adm with oobHeld := some r } }
    s.wake 5

/-- An assembled message is a mailbox request: type 0x7E, the vendor ID, and at most 4,096 bytes of mailbox header and payload, which is a
whole request of 06 R164 (06 R191; log 43). The endpoint drops any other (DESIGN CHOICE, log 43). -/
def mctpTakes (bytes : List Byte) : Bool := decide (bytes.length ≤ 3 + 4096) && bytes.take 3 == mctpHead

/-- MCTP_MESSAGE (06 R191, R192): an assembled message on the management bus. A request that arrives before READY waits for
it, as in a dormant state (DEDUCED, log 44). -/
def execMctpMessage (bytes : List Byte) (s : State) : Res :=
  let r := reqOfBytes (bytes.drop 3)
  .next (if !s.brd.pwrgd then s
    else if !mctpTakes bytes then (if s.modeOf = 5 then s.oobWake none else s)
    else if s.modeOf = 5 then s.oobWake (some r)
    else if s.oobFull then s.oobRefuse r
    else if s.modeOf = 0 then { s with adm := { s.adm with oobHeld := some r } }
    else ({ s with pwr := { s.pwr with gated := false } }).oobTake r)

/-- Answer an MCTP control message (06 R191); in a dormant state the transfer is a wake event. -/
def State.mctpControl (s : State) (k : State → State) : State :=
  if !s.brd.pwrgd then s else if s.modeOf = 5 then s.oobWake none else k s

/-- Set Endpoint ID (06 R191): 0 and 0xFF name no endpoint (PRESUMED, log 43). -/
def execSetEndpointId (eid : Nat) (s : State) : Res :=
  .next (s.mctpControl (fun s =>
    if inR 1 254 eid then
      ({ s with adm := { s.adm with eid := BitVec.ofNat 8 eid } }).mctpSend (leBytes 1 0 ++ leBytes 1 0 ++ leBytes 1 eid ++ zeros 1)
    else s.mctpSend (leBytes 1 2)))

/-- Get Endpoint ID (06 R191). -/
def execGetEndpointId (s : State) : Res :=
  .next (s.mctpControl (fun s => s.mctpSend (leBytes 1 0 ++ leBytes 1 s.adm.eid.toNat ++ zeros 2)))

/-- Get MCTP Version Support (06 R191): the version numbers are not stated (log 11). -/
def execGetMctpVersionSupport (s : State) : Res :=
  .next (s.mctpControl (fun s =>
    let (v, s) := s.fresh
    s.mctpSend (leBytes 1 0 ++ leBytes 1 1 ++ leBytes 4 v.toNat)))

/-- Get Message Type Support (06 R191): type 0x7E. -/
def execGetMessageTypeSupport (s : State) : Res :=
  .next (s.mctpControl (fun s => s.mctpSend (leBytes 1 0 ++ leBytes 1 1 ++ leBytes 1 0x7E)))

/-! ### DOE (02 R54) -/

/-- The DOE mailbox of a PF answers. The spec does not say whether it does while the controller is DORMANT or during an FLR of the PF: it is
silent in both (DESIGN CHOICE, log 87). -/
def State.doeUp (s : State) (p : Nat) : Bool := s.isPf p && s.reach p && !(s.fn p).flr && decide (s.modeOf ≠ 5)

/-- A data object reaches the mailbox: one of more than 1,024 DW sets the DOE Error bit, which a DOE Abort clears. -/
def State.doeIn (s : State) (p dwords kind : Nat) (k : State → State) : State :=
  if !s.doeUp p || (s.fn p).doeErr then s
  else if 1024 < dwords then (s.modFn p (fun f => { f with doeErr := true })).emit (.doe p true kind [])
  else k s

/-- The discovery entry of an index: vendor 0x0001, the protocol, the next index (PRESUMED, log 43). -/
def doeEntry (i : Nat) : List Byte :=
  if i ≤ 2 then leBytes 2 1 ++ leBytes 1 i ++ leBytes 1 ((i + 1) % 3) else leBytes 2 0xFFFF ++ zeros 2

/-- DOE Discovery (02 R54): answered from reset onward. -/
def execDoeDiscovery (p dwords index : Nat) (s : State) : Res :=
  .next (s.doeIn p dwords 0 (fun s => s.emit (.doe p false 0 (doeEntry index))))

/-- DOE Abort (02 R54). -/
def execDoeAbort (p : Nat) (s : State) : Res :=
  .next (if s.doeUp p then s.modFn p (fun f => { f with doeErr := false }) else s)

/-! ### SPDM (02 R54, R55; 15 R433) -/

/-- An SPDM ERROR response of version 1.2 (02 R54; PRESUMED for the codes other than Busy 0x03, log 43). -/
def spdmError (code : Nat) : List Byte := leBytes 1 0x12 ++ leBytes 1 0x7F ++ leBytes 1 code ++ zeros 1

/-- Send an SPDM ERROR. -/
def State.spdmFail (s : State) (p kind code : Nat) : State := s.emit (.doe p false kind (spdmError code))

/-- Send an SPDM response: version, response code, content. With the two-word header of a data object it fits in 1,024 DW
(02 R54). -/
def State.spdmSay (s : State) (p kind code : Nat) (content : List Byte) : State :=
  s.emit (.doe p false kind (leBytes 1 0x12 ++ leBytes 1 code ++ content.take 4086))

/-- An SPDM request arrives: ERROR Busy before the boot measurement is complete (02 R54). -/
def State.spdmIn (s : State) (p dwords kind : Nat) (k : State → State) : State :=
  s.doeIn p dwords kind (fun s => if s.led.bootSealed then k s else s.spdmFail p kind 3)

/-- A request that needs the negotiation behind it; else UnexpectedRequest. -/
def State.spdmAfter (s : State) (p dwords : Nat) (done : Fn → Bool) (k : State → State) : State :=
  s.spdmIn p dwords 1 (fun s => if done (s.fn p) then k s else s.spdmFail p 1 4)

/-- GET_VERSION (02 R55): the negotiation starts again. -/
def execGetVersion (p dwords : Nat) (s : State) : Res :=
  .next (s.spdmIn p dwords 1 (fun s =>
    (s.modFn p (fun f => { f with spdmVersion := true, spdmCaps := false, spdmAlgs := false })).spdmSay p 1 0x04 (leBytes 1 0x12)))

/-- The responder's capability flags (02 R55): certificate, challenge, signed measurements, encryption, MAC, key exchange,
heartbeat and key update; no mutual authentication, PSK or CSR (PRESUMED for the places of the bits, log 43). -/
def spdmFlags : Nat := 2 ^ 1 + 2 ^ 2 + 2 ^ 4 + 2 ^ 6 + 2 ^ 7 + 2 ^ 9 + 2 ^ 13 + 2 ^ 14

/-- GET_CAPABILITIES (02 R55). -/
def execGetCapabilities (p dwords : Nat) (s : State) : Res :=
  .next (s.spdmAfter p dwords Fn.spdmVersion (fun s =>
    (s.modFn p (fun f => { f with spdmCaps := true })).spdmSay p 1 0x61 (leBytes 4 spdmFlags)))

/-- The algorithm set (02 R55): ECDSA P-384, SHA-384 with SHA-384 measurements, ECDHE on P-384, AES-256-GCM and the SPDM key
schedule, by their bits of the standard (PRESUMED, log 43). -/
def spdmAlgSet : List Byte := leBytes 4 0x80 ++ leBytes 4 0x02 ++ leBytes 4 0x04 ++ leBytes 2 0x10 ++ leBytes 2 0x02 ++ leBytes 2 1

/-- NEGOTIATE_ALGORITHMS (02 R55). -/
def execNegotiateAlgorithms (p dwords : Nat) (s : State) : Res :=
  .next (s.spdmAfter p dwords Fn.spdmCaps (fun s =>
    (s.modFn p (fun f => { f with spdmAlgs := true })).spdmSay p 1 0x63 spdmAlgSet))

/-- GET_DIGESTS (02 R55): slot 0 alone. -/
def execGetDigests (p dwords : Nat) (s : State) : Res :=
  .next (s.spdmAfter p dwords Fn.spdmAlgs (fun s => s.spdmSay p 1 0x01 (padTo 48 (Config.sha384 s.fst.fuses.cert))))

/-- A portion of the certificate chain from an offset: its length, what remains, its bytes. The response fits in 1,024 DW
(02 R54, R55; log 43). -/
def certPart (chain : List Byte) (off : Nat) : List Byte :=
  let l := (chain.drop off).take 4082
  leBytes 2 l.length ++ leBytes 2 (chain.length - off - l.length) ++ l

/-- GET_CERTIFICATE (02 R55): the operand holds the slot in its low byte and the offset above it. -/
def execGetCertificate (p dwords slot : Nat) (s : State) : Res :=
  .next (s.spdmAfter p dwords Fn.spdmAlgs (fun s =>
    if slot % 256 = 0 then s.spdmSay p 1 0x02 (certPart s.fst.fuses.cert (slot / 256)) else s.spdmFail p 1 1))

/-- CHALLENGE (02 R55): signed by the device identity; the signed transcript is that of DSP0274 (log 43). -/
def execChallenge (p dwords slot : Nat) (s : State) : Res :=
  .next (s.spdmAfter p dwords Fn.spdmAlgs (fun s =>
    if slot = 0 then
      let (v, s) := s.fresh
      s.spdmSay p 1 0x03 (padTo 96 (Config.deviceSign (Config.freeBytes v.toNat 48)))
    else s.spdmFail p 1 1))

/-- GET_MEASUREMENTS (02 R55; 15 R433): index 0 asks for the number, 0xFF for all. -/
def execGetMeasurements (p dwords index : Nat) (s : State) : Res :=
  .next (s.spdmAfter p dwords Fn.spdmAlgs (fun s =>
    if index = 0 then s.spdmSay p 1 0x60 (leBytes 1 8)
    else if index = 0xFF then s.spdmSay p 1 0x60 ((maskIndices 0).flatMap s.quoteEntry)
    else if index ≤ 8 then s.spdmSay p 1 0x60 (s.quoteEntry index)
    else s.spdmFail p 1 1))

/-- A session of a PF. -/
def Fn.session (f : Fn) (id : Nat) : Option Session := f.sessions.find? (fun x => x.id == id)

/-- Change a session of a PF. -/
def Fn.modSession (f : Fn) (id : Nat) (h : Session → Session) : Fn :=
  { f with sessions := f.sessions.map (fun x => if x.id = id then h x else x) }

/-- Length in DW of a secured message: a session operand holds the session's number in its low 32 bits and the length of the
data object above them (02 R54). -/
def sessionDw (op : Nat) : Nat := op / 2 ^ 32

/-- Number of the session that a session operand names. -/
def sessionId (op : Nat) : Nat := op % 2 ^ 32

/-- KEY_EXCHANGE (02 R55): at most 2 sessions per PF. The responder's ECDHE share on P-384 and the shared secret are those of
the standard (log 43). -/
def execKeyExchange (p dwords session : Nat) (s : State) : Res :=
  .next (s.spdmAfter p dwords Fn.spdmAlgs (fun s =>
    let id := sessionId session
    if ((s.fn p).session id).isSome then s.spdmFail p 1 1
    else if 2 ≤ (s.fn p).sessions.length then s.spdmFail p 1 0x0A
    else
      let (v, s) := s.fresh
      let n := v.toNat
      (s.modFn p (fun f => { f with sessions := f.sessions ++ [{ id := id, secret := padTo 48 (Config.freeBytes n 48) }] })).spdmSay
        p 1 0x64 (leBytes 2 id ++ padTo 96 (Config.freeBytes (n + 1) 96))))

/-- A message within a session: InvalidSession where there is none, or it is not established. -/
def State.inSession (s : State) (p op : Nat) (est : Bool) (k : State → Session → State) : State :=
  let id := sessionId op
  s.spdmIn p (sessionDw op) 2 (fun s => match (s.fn p).session id with
    | some x => if x.established = est then k s x else s.spdmFail p 2 2
    | none => s.spdmFail p 2 2)

/-- End a session. -/
def State.dropSession (s : State) (p id : Nat) : State :=
  s.modFn p (fun f => { f with sessions := f.sessions.filter (fun x => x.id != id) })

/-- FINISH (02 R55): `ok` is the verification of its proof. -/
def execFinish (p session : Nat) (ok : Bool) (s : State) : Res :=
  .next (s.inSession p session false (fun s _ =>
    if ok then (s.modFn p (fun f => f.modSession (sessionId session) (fun x => { x with established := true }))).spdmSay p 2 0x65 []
    else (s.dropSession p (sessionId session)).spdmFail p 2 6))

/-- HEARTBEAT (02 R55). -/
def execHeartbeatSpdm (p session : Nat) (s : State) : Res :=
  .next (s.inSession p session true (fun s _ => s.spdmSay p 2 0x68 []))

/-- KEY_UPDATE (02 R55). -/
def execKeyUpdate (p session : Nat) (s : State) : Res :=
  .next (s.inSession p session true (fun s _ =>
    (s.modFn p (fun f => f.modSession (sessionId session) (fun x => { x with keyGen := x.keyGen + 1 }))).spdmSay p 2 0x69 []))

/-- END_SESSION (02 R55). -/
def execEndSession (p session : Nat) (s : State) : Res :=
  .next (s.inSession p session true (fun s _ => (s.dropSession p (sessionId session)).spdmSay p 2 0x6C []))

/-! ### IDE (02 R56, R57) -/

/-- An IDE stream. -/
def State.ideOf (s : State) (n : Nat) : Ide := tget s.hif.ide n {}

/-- Change an IDE stream. -/
def State.modIde (s : State) (n : Nat) (f : Ide → Ide) : State :=
  { s with hif := { s.hif with ide := tset s.hif.ide n (f (s.ideOf n)) } }

/-- An IDE_KM message is accepted within an established session of the PF, for one of the 8 streams that no other group
uses (02 R56). -/
def State.ideKm (s : State) (p session n : Nat) (k : State → State) : State :=
  s.inSession p session true (fun s _ =>
    if n < 8 ∧ ((s.ideOf n).keyed = false ∨ (s.ideOf n).port = p) then k s else s.spdmFail p 2 1)

/-- KEY_PROG (02 R56). -/
def execIdeKmKeyProg (p session n : Nat) (s : State) : Res :=
  .next (s.ideKm p session n (fun s => (s.modIde n (fun x => { x with port := p, keyed := true })).spdmSay p 2 3 (leBytes 1 n)))

/-- K_SET_GO (02 R56, R57): the stream is in the Secure state, and a failure is over. -/
def execIdeKmKSetGo (p session n : Nat) (s : State) : Res :=
  .next (s.ideKm p session n (fun s =>
    if (s.ideOf n).keyed then (s.modIde n (fun x => { x with secure := true, failed := false })).spdmSay p 2 6 (leBytes 1 n)
    else s.spdmFail p 2 1))

/-- Set FN_ERR.IDE in every function that a stream covers (02 R47, R57). -/
def State.ideErr (s : State) (x : Ide) : State :=
  ((s.fnsOfGroup x.port).filter (fun g => decide ((s.fn g).vf ≠ .absent) && s.ideCovers x g)).foldl (fun s g => s.errSet g 8) s

/-- K_SET_STOP (02 R56): the stream leaves the Secure state (02 R47). -/
def execIdeKmKSetStop (p session n : Nat) (s : State) : Res :=
  .next (s.ideKm p session n (fun s =>
    let was := (s.ideOf n).secure
    let s := s.modIde n (fun x => { x with secure := false })
    (if was then s.ideErr (s.ideOf n) else s).spdmSay p 2 6 (leBytes 1 n)))

/-- Commands of a group whose DMA needs a failed stream end with 0x007 (02 R57): those with a request outstanding, and reads
whose bytes are not yet posted. -/
def State.ideStop (s : State) (p : Nat) : State :=
  let l := (s.slotsOfGroup p).filter (fun x => s.ideBlocked x.2.gfn && (x.2.dma || (decide ((cmdOf x.2.cmd).opc = 1) && decide (x.2.phase = .units))))
  l.foldl (fun s x => match s.slot x.1 with
    | some y => (s.setSlot x.1 { y with dma := false }).mark 0x007 x.1
    | none => s) s

/-- IDE_INTEGRITY_FAILURE (02 R57). -/
def execIdeIntegrityFailure (n : Nat) (s : State) : Res :=
  let x := s.ideOf n
  .next (if !x.secure then s
    else (((s.modIde n (fun x => { x with secure := false, failed := true })).emit (.aer x.port)).ideErr x).ideStop x.port)

end Sys2Proof.Machine
end

