-- ==== Sys2Proof/Machine/Vat.lean ====
section
/-! DEFINITION. The vat's commands: buffer requests, FREE and GIVE (11 R342–R346). -/

namespace Sys2Proof.Machine

/-- Count and capture a rejected operation; the first one after a boot is recorded in the ledger (11 R344, R346). -/
def State.vatReject (s : State) (handle owner kind : Nat) : State :=
  let v := s.vat
  let first := !v.rejected && decide (kind < 3)
  let s := { s with vat := { v with
      double := if kind = 0 then satInc v.double else v.double
      nonowner := if kind = 1 then satInc v.nonowner else v.nonowner
      stale := if kind = 2 then satInc v.stale else v.stale
      toobig := if kind = 3 then satInc v.toobig else v.toobig
      lastHandle := BitVec.ofNat 32 handle, lastReq := BitVec.ofNat 7 owner, lastKind := BitVec.ofNat 2 kind
      rejected := v.rejected || decide (kind < 3) } }
  if first then s.ledEvent 0x6001 (leBytes 4 handle ++ leBytes 1 owner ++ leBytes 1 kind) else s

/-- BUFFER_REQUEST (11 R342, R344, R345): the first eligible pool with a free buffer serves it; else it waits in its
requester's FIFO, or stalls there. Which free buffer of the pool is taken is open (log 11). -/
def execBufferRequest (owner size : Nat) (plain readPath : Bool) (s : State) : Res :=
  let r : BufReq := { size := size, plain := plain, readPath := readPath }
  .next (
    if !(List.range 8).any (s.vat.eligible size plain) then
      let (h, s) := s.fresh
      s.vatReject (h.toNat % 2 ^ 32) owner 3
    else s.vatAsk owner r)

/-- FREE (11 R343–R345). -/
def execFree (owner handle : Nat) (s : State) : Res :=
  let pool := handle / 2 ^ 29 % 8
  let idx := handle / 2 ^ 8 % 2 ^ 21
  .next (match s.handleBad owner handle with
    | some k => s.vatReject handle owner k
    | none => s.freeBuf pool idx)

/-- GIVE (11 R344): the owner changes, the generation stays. -/
def execGive (owner handle newOwner : Nat) (s : State) : Res :=
  let pool := handle / 2 ^ 29 % 8
  let idx := handle / 2 ^ 8 % 2 ^ 21
  .next (match s.handleBad owner handle with
    | some k => s.vatReject handle owner k
    | none =>
      let b := s.vat.buf pool idx
      { s with vat := { s.vat with bufs := tset s.vat.bufs (bufKey pool idx) { b with owner := newOwner } } })

end Sys2Proof.Machine
end

