-- ==== Sys2Proof/Machine/RegView.lean ====
section
/-! DEFINITION. What registers read as: BAR0, the queue pages of BAR2/3 and the blocks of BAR4 (00 R6; 01 R17; 02 R40–R51,
R61; 03 R66–R69; and the register tables of 10 to 16). A read has no row of its own but where it changes something; these
are the values that a read of each register returns in a state. -/

namespace Sys2Proof.Machine

/-- Two 32-bit signed values. -/
def pair32 (lo hi : Int) : Nat := (word32 lo).toNat + 2 ^ 32 * (word32 hi).toNat

/-! ### Configuration space (02 R33, R34, R37; log 45) -/

/-- Class code: mass storage, other (02 R33). -/
def classCode : Nat := 0x018000

/-- Device ID of a function (02 R33). -/
def State.deviceId (s : State) (g : Nat) : Nat := if s.isPf g then 0x5096 else 0x5097

/-- Subsystem vendor ID and subsystem ID, from the factory area (02 R33). -/
def subsystemIds : Nat := leVal ((List.range 4).map (Config.factoryByte 4))

/-- An association register of an IDE stream: valid in bit 63, then last and first. -/
def assocWord (o : Option (Nat × Nat)) : Nat := match o with | none => 0 | some (a, b) => 2 ^ 63 + a + 2 ^ 31 * b

/-- Configuration space as 64-bit words, by the offsets of log 45: Message Control, Device Control, the further bus numbers of
a PF, identification, class code, subsystem IDs, First VF Offset 1 with VF Stride 1 and NumVFs, TotalVFs, the IDE
associations; Table Size, function mask and MSI-X Enable in Message Control (02 R33, R37, R39, R51, R56). -/
def State.cfgWord (s : State) (g off : Nat) : Nat :=
  let f := s.fn g
  if off = 0 then fields [(0, s.vectors g), (14, b2n f.fmask), (15, b2n f.msixEn)]
  else if off = 8 then f.devCtl.toNat
  else if off = 0x20 then Config.vendorId.toNat + 2 ^ 16 * s.deviceId g
  else if off = 0x28 then classCode
  else if off = 0x30 then subsystemIds
  else if !s.isPf g then 0
  else if off = 0x10 then f.buses
  else if off = 0x38 then 1 + 2 ^ 16 * 1 + 2 ^ 32 * f.numVfs
  else if off = 0x40 then s.totalVfs g
  else if 0x100 ≤ off ∧ off < 0x180 then
    let x := tget s.hif.ide ((off - 0x100) / 16) {}
    if x.port = g then assocWord (if off % 16 = 0 then x.rids else x.addrs) else 0
  else 0

/-! ### BAR0 (02 R40–R47, R50, R51) -/

/-- FN_ID (02 R41). -/
def State.fnIdWord (s : State) (g : Nat) : Nat :=
  fields [(0, g), (10, b2n (!s.isPf g)), (11, s.portOf g), (16, Config.stepping.toNat)]

/-- Key-slot pages that a function owns (07 R195). -/
def State.keyPages (s : State) (g : Nat) : Nat := ((List.range 256).filter (fun p => decide (s.pageOwner p = g))).length

/-- FN_CAP (02 R42). -/
def State.fnCapWord (s : State) (g : Nat) : Nat :=
  fields [(0, s.queuesMax g), (16, s.vectors g), (27, 15), (32, s.keyPages g)]

/-- FN_STATUS (02 R43). -/
def State.fnStatusWord (s : State) (g : Nat) : Nat :=
  fields [(0, b2n s.ready), (1, s.modeOf), (4, b2n (decide ((s.fn g).vf = .quiesced))), (5, b2n (s.fn g).flr),
    (6, b2n (s.port (s.portOf g)).degraded), (8, s.tclass g), (16, s.pstate)]

/-- FN_STATUS from the shadow while DORMANT (02 R61; log 64). -/
def State.shadowStatus (s : State) : Nat := fields [(1, 5), (16, s.pstate)]

/-- FN_ABORT_STS (02 R45). -/
def Fn.abortWord (f : Fn) : Nat :=
  fields [(0, b2n f.abBusy), (1, b2n f.abDone), (2, f.abOrigin.toNat), (16, f.abTags.toNat)]

/-- MBX_STATUS (02 R46). -/
def State.mbxWord (s : State) (g : Nat) : Nat :=
  fields [(0, b2n (s.mbxBusy g)), (1, b2n (s.fn g).mbDone), (2, b2n (s.fn g).mbRelayed), (16, (s.fn g).mbSeq.toNat)]

/-- FN_ERR_ADDR (02 R47). -/
def Fn.errAddrWord (f : Fn) : Nat := fields [(0, f.errOff.toNat), (24, f.errBar.toNat)]

/-- The MSI-X table as 64-bit words: address, then data with vector control (02 R51). -/
def State.msixWord (s : State) (g off : Nat) : Nat :=
  let v := off / 16
  let e := (s.fn g).vec v
  if s.vectors g < v then 0
  else if off % 16 = 0 then e.addr.toNat
  else e.data.toNat + 2 ^ 32 * b2n e.mask

/-- 64 bits of the pending-bit array (02 R51). -/
def State.pbaWord (s : State) (g w : Nat) : Nat :=
  (List.range 64).foldl (fun a i => a + b2n ((s.fn g).vec (64 * w + i)).pba * 2 ^ i) 0

/-- BAR0 as 64-bit words (02 R40). -/
def State.bar0Word (s : State) (g off : Nat) : Nat :=
  let f := s.fn g
  if off = 0x0000 then s.fnIdWord g
  else if off = 0x0008 then s.fnCapWord g
  else if off = 0x0010 then s.fnStatusWord g
  else if off = 0x0018 then f.ctrl.toNat
  else if off = 0x0048 then f.abortWord
  else if off = 0x0108 then s.mbxWord g
  else if off = 0x0200 then f.err.toNat
  else if off = 0x0208 then f.errAddrWord
  else if 0x1000 ≤ off ∧ off < 0x2000 then leVal (memRead f.reqBuf (off - 0x1000) 8)
  else if 0x2000 ≤ off ∧ off < 0x3000 then leVal (memRead f.respBuf (off - 0x2000) 8)
  else if 0x8000 ≤ off ∧ off < 0xC000 then s.msixWord g (off - 0x8000)
  else if 0xC000 ≤ off ∧ off < 0xC080 then s.pbaWord g ((off - 0xC000) / 8)
  else 0

/-! ### The queue page (03 R66–R69) -/

/-- A queue page as 64-bit words; a page without a queue reads 0 (02 R47). -/
def State.bar2Word (s : State) (g off : Nat) : Nat :=
  match s.q g (off / 4096) with
  | none => 0
  | some q =>
    if off % 4096 = 0x040 then q.creditWord
    else if off % 4096 = 0x048 then q.statusWord (decide ((s.fn g).vf = .quiesced))
    else if off % 4096 = 0x080 then q.head + 2 ^ 16 * q.tail
    else 0

/-! ### BAR4 blocks -/

/-- PWR (16 R460), by offset in the block. -/
def State.pwrWord (s : State) (off : Nat) : Nat :=
  let p := s.pwr
  if off = 0x00 then
    fields [(0, p.target.toNat), (3, s.pstate), (6, (p.next.getD 0).toNat), (9, b2n p.next.isSome), (10, p.phase.toNat),
      (12, b2n p.run1)]
  else if off = 0x08 then
    fields [(0, p.first.toNat), (4, p.seen.toNat), (12, b2n p.ewin), (13, p.from_.toNat), (16, p.wtime.toNat)]
  else if off = 0x10 then
    fields [(0, b2n p.fault), (1, p.fstate.toNat), (4, b2n p.fcause), (5, p.retries.toNat), (8, p.fid.toNat),
      (16, p.ftime.toNat)]
  else if off = 0x18 then fields [(0, p.period.toNat), (16, p.patrols.toNat), (48, p.breach.toNat), (52, p.bidx.toNat)]
  else if off = 0x20 then s.rtc
  else if off = 0x28 then fields [(0, p.alarm.toNat), (63, b2n p.armed)]
  else if off = 0x30 then
    fields [(0, b2n (!p.xfenced.isEmpty)), (1, b2n (!p.xover.isEmpty)), (2, b2n p.stale), (8, p.xid.toNat),
      (16, p.ovrcnt.toNat), (32, p.staleOff.toNat)]
  else 0

/-- QUE_CCSTALL (11 R347). -/
def State.queWord (s : State) (off : Nat) : Nat :=
  if 0x8000 ≤ off ∧ off < 0x8300 then
    let k := (off - 0x8000) / 8
    fields [(0, (tget s.sub.ccStall k 0).toNat), (32, (tget s.sub.ccq k []).length)]
  else 0

/-- CAL_STAT, CAL_SPT, CAL_XY and CAL_UV of a slot (12 R369). -/
def State.calSlotWord (s : State) (n r : Nat) : Nat :=
  let l := s.loop n
  if r = 0x00 then
    fields [(0, b2n l.enabled), (1, b2n (s.slotHeld n)), (2, l.flags / 4 % 256), (10, b2n l.inj.isSome),
      (11, b2n l.cfg.cls.isSome), (16, l.late.toNat), (32, l.skip.toNat)]
  else if r = 0x08 then pair32 l.sp l.tgt
  else if r = 0x10 then pair32 l.x l.y
  else if r = 0x18 then pair32 l.u l.v
  else 0

/-- CAL (12 R369), by offset in the block. -/
def State.calWord (s : State) (off : Nat) : Nat :=
  if off < 0x800 then s.calSlotWord (off / 0x40) (off % 0x40)
  else if off = 0x800 then
    let c := s.cal.cap
    fields [(0, b2n c.armed), (1, b2n c.trig), (2, b2n c.done), (16, c.buf.length)]
  else if 0x900 ≤ off ∧ off < 0xB00 then
    let c := (off - 0x900) / 8
    fields [(0, (word32 (s.pressure c)).toNat), (32, s.slevel c), (40, s.bucketTokens c)]
  else if off = 0xC00 then
    fields [(0, (s.act 1 / 65536).toNat), (8, s.throttle 0), (12, s.throttle 1), (16, s.throttle 2),
      (24, (s.act 3 / 65536).toNat), (32, (s.act 4 / 65536).toNat), (39, b2n s.glb.thermal)]
  else 0

/-- HSE (14 R405), by offset in the block. -/
def State.hseWord (s : State) (off : Nat) : Nat :=
  let h := s.hz
  if off < 0x80 then
    let b := off / 8
    fields [(0, hzWidth h b), (16, hzUsed h b (b + 1)),
      (32, if b = 0 then h.full0.toNat else if b = 8 then h.full8.toNat else 0)]
  else if off = 0x80 then fields [(0, h.searches.toNat), (32, h.wakes.toNat)]
  else if off = 0x100 then h.kcnt.toNat
  else 0

/-- BPM (11 R346), by offset in the block. -/
def State.bpmWord (s : State) (off : Nat) : Nat :=
  let v := s.vat
  if off < 0x40 then fields [(0, v.free (off / 8)), (32, v.count (off / 8))]
  else if off = 0x100 then fields [(0, v.double.toNat), (16, v.nonowner.toNat), (32, v.stale.toNat), (48, v.toobig.toNat)]
  else if off = 0x108 then fields [(0, v.lastHandle.toNat), (32, v.lastReq.toNat), (40, v.lastKind.toNat)]
  else if off = 0x110 then v.fifos.foldl (fun a p => a + p.2.length) 0
  else 0

/-- CIP (11 R339), by offset in the block. -/
def State.cipWord (s : State) (off : Nat) : Nat :=
  if off < 0x600 then
    let k := off / 16
    let l := s.lane k
    if off % 16 ≠ 0 then 0
    else fields [(0, b2n l.fenced), (1, b2n l.katfail), (2, l.faults.toNat), (8, (s.laneRoute k).getD 0x7F),
      (16, l.badlen.toNat), (32, l.units.toNat)]
  else if off = 0x800 then
    fields [(0, (s.cip.keys.filter (fun p => p.2.loaded)).length),
      (16, s.cip.keks.foldl (fun a p => if inR 1 15 p.1 then a + 2 ^ (p.1 - 1) else a) 0)]
  else 0

/-- Codewords of a kind that wait for a decoder: those beyond the decoders in service (11 R321, R325). -/
def Ldp.waiting (l : Ldp) (soft : Bool) : Nat := (l.jobs.filter (fun j => j.soft == soft)).length - (if soft then 16 - l.softOff else 48 - l.hardOff)

/-- LDP (11 R325), by offset in the block. -/
def State.ldpWord (s : State) (off : Nat) : Nat :=
  let l := s.ldp
  if off = 0x00 then fields [(0, l.hardFail.toNat), (32, l.softRun.toNat)]
  else if off = 0x08 then fields [(0, l.softFail.toNat), (32, l.mdFail.toNat), (48, l.encFence.toNat), (56, l.decOff.toNat)]
  else if off = 0x10 then fields [(0, l.waiting false), (16, l.waiting true)]
  else 0

/-- MLK page of a link (10 R316). -/
def State.mlkWord (s : State) (k off : Nat) : Nat :=
  let l := s.link k
  if off = 0x00 then
    fields [(0, l.st.toNat), (3, b2n l.lost), (4, l.xstate.toNat), (8, l.retrains.toNat), (16, l.session.toNat),
      (32, l.hpark.toNat), (40, l.bringfail.toNat)]
  else if off = 0x08 then fields [(0, l.badflit.toNat), (16, l.replays.toNat), (32, l.discard.toNat), (48, l.badstat.toNat)]
  else if off = 0x10 then fields [(0, l.hbmiss.toNat), (16, l.hubresets.toNat), (32, l.tags.length)]
  else 0

/-- The device of a rank with the highest count this pass, the lowest on a tie, and its count (13 R390). -/
def Chan.maxDev (c : Chan) (rank : Nat) : Nat × Nat :=
  (List.range 20).foldl (fun (m : Nat × Nat) d =>
    let n := tget c.dev (rank * 32 + d) 0
    if m.2 < n then (d, n) else m) (0, 0)

/-- DRC page of a channel (13 R390). -/
def Chan.word (c : Chan) (off : Nat) : Nat :=
  if off = 0x00 then
    fields [(0, c.st), (2, c.speed), (4, b2n c.dev32), (8, c.present.toNat), (12, c.insvc.toNat), (16, c.spare),
      (18, b2n c.spareOk), (19, b2n c.migr), (20, c.migRank), (24, c.edev), (29, b2n c.emark), (32, c.rtfail.toNat)]
  else if off = 0x08 then fields [(0, c.ptr.toNat), (32, c.poisoned.toNat)]
  else if off = 0x10 then fields [(0, c.ue.toNat), (16, c.capar.toNat), (32, c.rhref.toNat), (48, c.rfm.toNat)]
  else if 0x100 ≤ off ∧ off < 0x120 then
    let r := (off - 0x100) / 8
    let m := c.maxDev r
    fields [(0, (tget c.ce r 0).toNat), (32, m.1), (40, m.2 % 2 ^ 16)]
  else 0

/-- DRC (13 R390), by offset in the block. -/
def State.drcWord (s : State) (off : Nat) : Nat :=
  if off < 0x8000 then (s.chan (off / 0x1000)).word (off % 0x1000)
  else if off = 0x8000 then
    fields [(0, s.dramBytes / 2 ^ 30), (16, (s.drc.need + (2 ^ 30 - 1)) / 2 ^ 30), (32, b2n s.drc.fill),
      (33, s.drc.fillPct.toNat)]
  else if 0x8100 ≤ off ∧ off < 0x8160 then
    let p := (off - 0x8100) / 8
    fields [(0, (tget s.drc.u3 p 0).toNat), (32, (tget s.drc.maxlat p 0).toNat)]
  else 0

/-- FST (15 R435), by offset in the block. -/
def State.fstWord (s : State) (off : Nat) : Nat :=
  let f := s.fst
  if off = 0x00 then
    fields [(0, f.slot), (2, b2n f.fallback), (3, f.failA), (6, f.failB), (9, f.failR), (12, b2n f.halt), (13, f.fuses.arb),
      (20, f.fuses.krev.toNat)]
  else if off = 0x08 then fields [(0, f.wait), (4, f.clk), (8, f.vdd), (16, b2n f.brown)]
  else if off = 0x10 then fields [(0, b2n f.erasing.isSome), (1, b2n f.susp), (16, f.reerased.toNat)]
  else 0

/-- LED (15 R435), by offset in the block. -/
def State.ledWord (s : State) (off : Nat) : Nat :=
  let l := s.led
  if off = 0x00 then fields [(0, l.head), (32, l.seq)]
  else if off = 0x08 then
    fields [(0, b2n l.frozen), (1, b2n l.full), (2, b2n l.fail), (8, l.head * 100 / 261120), (16, l.fstage.length),
      (32, l.dropCnt.toNat)]
  else if off = 0x10 then l.boot
  else 0

/-- BAR4 as 64-bit words (02 R49). HIF, VFM, MBX, TEL and DBG have no register in the spec, so they read 0; so does every
block but PWR, which PD_AON keeps, before the controller's reset is released: it is not initialised (DEDUCED, log 65). -/
def State.bar4Word (s : State) (off : Nat) : Nat :=
  if 0x010000 ≤ off ∧ off < 0x020000 then s.pwrWord (off - 0x010000)
  else if !s.brd.released then 0
  else if off = 0x40 then s.limited
  else if 0x040000 ≤ off ∧ off < 0x100000 then s.queWord (off - 0x040000)
  else if 0x180000 ≤ off ∧ off < 0x1C0000 then s.calWord (off - 0x180000)
  else if 0x1C0000 ≤ off ∧ off < 0x200000 then s.hseWord (off - 0x1C0000)
  else if 0x200000 ≤ off ∧ off < 0x240000 then s.bpmWord (off - 0x200000)
  else if 0x240000 ≤ off ∧ off < 0x280000 then s.cipWord (off - 0x240000)
  else if 0x280000 ≤ off ∧ off < 0x300000 then s.ldpWord (off - 0x280000)
  else if 0x300000 ≤ off ∧ off < 0x360000 then s.mlkWord ((off - 0x300000) / 0x1000) (off % 0x1000)
  else if 0x400000 ≤ off ∧ off < 0x480000 then s.drcWord (off - 0x400000)
  else if 0x480000 ≤ off ∧ off < 0x4C0000 then s.fstWord (off - 0x480000)
  else if 0x4C0000 ≤ off ∧ off < 0x500000 then s.ledWord (off - 0x4C0000)
  else 0

/-! ### Reads (00 R6, 02 R61) -/

/-- A naturally aligned access of 32 or 64 bits (00 R6). -/
def wide (off width : Nat) : Bool := (width == 4 && off % 4 == 0) || (width == 8 && off % 8 == 0)

/-- The 64-bit word of a BAR that holds an offset. While DORMANT the shadow answers: FN_STATUS, and 0 at every other offset
(02 R61; log 64). BAR4 exists on PFs only (02 R49). -/
def State.barWord (s : State) (g bar off : Nat) : Nat :=
  let o := off / 8 * 8
  if s.modeOf = 5 then (if bar = 0 ∧ o = 0x10 then s.shadowStatus else 0)
  else if bar = 0 then s.bar0Word g o
  else if bar = 2 then s.bar2Word g o
  else if bar = 4 ∧ s.isPf g = true then s.bar4Word o
  else 0

/-- An access of a width its register takes: CR_HEAD and TQ_RESET take 32 bits only (00 R6, 03 R66). DESIGN CHOICE
(log 45): one of 64 bits to those counts as misaligned. -/
def takesWidth (bar off width : Nat) : Bool :=
  wide off width && !(bar == 2 && width == 8 && (off % 4096 == 0x80 || off % 4096 == 0xC0))

/-- The access touches a register of a queue page (03 R66): TQ_CREDIT, TQ_STATUS, CR_HEAD or TQ_RESET. -/
def touchesReg (off width : Nat) : Bool :=
  [(0x40, 8), (0x48, 8), (0x80, 4), (0xC0, 4)].any (fun r => decide (off % 4096 < r.1 + r.2 ∧ r.1 < off % 4096 + width))

/-- What a read returns: TASK bytes, offsets not listed and a page without a queue read 0, and a narrow or misaligned read of
a register all ones (00 R6; 02 R47; 03 R66). -/
def State.regRead (s : State) (g bar off width : Nat) : Nat :=
  if bar = 2 ∧ (off % 4096 < 64 ∨ touchesReg off width = false ∨ (s.q g (off / 4096)).isNone) then 0
  else if !takesWidth bar off width then 2 ^ (8 * width) - 1
  else if width = 4 then s.barWord g bar off / 2 ^ (8 * (off % 8)) % 2 ^ 32
  else s.barWord g bar off % 2 ^ 64

end Sys2Proof.Machine
end

