-- ==== Sys2Proof/Machine/Regs.lean ====
section
/-! DEFINITION. Register accesses: writes without a row of their own, the clearing read of PWR_XSTAT, a stale read and an
access while DORMANT (00 R6, R8; 02 R40–R51, R61; 03 R66, R68; 16 R454, R460). -/

namespace Sys2Proof.Machine

/-- A write of 32 bits of an MSI-X table entry (02 R51). An entry whose address stops being 0 is no longer treated as
masked (DEDUCED, log 45). -/
def State.msixWrite (s : State) (g off v : Nat) : State :=
  let i := off / 16
  let w := BitVec.ofNat 32 v
  if s.vectors g < i then s
  else if off % 16 = 0 then
    let s := s.modFn g (fun f => f.modVec i (fun e => { e with addr := (e.addr.extractLsb' 32 32) ++ w }))
    if ((s.fn g).vec i).addr = 0 then s else s.releaseVec g i
  else if off % 16 = 4 then
    let s := s.modFn g (fun f => f.modVec i (fun e => { e with addr := w ++ (e.addr.extractLsb' 0 32) }))
    if ((s.fn g).vec i).addr = 0 then s else s.releaseVec g i
  else if off % 16 = 8 then s.modFn g (fun f => f.modVec i (fun e => { e with data := w }))
  else if bitN v 0 then s.modFn g (fun f => f.modVec i (fun e => { e with mask := true }))
  else s.unmask g (some i)

/-- A write of 32 bits of BAR0 (02 R40–R47): RW and W1C fields take it, RO fields and offsets not listed drop it. -/
def State.bar0Write (s : State) (g off v : Nat) : State :=
  if off = 0x0018 then s.modFn g (fun f => { f with ctrl := BitVec.ofNat 3 v })
  else if off = 0x0040 then s.fnAbortPost g v
  else if off = 0x0048 then s.modFn g (fun f => { f with abDone := f.abDone && !bitN v 1 })
  else if off = 0x0100 then s.doorbellPost g v
  else if off = 0x0108 then s.modFn g (fun f => { f with mbDone := f.mbDone && !bitN v 1 })
  else if off = 0x0200 then s.modFn g (fun f => { f with err := f.err &&& ~~~(BitVec.ofNat 10 v) })
  else if 0x1000 ≤ off ∧ off < 0x2000 then
    s.modFn g (fun f => { f with reqBuf := memWrite f.reqBuf (off - 0x1000) (leBytes 4 v), torn := f.torn || f.mbBusy })
  else if 0x8000 ≤ off ∧ off < 0xC000 then s.msixWrite g (off - 0x8000) v
  else s

/-- W1C bits of TQ_STATUS (03 R68). -/
def Queue.clearSticky (q : Queue) (v : Nat) : Queue :=
  { q with ovr := q.ovr && !bitN v 0, torn := q.torn && !bitN v 1, chk := q.chk && !bitN v 2, seqf := q.seqf && !bitN v 4,
           supp := q.supp && !bitN v 5, headf := q.headf && !bitN v 6 }

/-- A write of BAR2/3 (02 R47; 03 R66): TASK bytes, TQ_STATUS, CR_HEAD and TQ_RESET; the rest is dropped. -/
def State.bar2Write (s : State) (g off width v : Nat) : State :=
  let qid := off / 4096
  let o := off % 4096
  if o < 64 then s.taskPost g qid ((leBytes width v).zipIdx.map (fun p => (o + p.2, p.1)))
  else if !takesWidth 2 off width then s.pageWrite g qid o (fun _ => s)
  else if o = 0x48 then s.pageWrite g qid o (fun _ => s.modQ g qid (fun q => q.clearSticky v))
  else if o = 0x80 then s.crHeadPost g qid v
  else if o = 0xC0 then s.tqResetPost g qid v
  else s.pageWrite g qid o (fun _ => s)

/-- A write of BAR4 (02 R49): every field is read-only, but for DBG fields that a debug authorisation has unlocked, which
the spec does not describe (log 45). -/
def State.bar4Write (s : State) (g off width : Nat) : State :=
  if !s.isPf g then s
  else if !wide off width then s.errAccess g 0 4 off
  else if 0x600000 ≤ off ∧ s.fst.fuses.dbgAuth = true then s
  else s.errAccess g 9 4 off

/-- A memory write to a function's BARs (00 R6; 02 R47, R49, R61; 03 R66). -/
def State.barPost (s : State) (g bar off width value : Nat) : State :=
  if !s.reach g then s
  else s.barWake g (
    if bar = 0 then
      (if !wide off width then s.errAccess g 0 0 off
       else if width = 8 then (s.bar0Write g off (value % 2 ^ 32)).bar0Write g (off + 4) (value / 2 ^ 32 % 2 ^ 32)
       else s.bar0Write g off (value % 2 ^ 32))
    else if bar = 2 then s.bar2Write g off width value
    else if bar = 4 then s.bar4Write g off width
    else s)

/-- Device Control as it reads after a write: Relaxed Ordering, the maximum payload of at most 512 B and the maximum read
request of at most 4,096 B (02 R33, R34; log 45). -/
def devCtlOf (v : Nat) : BitVec 16 :=
  BitVec.ofNat 16 (b2n (bitN v 4) * 16 + min (v / 32 % 8) 2 * 32 + min (v / 4096 % 8) 5 * 4096)

/-- A field pair of an IDE association register: bit 63 says that the association is valid. -/
def assocOf (v : Nat) : Option (Nat × Nat) := if bitN v 63 then some (v % 2 ^ 31, v / 2 ^ 31 % 2 ^ 31) else none

/-- A write of configuration space (02 R33, R34, R37, R51, R56; log 45): Message Control at 0, Device Control at 8, the PF's
further bus numbers at 0x10, and for IDE stream n its RID range association at 0x100 + 16n and its address association, in
MiB, 8 above. -/
def State.cfgWrite (s : State) (g off v : Nat) : State :=
  let n := (off - 0x100) / 16
  if off = 0 then
    let s := s.modFn g (fun f => { f with msixEn := bitN v 15 })
    (if bitN v 14 then s.modFn g (fun f => { f with fmask := true }) else s.unmask g none)
  else if off = 8 then s.modFn g (fun f => { f with devCtl := devCtlOf v })
  else if !s.isPf g then s
  else if off = 0x10 then s.modFn g (fun f => { f with buses := v % 256 })
  else if 0x100 ≤ off ∧ n < 8 ∧ off % 8 = 0 then
    let x := tget s.hif.ide n {}
    if x.keyed && decide (x.port ≠ g) then s
    else
      let x := if off % 16 = 0 then { x with port := g, rids := assocOf v } else { x with port := g, addrs := assocOf v }
      { s with hif := { s.hif with ide := tset s.hif.ide n x } }
  else s

/-- REGISTER_WRITE (00 R6, R8; 02 R47, R49, R61; 03 R66, R68, R84). `bar` 7 stands for configuration space (log 45). -/
def execRegisterWrite (g bar off width value : Nat) (s : State) : Res :=
  .next (if bar = 7 then
      (if s.reach g then s.cfgWrite g off value else s)
    else s.posted g (.registerWrite g bar off width value)
      (decide (bar = 2 ∧ off % 4096 < 64) && s.taskFull g (off / 4096)) (s.barPost g bar off width value))

/-! ### Posted writes that wait (03 R84, R85) -/

/-- A posted write finds a full task register. -/
def State.postFull (s : State) (i : Instr) : Bool :=
  match i with
  | .taskWrite g qid _ => s.taskFull g qid
  | .seal g qid _ => s.taskFull g qid
  | .registerWrite g bar off _ _ => decide (bar = 2 ∧ off % 4096 < 64) && s.taskFull g (off / 4096)
  | _ => false

/-- A posted write that waited takes effect. -/
def State.postRun (s : State) (i : Instr) : State :=
  match i with
  | .taskWrite g qid bytes => s.taskPost g qid bytes
  | .seal g qid bytes => s.taskPost g qid bytes
  | .crHeadWrite g qid v => s.crHeadPost g qid v
  | .tqResetWrite g qid v => s.tqResetPost g qid v
  | .fnAbortWrite g v => s.fnAbortPost g v
  | .mbxDoorbellRing g v => s.doorbellPost g v
  | .msixUnmask g vec => if s.reach g then s.barWake g (s.unmask g vec) else s
  | .registerWrite g bar off width v => s.barPost g bar off width v
  | _ => s

/-- The waiting writes of a link group take effect in order, up to the first that finds a full task register. -/
def State.postList (p : Nat) : List Instr → State → State
  | [], s => s.setStalled p []
  | i :: r, s => if s.postFull i then s.setStalled p (i :: r) else State.postList p r (s.postRun i)

/-- The waiting posted writes of a link group go on as far as they can. -/
def State.postsGo (s : State) (p : Nat) : State :=
  match s.stalledOf p with
  | [] => s
  | l => State.postList p l s

/-- The command in a task register reached its link group first of those that have not landed (03 R93). -/
def State.firstArrived (s : State) (i : Nat) (x : Slot) : Bool :=
  s.sub.slots.all (fun p => decide (p.1 = i) || decide (p.2.loc ≠ .taskReg)
    || decide (s.portOf p.2.gfn ≠ s.portOf x.gfn) || decide (x.arrived ≤ p.2.arrived))

/-- A held command enters the landing FIFO of its group, which has room for it (03 R84, R85, R93). -/
def State.land (s : State) (g qid p : Nat) : State :=
  let fifo := tget s.sub.landing p []
  match s.q g qid with
  | none => s
  | some q => match q.held with
    | none => s
    | some i => match s.slot i with
      | none => s
      | some x =>
        if s.landingRuns && decide (fifo.length < 512) && s.firstArrived i x then
          let s := s.modQ g qid (fun q => { q with held := none })
          let s := { s with sub := { s.sub with landing := tset s.sub.landing p (fifo ++ [i]) }
                            pwr := { s.pwr with gated := false } }
          s.setSlot i { x with loc := .landing }
        else s

/-- LANDING_MOVE (03 R84, R85); the entry ungates the brew cluster (16 R437), and the group's waiting writes go on. -/
def execLandingMove (g qid : Nat) (s : State) : Res := .next ((s.land g qid (s.portOf g)).postsGo (s.portOf g))

/-- A read of a BAR: while DORMANT the shadow answers and it is a wake event, else it does what it does (02 R61). -/
def State.shadowed (s : State) (g bar off : Nat) (t : State) : State :=
  if s.modeOf = 5 then ({ s with lastRead := BitVec.ofNat 64 (s.barWord g bar off) }).wake 6 else t

/-- A PF reads BAR4 (02 R49). -/
def State.bar4Reader (s : State) (g : Nat) : Bool := s.reach g && s.isPf g

/-- PWR_XSTAT_READ (16 R460): the read returns the register and clears STALE; while DORMANT the shadow answers it, with no
effect on the register, and it is a wake event (02 R61; log 64). -/
def execPwrXstatRead (g : Nat) (s : State) : Res :=
  .next (if !s.bar4Reader g then s
    else s.shadowed g 4 0x010030
      { s with lastRead := BitVec.ofNat 64 (s.pwrWord 0x30), pwr := { s.pwr with stale := false } })

/-- BAR4_STALE_READ (16 R454): the read returns the last delivered value, of which the spec says no more (log 11), and
PWR_XSTAT records it. -/
def execBar4StaleRead (g off : Nat) (s : State) : Res :=
  .next (if !s.bar4Reader g || decide (s.modeOf = 5) then s
    else
      let (v, s) := s.fresh
      { s with lastRead := v, pwr := { s.pwr with stale := true, staleOff := BitVec.ofNat 24 off } })

/-- DORMANT_BAR_ACCESS (02 R61; 01 R13; 16 R442): a read is answered from the shadow, a write is dropped, and either is a
wake event. -/
def execDormantBarAccess (g bar off : Nat) (isWrite : Bool) (s : State) : Res :=
  .next (if s.reach g && decide (s.modeOf = 5) then
      let t := if isWrite then s else { s with lastRead := BitVec.ofNat 64 (s.barWord g bar off) }
      t.wake 6
    else s)

end Sys2Proof.Machine
end

