-- ==== Sys2Proof/Machine/StoreRows.lean ====
section
/-! DEFINITION. The firmware store's and the ledger's own events (15 R407–R413, R424–R428). -/

namespace Sys2Proof.Machine

/-! ### VDD_FST and wait states (15 R407) -/

/-- Wait states of a VDD_FST band and a bus clock (15 R407): bands from the highest, clocks 0 200 MHz to 3 100 MHz. -/
def fstWait (cv clk : Nat) : Nat :=
  if 175 ≤ cv then [14, 12, 10, 8].getD clk 15
  else if 170 ≤ cv then [15, 13, 11, 8].getD clk 15
  else if 162 ≤ cv then [15, 14, 12, 9].getD clk 15
  else [15, 15, 15, 11].getD clk 15

/-- The fastest clock that a band uses. -/
def fstFastest (cv : Nat) : Nat := if 170 ≤ cv then 0 else if 162 ≤ cv then 1 else 2

/-- FST_VDD_MEASURE (15 R407): in units of 10 mV. The bus drops at once, and returns to 200 MHz after 1 ms at or above
1.70 V. -/
def execFstVddMeasure (cv : Nat) (s : State) : Res :=
  let f := s.fst
  let since := if 170 ≤ cv then (if 170 ≤ f.vdd then f.vddSince else s.now) else 0
  let clk := if 170 ≤ cv ∧ 170 ≤ f.vdd ∧ since + 10000 ≤ s.now then 0 else max f.clk (fstFastest cv)
  .next (
    if 160 ≤ cv then
      ({ s with fst := { f with vdd := cv % 256, vddSince := since, clk := clk, wait := fstWait cv clk, low := false } }).storePump
    else ({ s with fst := { f with vdd := cv % 256, vddSince := 0, brown := true, low := true } }).storeCut)

/-- FST_BROWNOUT (15 R409). -/
def execFstBrownout (s : State) : Res :=
  .next ({ s with fst := { s.fst with brown := true, low := true } }).storeCut

/-! ### Reads and erases (15 R408) -/

/-- FST_READ_REQUEST (15 R408): a read of the sector under erase waits for its end, any other suspends the erase as soon as
it may. -/
def execFstReadRequest (k : Nat) (s : State) : Res :=
  .next (match s.fst.erasing with
    | none => s
    | some e =>
      if k = e then { s with fst := { s.fst with reads := s.fst.reads ++ [k] } }
      else if s.fst.susp then s
      else if s.mayHalt then s.storeHalt e
      else { s with fst := { s.fst with reads := s.fst.reads ++ [k] } })

/-- FST_ERASE_RESUME (15 R408). -/
def execFstEraseResume (s : State) : Res :=
  .next (if s.fst.susp then { s with fst := { s.fst with susp := false, resumed := true, erResume := s.now } } else s)

/-- A sender's conversation waits no more. -/
def State.unwait (s : State) (src : Src) : State :=
  match src with
  | some g => s.modFn g (fun f => { f with wait := none })
  | none => { s with adm := { s.adm with oobWait := none } }

/-- The state that a meaning answers. -/
def resState (s : State) (r : Res) : State := match r with | .next t => t | _ => s

/-- A request that waited for an erase is served from its beginning, before any that waits for its turn (15 R411, R413); while it cannot be taken it waits on. Whether
a chunk's programming then succeeds is a free value (06 R165; log 11). -/
def State.rerun (s : State) (src : Src) : State :=
  let w := s
  let s := s.unwait src
  let s := match src with | some g => { s with adm := { s.adm with turn := (g + 1023) % 1024 } } | none => s
  if !s.takeable src then w
  else match s.reqOf src with
  | none => s
  | some r => match r.typ with
    | 0x03 => resState s (execSetParam src s)
    | 0x30 => resState s (if fieldLe r.payload 0 2 < 0x1000 then execKeyLoad src s else execKekInstall src s)
    | 0x31 => resState s (execKeyDestroy src s)
    | 0x40 =>
      let (v, s) := s.fresh
      resState s (execFwDownload src (v.getLsbD 0) s)
    | 0x41 =>
      let s := { s with adm := { s.adm with devOp := if s.adm.devOp = some 0x0041 then none else s.adm.devOp } }
      resState s (execFwCommit src s)
    | _ => s

/-- What follows from an erased sector: the key-blob log has room again, the older boot-control copy is erased. -/
def Fst.erased (f : Fst) (k : Nat) : Fst :=
  if k = 0x598 then { f with blobUsed := f.blobUsed - 1024 } else if k = 0x5A8 then { f with bcOlderErased := true } else f

/-- FST_ERASE_DONE (15 R408–R411): DONE is programmed, and what waited for the erase goes on. -/
def execFstEraseDone (s : State) : Res :=
  .next (match s.fst.erasing with
    | none => s
    | some k =>
      if s.fst.susp || !s.storeUp then s
      else
        let f := s.fst
        let f := if s.flagMode && !flagSector k then { f with cells := markLast k 0 f.cells } else f
        let f := { (f.erased k) with erasing := none, resumed := false, reads := [], verified := addOnce f.verified k }
        let s := { s with fst := f }
        ((s.waiters (.storeErase k)).foldl (fun s src => s.rerun src) s).storePump)

/-! ### The ledger (15 R424–R428) -/

/-- LEDGER_EVENT (15 R424): a code of class 0xF is the ledger's own (15 R426). -/
def execLedgerEvent (code : Nat) (arg : List Byte) (s : State) : Res :=
  .next (if 0xF000 ≤ code then s else s.ledEvent code arg)

/-- LEDGER_PROGRAM_DONE (15 R422, R424, R428). -/
def execLedgerProgramDone (ok : Bool) (s : State) : Res := .next (s.ledDone ok)

/-- The report of dropped events takes the token (15 R427). -/
def State.overflowReport (s : State) (f : Nat) : State :=
  let ov : LedEv := { code := 0xF004, arg := overflowArg s.led.dropSrc s.led.dropTotal s.led.drops, paid := true }
  let s := { s with led := { s.led with drops := [], dropTotal := 0, tokens := tset s.led.tokens f (s.ledTokens f - 1) } }
  if s.led.frozen then s.ledHold [ov] else ({ s with led := { s.led with stage := s.led.stage ++ [ov] } }).ledNext

/-- LEDGER_TOKEN_REFILL (15 R427). -/
def execLedgerTokenRefill (f : Nat) (s : State) : Res :=
  .next (if 16 ≤ f ∨ ledFree f = true ∨ s.ledBurst f ≤ s.ledTokens f then s
    else
      let s := s.setTokens f (s.ledTokens f + 1)
      if tget s.led.drops f 0 ≠ 0 then s.overflowReport f else s)

end Sys2Proof.Machine
end

