-- ==== Sys2Proof/Machine/Dispatch.lean ====
section
/-! DEFINITION. One arm per command: each is one direct call of its meaning. -/

namespace Sys2Proof.Machine

/-- The effect of a command on everything but the queue. -/
def exec (i : Instr) (s : State) : Host.Outcome State Fault Refusal :=
  match i with
  | .taskWrite a0 a1 a2 => Sys2Proof.Machine.execTaskWrite a0 a1 a2 s
  | .seal a0 a1 a2 => Sys2Proof.Machine.execSeal a0 a1 a2 s
  | .landingMove a0 a1 => Sys2Proof.Machine.execLandingMove a0 a1 s
  | .landingArbiter => Sys2Proof.Machine.execLandingArbiter s
  | .dispatch a0 => Sys2Proof.Machine.execDispatch a0 s
  | .read a0 => Sys2Proof.Machine.execRead a0 s
  | .write a0 => Sys2Proof.Machine.execWrite a0 s
  | .zoneAppend a0 => Sys2Proof.Machine.execZoneAppend a0 s
  | .flush a0 => Sys2Proof.Machine.execFlush a0 s
  | .zoneMgmtOpen a0 => Sys2Proof.Machine.execZoneMgmtOpen a0 s
  | .zoneMgmtClose a0 => Sys2Proof.Machine.execZoneMgmtClose a0 s
  | .zoneMgmtFinish a0 => Sys2Proof.Machine.execZoneMgmtFinish a0 s
  | .zoneMgmtReset a0 => Sys2Proof.Machine.execZoneMgmtReset a0 s
  | .zoneMgmtOffline a0 => Sys2Proof.Machine.execZoneMgmtOffline a0 s
  | .zoneReport a0 => Sys2Proof.Machine.execZoneReport a0 s
  | .deallocate a0 => Sys2Proof.Machine.execDeallocate a0 s
  | .verify a0 => Sys2Proof.Machine.execVerify a0 s
  | .copy a0 => Sys2Proof.Machine.execCopy a0 s
  | .writeZeroes a0 => Sys2Proof.Machine.execWriteZeroes a0 s
  | .nop a0 => Sys2Proof.Machine.execNop a0 s
  | .zoneSequenceHead a0 => Sys2Proof.Machine.execZoneSequenceHead a0 s
  | .appendStage a0 => Sys2Proof.Machine.execAppendStage a0 s
  | .listFetchDone a0 a1 => Sys2Proof.Machine.execListFetchDone a0 a1 s
  | .dmaCompletion a0 a1 => Sys2Proof.Machine.execDmaCompletion a0 a1 s
  | .dmaTimeout a0 => Sys2Proof.Machine.execDmaTimeout a0 s
  | .cipherUnitDone a0 a1 a2 a3 => Sys2Proof.Machine.execCipherUnitDone a0 a1 a2 a3 s
  | .mirrorWriteAck a0 a1 a2 a3 a4 => Sys2Proof.Machine.execMirrorWriteAck a0 a1 a2 a3 a4 s
  | .completionCollectorEntry => Sys2Proof.Machine.execCompletionCollectorEntry s
  | .completionEntryWrite a0 => Sys2Proof.Machine.execCompletionEntryWrite a0 s
  | .coalescingTimerExpiry a0 a1 => Sys2Proof.Machine.execCoalescingTimerExpiry a0 a1 s
  | .irqGapExpiry a0 a1 => Sys2Proof.Machine.execIrqGapExpiry a0 a1 s
  | .msixUnmask a0 a1 => Sys2Proof.Machine.execMsixUnmask a0 a1 s
  | .crHeadWrite a0 a1 a2 => Sys2Proof.Machine.execCrHeadWrite a0 a1 a2 s
  | .tqResetWrite a0 a1 a2 => Sys2Proof.Machine.execTqResetWrite a0 a1 a2 s
  | .fnAbortWrite a0 a1 => Sys2Proof.Machine.execFnAbortWrite a0 a1 s
  | .mbxDoorbellRing a0 a1 => Sys2Proof.Machine.execMbxDoorbellRing a0 a1 s
  | .registerWrite a0 a1 a2 a3 a4 => Sys2Proof.Machine.execRegisterWrite a0 a1 a2 a3 a4 s
  | .pwrXstatRead a0 => Sys2Proof.Machine.execPwrXstatRead a0 s
  | .bar4StaleRead a0 a1 => Sys2Proof.Machine.execBar4StaleRead a0 a1 s
  | .identify a0 => Sys2Proof.Machine.execIdentify a0 s
  | .getParam a0 => Sys2Proof.Machine.execGetParam a0 s
  | .setParam a0 => Sys2Proof.Machine.execSetParam a0 s
  | .createQueue a0 => Sys2Proof.Machine.execCreateQueue a0 s
  | .deleteQueue a0 => Sys2Proof.Machine.execDeleteQueue a0 s
  | .queueReset a0 => Sys2Proof.Machine.execQueueReset a0 s
  | .nsCreate a0 => Sys2Proof.Machine.execNsCreate a0 s
  | .nsDelete a0 => Sys2Proof.Machine.execNsDelete a0 s
  | .nsFormat a0 => Sys2Proof.Machine.execNsFormat a0 s
  | .nsAttachAttach a0 => Sys2Proof.Machine.execNsAttachAttach a0 s
  | .nsAttachDetach a0 => Sys2Proof.Machine.execNsAttachDetach a0 s
  | .keyLoad a0 => Sys2Proof.Machine.execKeyLoad a0 s
  | .kekInstall a0 => Sys2Proof.Machine.execKekInstall a0 s
  | .keyDestroy a0 => Sys2Proof.Machine.execKeyDestroy a0 s
  | .fwDownload a0 a1 => Sys2Proof.Machine.execFwDownload a0 a1 s
  | .fwCommit a0 => Sys2Proof.Machine.execFwCommit a0 s
  | .fwActivate a0 => Sys2Proof.Machine.execFwActivate a0 s
  | .fwActivateReady => Sys2Proof.Machine.execFwActivateReady s
  | .fwActivateTimeout => Sys2Proof.Machine.execFwActivateTimeout s
  | .profileSelect a0 => Sys2Proof.Machine.execProfileSelect a0 s
  | .holdDrainDone => Sys2Proof.Machine.execHoldDrainDone s
  | .profileSave a0 a1 => Sys2Proof.Machine.execProfileSave a0 a1 s
  | .logRead a0 => Sys2Proof.Machine.execLogRead a0 s
  | .ledgerRead a0 => Sys2Proof.Machine.execLedgerRead a0 s
  | .ledgerFreeze a0 => Sys2Proof.Machine.execLedgerFreeze a0 s
  | .ledgerUnfreeze a0 => Sys2Proof.Machine.execLedgerUnfreeze a0 s
  | .ledgerFreezeExpiry => Sys2Proof.Machine.execLedgerFreezeExpiry s
  | .ledgerClearNonce a0 a1 => Sys2Proof.Machine.execLedgerClearNonce a0 a1 s
  | .ledgerClear a0 => Sys2Proof.Machine.execLedgerClear a0 s
  | .nonceExpiry => Sys2Proof.Machine.execNonceExpiry s
  | .attestQuote a0 => Sys2Proof.Machine.execAttestQuote a0 s
  | .powerState a0 => Sys2Proof.Machine.execPowerState a0 s
  | .loopTarget a0 => Sys2Proof.Machine.execLoopTarget a0 s
  | .loopTune a0 => Sys2Proof.Machine.execLoopTune a0 s
  | .loopInject a0 => Sys2Proof.Machine.execLoopInject a0 s
  | .loopCaptureArm a0 => Sys2Proof.Machine.execLoopCaptureArm a0 s
  | .loopCaptureRead a0 => Sys2Proof.Machine.execLoopCaptureRead a0 s
  | .loopCaptureDisarm a0 => Sys2Proof.Machine.execLoopCaptureDisarm a0 s
  | .vfEnableProvision a0 => Sys2Proof.Machine.execVfEnableProvision a0 s
  | .vfEnableRelease a0 => Sys2Proof.Machine.execVfEnableRelease a0 s
  | .functionQuiesce a0 => Sys2Proof.Machine.execFunctionQuiesce a0 s
  | .quiesceDrainDone a0 => Sys2Proof.Machine.execQuiesceDrainDone a0 s
  | .quiesceWaitTimeout a0 => Sys2Proof.Machine.execQuiesceWaitTimeout a0 s
  | .functionResume a0 => Sys2Proof.Machine.execFunctionResume a0 s
  | .functionStateGet a0 => Sys2Proof.Machine.execFunctionStateGet a0 s
  | .functionStateSet a0 => Sys2Proof.Machine.execFunctionStateSet a0 s
  | .relayFetch a0 => Sys2Proof.Machine.execRelayFetch a0 s
  | .relayRespond a0 => Sys2Proof.Machine.execRelayRespond a0 s
  | .relayTimeout a0 => Sys2Proof.Machine.execRelayTimeout a0 s
  | .dirtyLogStart a0 => Sys2Proof.Machine.execDirtyLogStart a0 s
  | .dirtyLogHarvest a0 => Sys2Proof.Machine.execDirtyLogHarvest a0 s
  | .dirtyLogStop a0 => Sys2Proof.Machine.execDirtyLogStop a0 s
  | .functionAbort a0 => Sys2Proof.Machine.execFunctionAbort a0 s
  | .controllerReset a0 => Sys2Proof.Machine.execControllerReset a0 s
  | .controllerResetSequence a0 => Sys2Proof.Machine.execControllerResetSequence a0 s
  | .resetRingTimeout a0 => Sys2Proof.Machine.execResetRingTimeout a0 s
  | .watchdogExpiry => Sys2Proof.Machine.execWatchdogExpiry s
  | .sanitizeCryptoErase a0 => Sys2Proof.Machine.execSanitizeCryptoErase a0 s
  | .sanitizeBlockErase a0 => Sys2Proof.Machine.execSanitizeBlockErase a0 s
  | .sanitizeDone => Sys2Proof.Machine.execSanitizeDone s
  | .hseSearch a0 => Sys2Proof.Machine.execHseSearch a0 s
  | .dlIdleTimeout => Sys2Proof.Machine.execDlIdleTimeout s
  | .mctpMessage a0 => Sys2Proof.Machine.execMctpMessage a0 s
  | .setEndpointId a0 => Sys2Proof.Machine.execSetEndpointId a0 s
  | .getEndpointId => Sys2Proof.Machine.execGetEndpointId s
  | .getMctpVersionSupport => Sys2Proof.Machine.execGetMctpVersionSupport s
  | .getMessageTypeSupport => Sys2Proof.Machine.execGetMessageTypeSupport s
  | .doeDiscovery a0 a1 a2 => Sys2Proof.Machine.execDoeDiscovery a0 a1 a2 s
  | .doeAbort a0 => Sys2Proof.Machine.execDoeAbort a0 s
  | .getVersion a0 a1 => Sys2Proof.Machine.execGetVersion a0 a1 s
  | .getCapabilities a0 a1 => Sys2Proof.Machine.execGetCapabilities a0 a1 s
  | .negotiateAlgorithms a0 a1 => Sys2Proof.Machine.execNegotiateAlgorithms a0 a1 s
  | .getDigests a0 a1 => Sys2Proof.Machine.execGetDigests a0 a1 s
  | .getCertificate a0 a1 a2 => Sys2Proof.Machine.execGetCertificate a0 a1 a2 s
  | .challenge a0 a1 a2 => Sys2Proof.Machine.execChallenge a0 a1 a2 s
  | .getMeasurements a0 a1 a2 => Sys2Proof.Machine.execGetMeasurements a0 a1 a2 s
  | .keyExchange a0 a1 a2 => Sys2Proof.Machine.execKeyExchange a0 a1 a2 s
  | .finish a0 a1 a2 => Sys2Proof.Machine.execFinish a0 a1 a2 s
  | .heartbeatSpdm a0 a1 => Sys2Proof.Machine.execHeartbeatSpdm a0 a1 s
  | .keyUpdate a0 a1 => Sys2Proof.Machine.execKeyUpdate a0 a1 s
  | .endSession a0 a1 => Sys2Proof.Machine.execEndSession a0 a1 s
  | .ideKmKeyProg a0 a1 a2 => Sys2Proof.Machine.execIdeKmKeyProg a0 a1 a2 s
  | .ideKmKSetGo a0 a1 a2 => Sys2Proof.Machine.execIdeKmKSetGo a0 a1 a2 s
  | .ideKmKSetStop a0 a1 a2 => Sys2Proof.Machine.execIdeKmKSetStop a0 a1 a2 s
  | .ideIntegrityFailure a0 => Sys2Proof.Machine.execIdeIntegrityFailure a0 s
  | .poisonedTlp a0 => Sys2Proof.Machine.execPoisonedTlp a0 s
  | .linkRetrain a0 a1 => Sys2Proof.Machine.execLinkRetrain a0 a1 s
  | .linkDown a0 => Sys2Proof.Machine.execLinkDown a0 s
  | .dlUp a0 => Sys2Proof.Machine.execDlUp a0 s
  | .perstAssert => Sys2Proof.Machine.execPerstAssert s
  | .perstDeassert a0 a1 => Sys2Proof.Machine.execPerstDeassert a0 a1 s
  | .flrInitiate a0 => Sys2Proof.Machine.execFlrInitiate a0 s
  | .flrEnd a0 => Sys2Proof.Machine.execFlrEnd a0 s
  | .vfEnableSet a0 a1 => Sys2Proof.Machine.execVfEnableSet a0 a1 s
  | .vfEnableClear a0 a1 => Sys2Proof.Machine.execVfEnableClear a0 a1 s
  | .pfD3hot a0 a1 => Sys2Proof.Machine.execPfD3hot a0 a1 s
  | .pfD0Return a0 => Sys2Proof.Machine.execPfD0Return a0 s
  | .ps2IdleGate => Sys2Proof.Machine.execPs2IdleGate s
  | .dormantEntry => Sys2Proof.Machine.execDormantEntry s
  | .dormantCommit => Sys2Proof.Machine.execDormantCommit s
  | .wakeEvent a0 => Sys2Proof.Machine.execWakeEvent a0 s
  | .dormantBarAccess a0 a1 a2 a3 => Sys2Proof.Machine.execDormantBarAccess a0 a1 a2 a3 s
  | .dormantExit a0 a1 a2 => Sys2Proof.Machine.execDormantExit a0 a1 a2 s
  | .wakePowerGoodTimeout a0 a1 => Sys2Proof.Machine.execWakePowerGoodTimeout a0 a1 s
  | .wakeRetry => Sys2Proof.Machine.execWakeRetry s
  | .steepPatrol a0 a1 => Sys2Proof.Machine.execSteepPatrol a0 a1 s
  | .pfailSampled a0 => Sys2Proof.Machine.execPfailSampled a0 s
  | .dumpEnd => Sys2Proof.Machine.execDumpEnd s
  | .pfailReturnHigh => Sys2Proof.Machine.execPfailReturnHigh s
  | .pfailHighHoldExpiry => Sys2Proof.Machine.execPfailHighHoldExpiry s
  | .pwrgdRise a0 => Sys2Proof.Machine.execPwrgdRise a0 s
  | .pwrgdFall => Sys2Proof.Machine.execPwrgdFall s
  | .resetRelease a0 => Sys2Proof.Machine.execResetRelease a0 s
  | .dramFillDone => Sys2Proof.Machine.execDramFillDone s
  | .firmwareReady a0 => Sys2Proof.Machine.execFirmwareReady a0 s
  | .thermtrip => Sys2Proof.Machine.execThermtrip s
  | .clockLoss a0 a1 => Sys2Proof.Machine.execClockLoss a0 a1 s
  | .crossingFence a0 => Sys2Proof.Machine.execCrossingFence a0 s
  | .pmbAlert a0 => Sys2Proof.Machine.execPmbAlert a0 s
  | .avsCorrection a0 a1 a2 => Sys2Proof.Machine.execAvsCorrection a0 a1 a2 s
  | .quireVerified a0 a1 => Sys2Proof.Machine.execQuireVerified a0 a1 s
  | .sheetProgramIssue a0 a1 a2 a3 => Sys2Proof.Machine.execSheetProgramIssue a0 a1 a2 a3 s
  | .admissionTokenRequest a0 a1 => Sys2Proof.Machine.execAdmissionTokenRequest a0 a1 s
  | .linkQueueServe a0 => Sys2Proof.Machine.execLinkQueueServe a0 s
  | .busyDieDecision a0 a1 a2 a3 a4 => Sys2Proof.Machine.execBusyDieDecision a0 a1 a2 a3 a4 s
  | .decodeDone a0 a1 a2 => Sys2Proof.Machine.execDecodeDone a0 a1 a2 s
  | .blockReplacement a0 a1 => Sys2Proof.Machine.execBlockReplacement a0 a1 s
  | .reamFormation a0 a1 a2 a3 a4 => Sys2Proof.Machine.execReamFormation a0 a1 a2 a3 a4 s
  | .eraseDone a0 a1 => Sys2Proof.Machine.execEraseDone a0 a1 s
  | .relocationSwitch a0 => Sys2Proof.Machine.execRelocationSwitch a0 s
  | .gcStart a0 => Sys2Proof.Machine.execGcStart a0 s
  | .gcBundleMove a0 a1 => Sys2Proof.Machine.execGcBundleMove a0 a1 s
  | .stagingEviction a0 => Sys2Proof.Machine.execStagingEviction a0 s
  | .stagingDrainDone => Sys2Proof.Machine.execStagingDrainDone s
  | .dumpReamReady a0 => Sys2Proof.Machine.execDumpReamReady a0 s
  | .mapCheckpoint a0 => Sys2Proof.Machine.execMapCheckpoint a0 s
  | .journalProgram a0 => Sys2Proof.Machine.execJournalProgram a0 s
  | .intentBatch a0 => Sys2Proof.Machine.execIntentBatch a0 s
  | .flitReceive a0 a1 => Sys2Proof.Machine.execFlitReceive a0 a1 s
  | .replayTimerExpiry a0 => Sys2Proof.Machine.execReplayTimerExpiry a0 s
  | .linkSilenceTimeout a0 => Sys2Proof.Machine.execLinkSilenceTimeout a0 s
  | .jts1Receive a0 a1 a2 a3 => Sys2Proof.Machine.execJts1Receive a0 a1 a2 a3 s
  | .jts2Receive a0 => Sys2Proof.Machine.execJts2Receive a0 s
  | .eiosReceive a0 => Sys2Proof.Machine.execEiosReceive a0 s
  | .alignReceive a0 a1 => Sys2Proof.Machine.execAlignReceive a0 a1 s
  | .alignAckReceive a0 a1 => Sys2Proof.Machine.execAlignAckReceive a0 a1 s
  | .linkStateTimeout a0 => Sys2Proof.Machine.execLinkStateTimeout a0 s
  | .heartbeatSend a0 => Sys2Proof.Machine.execHeartbeatSend a0 s
  | .heartbeat a0 => Sys2Proof.Machine.execHeartbeat a0 s
  | .heartbeatWindowExpiry a0 => Sys2Proof.Machine.execHeartbeatWindowExpiry a0 s
  | .cmpl a0 => Sys2Proof.Machine.execCmpl a0 s
  | .dataRd a0 => Sys2Proof.Machine.execDataRd a0 s
  | .dieTimerExpiry a0 a1 => Sys2Proof.Machine.execDieTimerExpiry a0 a1 s
  | .dieFail a0 => Sys2Proof.Machine.execDieFail a0 s
  | .temp a0 => Sys2Proof.Machine.execTemp a0 s
  | .power a0 => Sys2Proof.Machine.execPower a0 s
  | .hubReset a0 => Sys2Proof.Machine.execHubReset a0 s
  | .eraseInt a0 => Sys2Proof.Machine.execEraseInt a0 s
  | .chanFault a0 => Sys2Proof.Machine.execChanFault a0 s
  | .telemetry a0 => Sys2Proof.Machine.execTelemetry a0 s
  | .parkReply a0 => Sys2Proof.Machine.execParkReply a0 s
  | .unparkReply a0 => Sys2Proof.Machine.execUnparkReply a0 s
  | .hubCfgReply a0 => Sys2Proof.Machine.execHubCfgReply a0 s
  | .hubFwReply a0 => Sys2Proof.Machine.execHubFwReply a0 s
  | .hubCfgTimeout a0 => Sys2Proof.Machine.execHubCfgTimeout a0 s
  | .hubLost a0 => Sys2Proof.Machine.execHubLost a0 s
  | .hubSidebandReset a0 a1 => Sys2Proof.Machine.execHubSidebandReset a0 a1 s
  | .bringupTimeout a0 => Sys2Proof.Machine.execBringupTimeout a0 s
  | .faultHoldExpiry a0 => Sys2Proof.Machine.execFaultHoldExpiry a0 s
  | .hubIbi a0 a1 a2 => Sys2Proof.Machine.execHubIbi a0 a1 a2 s
  | .bufferRequest a0 a1 a2 a3 => Sys2Proof.Machine.execBufferRequest a0 a1 a2 a3 s
  | .free a0 a1 => Sys2Proof.Machine.execFree a0 a1 s
  | .give a0 a1 a2 => Sys2Proof.Machine.execGive a0 a1 a2 s
  | .search a0 a1 a2 a3 => Sys2Proof.Machine.execSearch a0 a1 a2 a3 s
  | .searchInsert a0 a1 a2 => Sys2Proof.Machine.execSearchInsert a0 a1 a2 s
  | .step a0 => Sys2Proof.Machine.execStep a0 s
  | .modify a0 a1 a2 => Sys2Proof.Machine.execModify a0 a1 a2 s
  | .remove a0 => Sys2Proof.Machine.execRemove a0 s
  | .loopSample a0 a1 => Sys2Proof.Machine.execLoopSample a0 a1 s
  | .dramSchedule a0 a1 a2 => Sys2Proof.Machine.execDramSchedule a0 a1 a2 s
  | .narrowWrite a0 a1 a2 a3 => Sys2Proof.Machine.execNarrowWrite a0 a1 a2 a3 s
  | .mergeEntryTimeout a0 a1 => Sys2Proof.Machine.execMergeEntryTimeout a0 a1 s
  | .scrubLine a0 a1 => Sys2Proof.Machine.execScrubLine a0 a1 s
  | .rankMigrationLine a0 a1 => Sys2Proof.Machine.execRankMigrationLine a0 a1 s
  | .rankMigrationDone a0 => Sys2Proof.Machine.execRankMigrationDone a0 s
  | .caparError a0 a1 a2 => Sys2Proof.Machine.execCaparError a0 a1 a2 s
  | .dramRetrain a0 a1 => Sys2Proof.Machine.execDramRetrain a0 a1 s
  | .dramRetrainRetry a0 a1 => Sys2Proof.Machine.execDramRetrainRetry a0 a1 s
  | .rhWindowClear a0 => Sys2Proof.Machine.execRhWindowClear a0 s
  | .rfmRequest a0 => Sys2Proof.Machine.execRfmRequest a0 s
  | .fstVddMeasure a0 => Sys2Proof.Machine.execFstVddMeasure a0 s
  | .fstBrownout => Sys2Proof.Machine.execFstBrownout s
  | .fstReadRequest a0 => Sys2Proof.Machine.execFstReadRequest a0 s
  | .fstEraseDone => Sys2Proof.Machine.execFstEraseDone s
  | .ledgerEvent a0 a1 => Sys2Proof.Machine.execLedgerEvent a0 a1 s
  | .ledgerProgramDone a0 => Sys2Proof.Machine.execLedgerProgramDone a0 s
  | .ledgerTokenRefill a0 => Sys2Proof.Machine.execLedgerTokenRefill a0 s
  | .calenderInputRefresh a0 a1 => Sys2Proof.Machine.execCalenderInputRefresh a0 a1 s
  | .reconstructBucketCredit a0 => Sys2Proof.Machine.execReconstructBucketCredit a0 s
  | .hubSidebandTemperatureRead a0 a1 => Sys2Proof.Machine.execHubSidebandTemperatureRead a0 a1 s
  | .fstEraseResume => Sys2Proof.Machine.execFstEraseResume s
  | .vddAonInRegulation => Sys2Proof.Machine.execVddAonInRegulation s
  | .vddAonFall => Sys2Proof.Machine.execVddAonFall s

end Sys2Proof.Machine
end

