-- ==== Sys2Proof/Machine/Step.lean ====
section
/-! DEFINITION. One step of the block: the command at the front of the queue, or one tick of idling. -/

namespace Sys2Proof.Machine

/-- Take the command at the front of the queue and run it with the queue's rest; an empty queue idles for one tick of
100 ns, in which lost staging copies are written again, links in ALIGN send their CTRL flits, and posted writes that wait go on where they can
(log 1; 03 R84; 10 R276). -/
def step (s : State) : Host.Outcome State Fault Refusal :=
  match s.pending with
  | [] => .next ((List.range 8).foldl State.postsGo s.idle.alignTick)
  | c :: r => exec c { s with pending := r }

/-- Put the command that a table word spells at the front of the queue; no row gives bits, so nothing changes. -/
def State.withFetchWord (s : State) (nbits w : Nat) : State :=
  match decodeTableWord nbits w with
  | some c => { s with pending := c :: s.pending }
  | none => s

end Sys2Proof.Machine
end

