-- ==== Sys2Proof/Safety.lean ====
section
/-! DEFINITION. The terms in which claims about the block are stated: when a command's result is fixed, what a mailbox
reply leaves, the canonical form of its memories. -/

namespace Sys2Proof.Machine

/-- The result of the command in a slot is fixed with a status and a RESULT (08 R222). -/
def State.fixedAs (s : State) (i status : Nat) (result : BitVec 64) : Prop :=
  ∃ x, s.slot i = some x ∧ x.phase = .fixed ∧ x.status = status ∧ x.result = result

/-- From s to t a sender got the reply to its request (06 R163, R164, R192). A function's mailbox shows BUSY and RELAYED 0,
DONE 1, SEQ that of the request and nothing in service, with header and payload at the start of the response buffer
(02 R46). The MCTP endpoint has sent the packets of the reply and serves nothing. -/
def State.answered (s t : State) (src : Src) (r : Req) (status detail : Nat) (payload : List Byte) : Prop :=
  match src with
  | some g =>
    (t.fn g).mbBusy = false ∧ (t.fn g).mbRelayed = false ∧ (t.fn g).mbDone = true ∧
    (t.fn g).mbSeq = BitVec.ofNat 16 r.seq ∧ (t.fn g).req = none ∧
    (t.fn g).respBuf = memWrite (s.fn g).respBuf 0 (replyBytes r 0 status detail payload)
  | none =>
    (mctpPackets (mctpHead ++ replyBytes r 4 status detail payload).length
      (mctpHead ++ replyBytes r 4 status detail payload)).map Output.mctp <:+: t.out ∧ t.adm.oob = none

/-- From s to t no function but the sender is touched. -/
def State.othersKept (s t : State) (src : Src) : Prop := ∀ h, src ≠ some h → t.fn h = s.fn h

/-- A sender's request stands for the row of its message: nothing refuses it, it waits for nothing, it was not written over,
it is next among the functions' requests, and its payload holds every field that the message needs (06 R163, R165–R167). -/
def State.stands (s : State) (src : Src) (r : Req) (typ need : Nat) : Prop :=
  s.reqOf src = some r ∧ r.typ = typ ∧ s.takeable src = true ∧ s.myTurn src = true ∧ s.tornOf src = false ∧
    s.refuses src typ = none ∧ need ≤ r.len ∧ r.len ≤ 4080

/-- A PF's DOE mailbox takes an SPDM request of a size: it is up, without error, and the boot seal is written (02 R54). -/
def State.spdmServes (s : State) (p dwords : Nat) : Prop :=
  s.doeUp p = true ∧ (s.fn p).doeErr = false ∧ dwords ≤ 1024 ∧ s.led.bootSealed = true

/-- A PF has a session under an ID, established or not (02 R55). -/
def State.hasSession (s : State) (p id : Nat) (est : Bool) : Prop :=
  ∃ x, (s.fn p).session id = some x ∧ x.established = est

/-- An established session of the PF, named by a session operand, may set up a stream: one of the 8, keyed by no other group
(02 R56). -/
def State.ideServes (s : State) (p op n : Nat) : Prop :=
  s.spdmServes p (sessionDw op) ∧ s.hasSession p (sessionId op) true ∧ n < 8 ∧ ((s.ideOf n).keyed = false ∨ (s.ideOf n).port = p)

/-- The commands of a list that were not yet dispatched have their results with a status and RESULT 0 (08 R221). -/
def State.reached (s t : State) (l : List (Nat × Slot)) (status : Nat) : Prop :=
  ∀ i x, (i, x) ∈ l → s.slot i = some x → x.phase = .waiting → x.dma = false → t.fixedAs i status 0

/-- The row of a ZONE_MGMT action, its source set under ALL and the state that it gives a zone (04 R121; 05 R142). -/
def mgmtRow (a : Nat) : (Nat → Instr) × (ZState → Bool) × ZState :=
  match a with
  | 1 => (.zoneMgmtOpen, (fun st => decide (st = .closed)), .explicitOpen)
  | 2 => (.zoneMgmtClose, ZState.isOpen, .closed)
  | 3 => (.zoneMgmtFinish, ZState.active, .full)
  | 4 => (.zoneMgmtReset, (fun st => st.active || decide (st = .full)), .empty)
  | _ => (.zoneMgmtOffline, (fun st => decide (st = .readOnly)), .offline)

/-- DRAM keeps its canonical form (13 R378). -/
def State.memOk (s : State) : Prop := s.drc.mem.wf = true

end Sys2Proof.Machine
end

