-- ==== Sys2Proof/Certificates/Slice0/Obligations.lean ====
section
/-! DEFINITION. The statements about the block. Each docstring names the rules of the spec that its statement rests on. -/

open Sys2Proof Sys2Proof.Machine

/-- 00 scope of the block: a step with a command in front of the queue is exec of it, with the queue's rest. -/
def Obligations.StepRunsFront : Prop :=
  ∀ (c : Instr) (r : List Instr) (s : State), s.pending = c :: r → step s = exec c { s with pending := r }

/-- With no command and no posted write waiting the block idles for one tick of 100 ns: time goes on, reads of the firmware
store may suspend its erase, lost staging copies are written again, and every 1 µs each link in ALIGN sends ALIGN, or ALIGN_ACK once
it has the peer's ALIGN (10 R276); nothing else moves (the tick is the model's choice, log 1). -/
def Obligations.IdleTick : Prop :=
  ∀ s : State, s.pending = [] → (∀ p, p < 8 → s.stalledOf p = []) →
    ∃ t, step s = .next t ∧
      t = { s with now := s.now + 1, fst := t.fst, media := t.media, links := t.links, out := t.out } ∧
      ((s.now + 1) % 10 ≠ 0 ∨ (∀ p ∈ s.links, p.2.st ≠ 3) → t.links = s.links ∧ t.out = s.out) ∧
      ((s.now + 1) % 10 = 0 → ∀ k l, tfind s.links k = some l → l.st = 3 → ∃ x,
        Output.flit k (flitBytes (flitHeader 0 0 false 2 false) (l.ctrlPayload (if l.gotAlign = true then 2 else 1))) x ∈ t.out) ∧
      t.fst = { s.fst with susp := t.fst.susp, reads := t.fst.reads } ∧
      t.media = { s.media with blks := t.media.blks }

/-- 03 R66, R71, R84: a posted write of TASK bytes without byte 58 stores every byte at offsets 0 to 63 with its presence bit,
the last value counts; nothing else moves. While the last command has not left the task register, the write waits and the
task register stays as it is. -/
def Obligations.TaskWriteStoresBytes : Prop :=
  (∀ (s : State) (g qid : Nat) (bytes : List (Nat × Byte)) (q : Queue),
    s.reach g = true → s.intakeMode = true → s.q g qid = some q → q.held = none → s.stalledOf (s.portOf g) = [] →
    q.task.length = 64 → (∀ p ∈ bytes, p.1 ≠ 58) →
    ∃ t q', exec (.taskWrite g qid bytes) s = .next t ∧ t = { s with qs := t.qs } ∧ t.q g qid = some q' ∧
      q' = { q with task := q'.task, presence := q'.presence } ∧ q'.task.length = 64 ∧
      (∀ i, i < 64 → q'.task.getD i 0 =
        match bytes.reverse.find? (fun p => p.1 == i) with | some p => p.2 | none => q.task.getD i 0) ∧
      (∀ i, i < 64 → q'.presence.getLsbD i = (q.presence.getLsbD i || bytes.any (fun p => p.1 == i))) ∧
      ∀ g' qid', qkey g' qid' ≠ qkey g qid → t.q g' qid' = s.q g' qid') ∧
  (∀ (s : State) (g qid i : Nat) (bytes : List (Nat × Byte)) (q : Queue),
    s.reach g = true → s.intakeMode = true → s.q g qid = some q → q.held = some i →
    exec (.taskWrite g qid bytes) s =
      .next (s.setStalled (s.portOf g) (s.stalledOf (s.portOf g) ++ [.taskWrite g qid bytes])))

/-- 03 R68, R73, R80, R83; 02 R47: a sound seal whose tag is not outstanding in the queue takes a credit, advances EXPSEQ,
clears the presence mask and puts the command in a free slot; with no credit free it is dropped: OVR and FN_ERR.OVR are set,
DROPCNT counts it, REJSEQ records its SEQ, and no slot is taken. -/
def Obligations.SealOutcomes : Prop :=
  (∀ (s : State) (g qid : Nat) (bytes : List (Nat × Byte)) (q q1 : Queue),
    s.reach g = true → s.intakeMode = true → s.q g qid = some q → q.held = none → s.stalledOf (s.portOf g) = [] →
    storeTask q bytes = q1 → bytes.any (fun p => decide (p.1 = 58)) = true → s.openFor g q1 = true →
    fieldLe q1.task 58 1 = 0x5C → q1.presence = BitVec.allOnes 64 → fieldLe q1.task 56 2 = q1.expseq.toNat →
    (q1.chken = true → fieldLe q1.task 60 2 = (crc16 (q1.task.take 56)).toNat) → q1.avail ≠ 0 →
    (s.slotsOf g qid).any (fun p => decide ((cmdOf p.2.cmd).tag = (cmdOf q1.task).tag)) = false →
    ∃ t i x, exec (.seal g qid bytes) s = .next t ∧
      t = { s with qs := t.qs, sub := { s.sub with slots := t.sub.slots, accepts := s.sub.accepts + 1 }, par := { s.par with old := [] } } ∧
      i = tfree s.sub.slots 65536 0 ∧ t.slot i = some x ∧
      x.cmd = q1.task ∧ x.gfn = g ∧ x.qid = qid ∧ x.acceptAt = s.now ∧ x.loc = .taskReg ∧ x.phase = .waiting ∧
      t.q g qid = some { q1 with avail := q1.avail - 1, expseq := q1.expseq + 1, held := some i, presence := 0 } ∧
      (∀ g' qid', qkey g' qid' ≠ qkey g qid → t.q g' qid' = s.q g' qid') ∧ ∀ j, j ≠ i → t.slot j = s.slot j) ∧
  (∀ (s : State) (g qid : Nat) (bytes : List (Nat × Byte)) (q q1 : Queue),
    s.reach g = true → s.intakeMode = true → s.q g qid = some q → q.held = none → s.stalledOf (s.portOf g) = [] →
    storeTask q bytes = q1 → bytes.any (fun p => decide (p.1 = 58)) = true → s.openFor g q1 = true →
    fieldLe q1.task 58 1 = 0x5C → q1.presence = BitVec.allOnes 64 → fieldLe q1.task 56 2 = q1.expseq.toNat →
    (q1.chken = true → fieldLe q1.task 60 2 = (crc16 (q1.task.take 56)).toNat) → q1.avail = 0 →
    ∃ t, exec (.seal g qid bytes) s = .next t ∧ t = { s with qs := t.qs, fns := t.fns, out := t.out } ∧
      (t.fn g).err.getLsbD 3 = true ∧
      t.q g qid = some { q1 with ovr := true, dropcnt := satInc q1.dropcnt, presence := 0,
                                 rejseq := BitVec.ofNat 16 (fieldLe q1.task 56 2) } ∧
      ∀ g' qid', qkey g' qid' ≠ qkey g qid → t.q g' qid' = s.q g' qid')

/-- 03 R84, R85, R93: the landing FIFO of the group takes the command that reached the group first from its task register;
the arbiter moves the head of the next FIFO to the store and gives it the next ordinal, and that FIFO is now the one served
last. -/
def Obligations.LandingMovesCommands : Prop :=
  (∀ (s : State) (g qid i : Nat) (q : Queue) (x : Slot),
    s.q g qid = some q → q.held = some i → s.slot i = some x → s.landingRuns = true →
    (tget s.sub.landing (s.portOf g) []).length < 512 → s.firstArrived i x = true → s.stalledOf (s.portOf g) = [] →
    ∃ t, exec (.landingMove g qid) s = .next t ∧
      t = { s with qs := t.qs, sub := { s.sub with slots := t.sub.slots, landing := t.sub.landing }, pwr := { s.pwr with gated := false } } ∧
      t.q g qid = some { q with held := none } ∧ t.slot i = some { x with loc := .landing } ∧
      tget t.sub.landing (s.portOf g) [] = tget s.sub.landing (s.portOf g) [] ++ [i] ∧
      (∀ g' qid', qkey g' qid' ≠ qkey g qid → t.q g' qid' = s.q g' qid') ∧ ∀ j, j ≠ i → t.slot j = s.slot j) ∧
  (∀ (s : State) (p i : Nat) (r : List Nat) (x : Slot),
    s.landingRuns = true → arbPick s.sub.landing s.sub.arbLast = some p → tget s.sub.landing p [] = i :: r →
    s.slot i = some x →
    ∃ t, exec .landingArbiter s = .next t ∧
      t = { s with sub := { s.sub with slots := t.sub.slots, landing := t.sub.landing, arbLast := p, nextOrd := s.sub.nextOrd + 1 } } ∧
      tget t.sub.landing p [] = r ∧ (∀ p', p' ≠ p → tget t.sub.landing p' [] = tget s.sub.landing p' []) ∧
      t.slot i = some { x with loc := .store, ordinal := s.sub.nextOrd.toNat } ∧ ∀ j, j ≠ i → t.slot j = s.slot j)

/-- 03 R80, R86–R88: the entry of a command whose result is fixed, first of its ring's entries to become ready, goes to TAIL
of its ring under the phase bit where the ring has a free entry; its credit returns, and the command leaves the block. -/
def Obligations.EntryGoesToRing : Prop :=
  ∀ (s : State) (i : Nat) (x : Slot) (q : Queue),
    s.slot i = some x → x.phase = .fixed → s.pwr.pfailLow = false → x.logTo = none → s.q x.gfn x.qid = some q →
    q.hasRoom = true → s.firstReady i x = true → s.dmaOk x.gfn = true → q.resetting = false → q.deleting = false →
    (s.fn x.gfn).abBusy = false → (s.port (s.portOf x.gfn)).reset = false →
    ∃ t q', exec (.completionEntryWrite i) s = .next t ∧ t.slot i = none ∧ t.q x.gfn x.qid = some q' ∧
      q'.avail = q.avail + 1 ∧ q'.tail = (if q.tail + 1 = q.entries then 0 else q.tail + 1) ∧
      q'.phase = (q.phase != decide (q.tail + 1 = q.entries)) ∧
      Output.hostWrite x.gfn (q.base + q.tail * 32)
        (cqeBytes (cmdOf x.cmd).tag x.qid x.status (cmdOf x.cmd).seq x.result.toNat (q.avail + 1) 0 (s.lat x.acceptAt) q.phase)
        false ∈ t.out ∧
      t = { s with qs := t.qs, fns := t.fns, sub := t.sub, hz := t.hz, hist := t.hist, out := t.out }

/-- 02 R51, R52; 03 R90: a coalescing timer that ends raises its ring's message; an interval that ends sends the message
it delayed; an unmasked vector sends one message for what it held and clears its PBA bit; clearing the function mask leaves
the vectors' own masks. -/
def Obligations.MessagesAreSent : Prop :=
  (∀ (s : State) (g qid : Nat) (q : Queue),
    s.q g qid = some q → q.timer.isSome = true → q.vector ≠ 0xFFFF →
    ∃ t, exec (.coalescingTimerExpiry g qid) s = .next t ∧
      t.q g qid = some { q with pend := 0, timer := none, tbase := 0 } ∧ t = { s with qs := t.qs, fns := t.fns, out := t.out } ∧
      (s.dmaOk g = true → ((s.fn g).vec q.vector).mask = false → (s.fn g).fmask = false → (s.fn g).msixEn = true →
        ((s.fn g).vec q.vector).addr ≠ 0 → ((s.fn g).vec q.vector).gap = false →
        t.out = s.out ++ [.msix g q.vector ((s.fn g).vec q.vector).addr ((s.fn g).vec q.vector).data])) ∧
  (∀ (s : State) (g v : Nat), ((s.fn g).vec v).gap = true → ((s.fn g).vec v).delayed = true → ((s.fn g).vec v).mask = false →
    (s.fn g).fmask = false → (s.fn g).msixEn = true → ((s.fn g).vec v).addr ≠ 0 → s.dmaOk g = true →
    ∃ t, exec (.irqGapExpiry g v) s = .next t ∧ t = { s with fns := t.fns, out := t.out } ∧
      t.out = s.out ++ [.msix g v ((s.fn g).vec v).addr ((s.fn g).vec v).data] ∧ ((t.fn g).vec v).delayed = false ∧
      ((t.fn g).vec v).gap = true) ∧
  (∀ (s : State) (g v : Nat), s.reach g = true → s.stalledOf (s.portOf g) = [] → s.modeOf ≠ 5 → v ≤ s.vectors g →
    (s.fn g).fmask = false → (s.fn g).msixEn = true → ((s.fn g).vec v).pba = true → ((s.fn g).vec v).addr ≠ 0 → ((s.fn g).vec v).gap = false →
    s.dmaOk g = true →
    ∃ t, exec (.msixUnmask g (some v)) s = .next t ∧ t = { s with fns := t.fns, out := t.out } ∧
      t.out = s.out ++ [.msix g v ((s.fn g).vec v).addr ((s.fn g).vec v).data] ∧ ((t.fn g).vec v).mask = false ∧
      ((t.fn g).vec v).pba = false) ∧
  (∀ (s : State) (g : Nat), s.reach g = true → s.stalledOf (s.portOf g) = [] → s.modeOf ≠ 5 →
    ∃ t, exec (.msixUnmask g none) s = .next t ∧ t = { s with fns := t.fns, out := t.out } ∧ (t.fn g).fmask = false ∧
      ∀ v, ((t.fn g).vec v).mask = ((s.fn g).vec v).mask)

/-- 03 R70, R89, R96; 08 R227: a valid CR_HEAD value becomes HEAD, another one sets HEADF; GO of TQ_RESET closes the queue and
reaches every tag with 0x300, and a queue without tags returns to its creation values at once. -/
def Obligations.QueuePageWrites : Prop :=
  (∀ (s : State) (g qid value : Nat) (q : Queue), s.reach g = true → s.stalledOf (s.portOf g) = [] → s.intakeMode = true →
    s.q g qid = some q → headValid q (value % 65536) = true →
    ∃ t q', exec (.crHeadWrite g qid value) s = .next t ∧ t = { s with qs := t.qs } ∧ t.q g qid = some q' ∧
      q'.head = value % 65536 ∧ q' = { q with head := q'.head, pend := q'.pend, timer := q'.timer, tbase := q'.tbase }) ∧
  (∀ (s : State) (g qid value : Nat) (q : Queue), s.reach g = true → s.stalledOf (s.portOf g) = [] → s.intakeMode = true →
    s.q g qid = some q → headValid q (value % 65536) = false →
    exec (.crHeadWrite g qid value) s = .next (s.modQ g qid (fun q => { q with headf := true }))) ∧
  (∀ (s : State) (g qid value : Nat) (q : Queue), s.reach g = true → s.stalledOf (s.portOf g) = [] → s.intakeMode = true →
    s.q g qid = some q → bitN value 0 = true → q.resetting = false → q.deleting = false → s.slotsOf g qid ≠ [] →
    ∃ t, exec (.tqResetWrite g qid value) s = .next t ∧
      t = { s with qs := t.qs, sub := t.sub, hz := t.hz, zones := t.zones, media := t.media, vat := t.vat, ldp := t.ldp, cip := t.cip } ∧
      t.q g qid = some { q with resetting := true, presence := 0, cnt300 := 0 } ∧ s.reached t (s.slotsOf g qid) 0x300) ∧
  (∀ (s : State) (g qid value : Nat) (q : Queue), s.reach g = true → s.stalledOf (s.portOf g) = [] → s.intakeMode = true →
    s.q g qid = some q → bitN value 0 = true → q.resetting = false → q.deleting = false → s.slotsOf g qid = [] →
    (s.fn g).abBusy = false → s.waiters (.queueReset g qid) = [] → s.waiters (.queueResetMerged g qid) = [] →
    ∃ t, exec (.tqResetWrite g qid value) s = .next t ∧ t = { s with qs := t.qs } ∧ t.q g qid = some q.recreate)

/-- 02 R45; 08 R228: GO starts a function abort that reaches every tag, and is dropped while one runs; another value sets BADWR
and starts nothing. With no tag outstanding the abort ends at once. -/
def Obligations.AbortWrite : Prop :=
  (∀ (s : State) (g value : Nat), s.reach g = true → s.stalledOf (s.portOf g) = [] → s.modeOf ≠ 5 →
    value % 2 ^ 32 = 0xAB070001 → (s.fn g).abBusy = false → (s.fn g).flr = false → s.slotsOfFn g ≠ [] →
    ∃ t, exec (.fnAbortWrite g value) s = .next t ∧ (t.fn g).abBusy = true ∧ (t.fn g).abDone = false ∧ (t.fn g).abOrigin = 0 ∧
      t = { s with fns := t.fns, sub := t.sub, hz := t.hz, zones := t.zones, media := t.media, vat := t.vat, ldp := t.ldp, cip := t.cip } ∧
      s.reached t (s.slotsOfFn g) 0x301) ∧
  (∀ (s : State) (g value : Nat), s.reach g = true → s.stalledOf (s.portOf g) = [] → s.modeOf ≠ 5 →
    value % 2 ^ 32 = 0xAB070001 → (s.fn g).abBusy = false → (s.fn g).flr = false → s.slotsOfFn g = [] →
    ∃ t, exec (.fnAbortWrite g value) s = .next t ∧ (t.fn g).abBusy = false ∧ (t.fn g).abDone = true ∧ (t.fn g).abTags = 0 ∧
      t.sub = s.sub) ∧
  (∀ (s : State) (g value : Nat), s.reach g = true → s.stalledOf (s.portOf g) = [] → s.modeOf ≠ 5 →
    value % 2 ^ 32 = 0xAB070001 → (s.fn g).abBusy = true → exec (.fnAbortWrite g value) s = .next s) ∧
  (∀ (s : State) (g value : Nat), s.reach g = true → s.stalledOf (s.portOf g) = [] → s.modeOf ≠ 5 →
    value % 2 ^ 32 ≠ 0xAB070001 →
    ∃ t, exec (.fnAbortWrite g value) s = .next t ∧ (t.fn g).err.getLsbD 9 = true ∧ (t.fn g).abBusy = (s.fn g).abBusy ∧
      t = { s with fns := t.fns, out := t.out })

/-- 02 R46; 06 R163, R164, R167, R169: a doorbell while not BUSY captures the request buffer, which then stands for its
message's row, is answered where its type or sender is refused, or goes to the PF's inbox where the message is relayed; one
while BUSY is dropped and sets FN_ERR.MBX. -/
def Obligations.DoorbellCaptures : Prop :=
  (∀ (s : State) (g value : Nat) (r : Req), s.reach g = true → s.stalledOf (s.portOf g) = [] → s.ready = true →
    bitN value 0 = true → (s.fn g).mbBusy = false → (s.fn g).flr = false → reqOfBytes (memRead (s.fn g).reqBuf 0 4096) = r →
    s.refuses (some g) r.typ = none → s.relays g r.typ = false → r.typ ≠ 0x0091 →
    ∃ t, exec (.mbxDoorbellRing g value) s = .next t ∧ t = { s with fns := t.fns, pwr := { s.pwr with gated := false } } ∧
      (t.fn g).mbBusy = true ∧ (t.fn g).mbDone = false ∧ (t.fn g).req = some r ∧ ∀ g', g' ≠ g → t.fn g' = s.fn g') ∧
  (∀ (s : State) (g value st d : Nat) (r : Req), s.reach g = true → s.stalledOf (s.portOf g) = [] → s.ready = true →
    bitN value 0 = true → (s.fn g).mbBusy = false → (s.fn g).flr = false → reqOfBytes (memRead (s.fn g).reqBuf 0 4096) = r →
    s.refuses (some g) r.typ = some (st, d) →
    ∃ t, exec (.mbxDoorbellRing g value) s = .next t ∧ s.answered t (some g) r st d [] ∧
      t = { s with fns := t.fns, out := t.out, pwr := { s.pwr with gated := false } }) ∧
  (∀ (s : State) (g value : Nat) (r : Req), s.reach g = true → s.stalledOf (s.portOf g) = [] → s.ready = true →
    bitN value 0 = true → (s.fn g).mbBusy = false → (s.fn g).flr = false → reqOfBytes (memRead (s.fn g).reqBuf 0 4096) = r →
    s.refuses (some g) r.typ = none → s.relays g r.typ = true → r.len ≤ 4056 →
    ∃ t e, exec (.mbxDoorbellRing g value) s = .next t ∧ (t.fn g).mbBusy = true ∧ (t.fn g).mbRelayed = true ∧
      (t.fn (s.portOf g)).inbox = (s.fn (s.portOf g)).inbox ++ [e] ∧ e.gfn = g ∧ e.req = r ∧ e.fetched = false ∧
      t = { s with fns := t.fns, out := t.out, pwr := { s.pwr with gated := false } }) ∧
  (∀ (s : State) (g value : Nat), s.reach g = true → s.stalledOf (s.portOf g) = [] → s.modeOf ≠ 5 → bitN value 0 = true →
    s.mbxBusy g = true →
    ∃ t, exec (.mbxDoorbellRing g value) s = .next t ∧ (t.fn g).err.getLsbD 2 = true ∧ (t.fn g).req = (s.fn g).req ∧
      t = { s with fns := t.fns, out := t.out })

/-- 00 R6, R8; 02 R44, R46, R47, R49: FN_CTRL takes its three bits, FN_ERR clears the bits written 1, the request buffer
takes the word; a narrow or misaligned write of BAR0 is dropped with NARROW, a write of BAR4 by a PF with BADWR, and where no
such access stands recorded its BAR and offset are. -/
def Obligations.RegisterWrites : Prop :=
  (∀ (s : State) (g v : Nat), s.reach g = true → s.stalledOf (s.portOf g) = [] → s.modeOf ≠ 5 →
    exec (.registerWrite g 0 0x18 4 v) s = .next (s.modFn g (fun f => { f with ctrl := BitVec.ofNat 3 v }))) ∧
  (∀ (s : State) (g v : Nat), s.reach g = true → s.stalledOf (s.portOf g) = [] → s.modeOf ≠ 5 →
    exec (.registerWrite g 0 0x200 4 v) s = .next (s.modFn g (fun f => { f with err := f.err &&& ~~~(BitVec.ofNat 10 v) }))) ∧
  (∀ (s : State) (g off v : Nat), s.reach g = true → s.stalledOf (s.portOf g) = [] → s.modeOf ≠ 5 → 0x1000 ≤ off →
    off < 0x2000 → off % 4 = 0 →
    ∃ t, exec (.registerWrite g 0 off 4 v) s = .next t ∧ t = { s with fns := t.fns } ∧
      (t.fn g).reqBuf = memWrite (s.fn g).reqBuf (off - 0x1000) (leBytes 4 (v % 2 ^ 32)) ∧
      (∀ a, a < off - 0x1000 ∨ off - 0x1000 + 4 ≤ a → memByte (t.fn g).reqBuf a = memByte (s.fn g).reqBuf a) ∧
      ∀ g', g' ≠ g → t.fn g' = s.fn g') ∧
  (∀ (s : State) (g off w v : Nat), s.reach g = true → s.stalledOf (s.portOf g) = [] → s.modeOf ≠ 5 → wide off w = false →
    ∃ t, exec (.registerWrite g 0 off w v) s = .next t ∧ t = { s with fns := t.fns, out := t.out } ∧
      t.fn g = { s.fn g with err := (t.fn g).err, errOff := (t.fn g).errOff, errBar := (t.fn g).errBar, vecs := (t.fn g).vecs } ∧
      (t.fn g).err.getLsbD 0 = true ∧ ((s.fn g).err &&& 0x203#10 = 0 → (t.fn g).errOff = BitVec.ofNat 24 off ∧ (t.fn g).errBar = 0) ∧
      ∀ g', g' ≠ g → t.fn g' = s.fn g') ∧
  (∀ (s : State) (g off w v : Nat), s.reach g = true → s.stalledOf (s.portOf g) = [] → s.isPf g = true → s.modeOf ≠ 5 →
    wide off w = true → s.fst.fuses.dbgAuth = false →
    ∃ t, exec (.registerWrite g 4 off w v) s = .next t ∧ t = { s with fns := t.fns, out := t.out } ∧
      t.fn g = { s.fn g with err := (t.fn g).err, errOff := (t.fn g).errOff, errBar := (t.fn g).errBar, vecs := (t.fn g).vecs } ∧
      (t.fn g).err.getLsbD 9 = true ∧ ((s.fn g).err &&& 0x203#10 = 0 → (t.fn g).errOff = BitVec.ofNat 24 off ∧ (t.fn g).errBar = 4) ∧
      ∀ g', g' ≠ g → t.fn g' = s.fn g')

/-- 16 R454, R460; 02 R61: a read of PWR_XSTAT returns it and clears STALE; a stale read of BAR4 sets STALE and records its
offset. While DORMANT a read is answered from the shadow, which shows FN_STATUS and 0 elsewhere, a write is dropped, and either
wakes the block with source 6. -/
def Obligations.SpecialReads : Prop :=
  (∀ (s : State) (g : Nat), s.reach g = true → s.isPf g = true → s.modeOf ≠ 5 →
    exec (.pwrXstatRead g) s =
      .next { s with lastRead := BitVec.ofNat 64 (s.pwrWord 0x30), pwr := { s.pwr with stale := false } }) ∧
  (∀ (s : State) (g off : Nat), s.reach g = true → s.isPf g = true → s.modeOf ≠ 5 →
    ∃ t, exec (.bar4StaleRead g off) s = .next t ∧
      t = { s with lastRead := t.lastRead, freeCtr := t.freeCtr,
                   pwr := { s.pwr with stale := true, staleOff := BitVec.ofNat 24 off } }) ∧
  (∀ (s : State) (g bar off : Nat), s.reach g = true → s.modeOf = 5 → s.pwr.phase = 0 → s.pwr.stuck = false →
    ∃ t, exec (.dormantBarAccess g bar off false) s = .next t ∧ t.pwr.phase = 3 ∧ t.pwr.first = 6 ∧
      t.lastRead = BitVec.ofNat 64 (if bar = 0 ∧ off / 8 * 8 = 0x10 then s.shadowStatus else 0) ∧
      t = { s with lastRead := t.lastRead, pwr := t.pwr, brd := t.brd }) ∧
  (∀ (s : State) (g bar off : Nat), s.reach g = true → s.modeOf = 5 → s.pwr.phase = 0 → s.pwr.stuck = false →
    ∃ t, exec (.dormantBarAccess g bar off true) s = .next t ∧ t.pwr.phase = 3 ∧ t.pwr.first = 6 ∧
      t = { s with pwr := t.pwr, brd := t.brd })

/-- 03 R94; 04 R108, R114, R128; 14 R397, R400: dispatch ends a command of an undefined opcode with 0x001 and makes a NOP
ready; it gives a READ that passes its checks one in-flight entry under the key generation it found; for a scatter list it
asks for the list; a command that waits for entries gets its entry when one is free, and its wait is counted once. -/
def Obligations.DispatchValidates : Prop :=
  (∀ (s : State) (i : Nat) (x : Slot), s.slot i = some x → s.dispatchRuns = true → x.loc = .store → x.phase = .waiting →
    s.eligible i x = true → opDefined (cmdOf x.cmd).opc = false →
    ∃ t, exec (.dispatch i) s = .next t ∧ t.fixedAs i 0x001 0 ∧
      t = { s with sub := t.sub, hz := t.hz, zones := t.zones, media := t.media, vat := t.vat, ldp := t.ldp, cip := t.cip }) ∧
  (∀ (s : State) (i : Nat) (x : Slot), s.slot i = some x → s.dispatchRuns = true → x.loc = .store → x.phase = .waiting →
    s.eligible i x = true → (cmdOf x.cmd).opc = 15 →
    exec (.dispatch i) s = .next ((s.useShare x.cls).setSlot i { x with phase := .ready })) ∧
  (∀ (s : State) (i gen : Nat) (x : Slot) (ns : Ns), s.slot i = some x → s.dispatchRuns = true → x.loc = .store →
    x.phase = .waiting → s.eligible i x = true → (cmdOf x.cmd).opc = 1 → s.nsOf x (cmdOf x.cmd).nsid = some ns →
    s.badFields x.gfn x.cls (cmdOf x.cmd) ns = [] → listOf (cmdOf x.cmd) = none → x.ranges = [] → 0 < (cmdOf x.cmd).nlb →
    (cmdOf x.cmd).nlb ≤ 512 → (cmdOf x.cmd).slba + (cmdOf x.cmd).nlb ≤ ns.size →
    s.keyUsable x.gfn (kslotOf (cmdOf x.cmd) ns) = some gen → hzRoom s.hz 1 = true → hzFreeIn s.hz false ≠ none →
    ∃ t y k e, exec (.dispatch i) s = .next t ∧ t = { s with sub := t.sub, hz := t.hz } ∧ t.slot i = some y ∧ y.hz = [k] ∧
      y.kgen = gen ∧ y.kslot = kslotOf (cmdOf x.cmd) ns ∧ (y.phase = .ready ∨ y.phase = .blocked) ∧
      hzFreeIn s.hz false = some k ∧ tfind t.hz.entries k = some e ∧ e.lo = (cmdOf x.cmd).slba ∧
      e.last = (cmdOf x.cmd).slba + (cmdOf x.cmd).nlb - 1 ∧ e.nsid = (cmdOf x.cmd).nsid ∧ e.w = false ∧ e.owner = some i) ∧
  (∀ (s : State) (i a n : Nat) (x : Slot) (ns : Ns), s.slot i = some x → s.dispatchRuns = true → x.loc = .store →
    x.phase = .waiting → s.eligible i x = true → (cmdOf x.cmd).opc = 1 ∨ (cmdOf x.cmd).opc = 2 ∨ (cmdOf x.cmd).opc = 3 →
    s.nsOf x (cmdOf x.cmd).nsid = some ns → s.badFields x.gfn x.cls (cmdOf x.cmd) ns = [] →
    listOf (cmdOf x.cmd) = some (a, n) → s.ideBlocked x.gfn = false → s.dmaOk x.gfn = true →
    ∃ t y, exec (.dispatch i) s = .next t ∧ t = { s with sub := t.sub, out := s.out ++ [.dmaRead x.gfn a n] } ∧
      t.slot i = some y ∧ y.phase = .listFetch ∧ y.dma = true) ∧
  (∀ (s : State) (i lo hi nsid : Nat) (x : Slot), s.slot i = some x → s.dispatchRuns = true → x.loc = .store →
    x.phase = .hazWait → s.cmdRanges x = [(nsid, lo, hi)] → s.mayStart i x = true → hzRoom s.hz 1 = true →
    hzFreeIn s.hz false ≠ none →
    ∃ t y k e, exec (.dispatch i) s = .next t ∧ t = { s with sub := t.sub, hz := t.hz } ∧ t.slot i = some y ∧ y.hz = [k] ∧
      (y.phase = .ready ∨ y.phase = .blocked) ∧ hzFreeIn s.hz false = some k ∧ tfind t.hz.entries k = some e ∧ e.lo = lo ∧
      e.last = hi - 1 ∧ e.nsid = nsid ∧ e.owner = some i) ∧
  (∀ (s : State) (i lo hi nsid : Nat) (x : Slot), s.slot i = some x → s.dispatchRuns = true → x.loc = .store →
    x.phase = .hazWait → s.cmdRanges x = [(nsid, lo, hi)] → s.mayStart i x = true → hzRoom s.hz 1 = false →
    exec (.dispatch i) s = .next ({ s with hz := { s.hz with
      full0 := if x.hzCounted then s.hz.full0 else satInc s.hz.full0 } }.setSlot i { x with hzCounted := true }))

/-- 01 R19, R22; 04 R112, R116, R124: a READ or VERIFY of blocks that were never written ends with 0x000 and RESULT 0. Where
some block is staged, each staged block that has its vat buffer goes to a cipher lane, one without waits for it, and never-written
ones are ready. A READ of one block on media whose link and die can be read puts the READ operation into its link's queue where a
buffer is free, and else its request waits in the link sequencer's FIFO with no status. -/
def Obligations.ReadsAreServed : Prop :=
  (∀ (s : State) (i : Nat) (x : Slot), s.slot i = some x → x.phase = .ready → (cmdOf x.cmd).opc = 1 → s.pwr.pfailLow = false →
    s.touchesOffline (cmdOf x.cmd).nsid (cmdOf x.cmd).slba ((cmdOf x.cmd).slba + (cmdOf x.cmd).nlb) = false →
    s.ideBlocked x.gfn = false → x.enc = false →
    (∀ j, j < (cmdOf x.cmd).nlb → (s.blk (cmdOf x.cmd).nsid ((cmdOf x.cmd).slba + j)).ver = none) →
    ∃ t, exec (.read i) s = .next t ∧ t.fixedAs i 0 0 ∧
      t = { s with out := t.out, fns := t.fns, sub := t.sub, hz := t.hz, zones := t.zones, media := t.media, vat := t.vat, ldp := t.ldp, cip := t.cip }) ∧
  (∀ (s : State) (i : Nat) (x : Slot), s.slot i = some x → x.phase = .ready → (cmdOf x.cmd).opc = 8 → s.pwr.pfailLow = false →
    s.touchesOffline (cmdOf x.cmd).nsid (cmdOf x.cmd).slba ((cmdOf x.cmd).slba + (cmdOf x.cmd).nlb) = false → x.enc = false →
    (∀ j, j < (cmdOf x.cmd).nlb → (s.blk (cmdOf x.cmd).nsid ((cmdOf x.cmd).slba + j)).ver = none) →
    ∃ t, exec (.verify i) s = .next t ∧ t.fixedAs i 0 0 ∧
      t = { s with sub := t.sub, hz := t.hz, zones := t.zones, media := t.media, vat := t.vat, ldp := t.ldp, cip := t.cip }) ∧
  (∀ (s : State) (i k : Nat) (x : Slot) (c : Instr), s.slot i = some x → x.phase = .ready →
    ((c = .read i ∧ (cmdOf x.cmd).opc = 1 ∧ s.ideBlocked x.gfn = false) ∨ (c = .verify i ∧ (cmdOf x.cmd).opc = 8)) →
    s.pwr.pfailLow = false →
    s.touchesOffline (cmdOf x.cmd).nsid (cmdOf x.cmd).slba ((cmdOf x.cmd).slba + (cmdOf x.cmd).nlb) = false →
    k < (cmdOf x.cmd).nlb → (s.blk (cmdOf x.cmd).nsid ((cmdOf x.cmd).slba + k)).staged ≠ none →
    ∃ t y, exec c s = .next t ∧ t.slot i = some y ∧
      t = { s with sub := t.sub, hz := t.hz, links := t.links, cip := t.cip, vat := t.vat, media := t.media, freeCtr := t.freeCtr } ∧
      y.phase = .units ∧
      ∀ j, j < (cmdOf x.cmd).nlb → ∃ u, tfind y.units j = some u ∧ u.nsid = (cmdOf x.cmd).nsid ∧
        u.lba = (cmdOf x.cmd).slba + j ∧
        ((s.blk (cmdOf x.cmd).nsid ((cmdOf x.cmd).slba + j)).staged ≠ none →
          (if (tfind y.bufs (64 * j)).isSome then u.st = .cipher ∧ u.staged = true else u.st = .vat)) ∧
        ((s.blk (cmdOf x.cmd).nsid ((cmdOf x.cmd).slba + j)).ver = none →
          u.st = .ok ∧ u.unwritten = true ∧ u.plain = zeros 4096)) ∧
  (∀ (s : State) (i k : Nat) (x : Slot) (v : BlkVer) (l : MediaLoc) (op : LinkOp), s.slot i = some x → x.phase = .ready →
    (cmdOf x.cmd).opc = 1 → s.pwr.pfailLow = false → (cmdOf x.cmd).nlb = 1 → s.ideBlocked x.gfn = false →
    s.touchesOffline (cmdOf x.cmd).nsid (cmdOf x.cmd).slba ((cmdOf x.cmd).slba + 1) = false →
    (s.blk (cmdOf x.cmd).nsid (cmdOf x.cmd).slba).staged = none →
    (s.blk (cmdOf x.cmd).nsid (cmdOf x.cmd).slba).media = some (v, l) →
    s.readOp l 1 (s.firstSet l) (.unit i 0) = some (k, op) → s.placeUp l = true → k < 96 → 0 < s.vat.free 0 →
    ∃ t y u h, exec (.read i) s = .next t ∧
      t = { s.linkQueue k op true with sub := t.sub, vat := t.vat, freeCtr := t.freeCtr } ∧ t.slot i = some y ∧
      y.phase = .units ∧ tfind y.bufs 0 = some h ∧ tfind y.units 0 = some u ∧ u.st = .media ∧ u.rung = 1) ∧
  (∀ (s : State) (i : Nat) (x : Slot) (v : BlkVer) (l : MediaLoc) (r : BufReq), s.slot i = some x → x.phase = .ready →
    (cmdOf x.cmd).opc = 1 → s.pwr.pfailLow = false → (cmdOf x.cmd).nlb = 1 → s.ideBlocked x.gfn = false →
    s.touchesOffline (cmdOf x.cmd).nsid (cmdOf x.cmd).slba ((cmdOf x.cmd).slba + 1) = false →
    (s.blk (cmdOf x.cmd).nsid (cmdOf x.cmd).slba).staged = none →
    (s.blk (cmdOf x.cmd).nsid (cmdOf x.cmd).slba).media = some (v, l) → x.bufs = [] →
    r = { size := 4096, plain := true, readPath := true, use := some (i, 0) } →
    s.poolFor (0x40 + s.locLink l / 16) r = none → (tget s.vat.fifos (0x40 + s.locLink l / 16) []).length < 16 →
    ∃ t y u, exec (.read i) s = .next t ∧ t = { s with sub := t.sub, vat := t.vat } ∧ t.slot i = some y ∧ y.phase = .units ∧
      tget t.vat.fifos (0x40 + s.locLink l / 16) [] = tget s.vat.fifos (0x40 + s.locLink l / 16) [] ++ [r] ∧
      tfind y.units 0 = some u ∧ u.st = .vat)

/-- 01 R18, R28; 04 R109, R110, R117, R118, R125, R127; 02 R35: a write that may start reserves its staging bytes on the deckle and
asks for its data, or for its tag list first, once it has a vat buffer for every block: a zone WRITE that passed its checks, a
WRITE to a random namespace that has its places, a ZONE_APPEND. WRITE_ZEROES has its data and goes to encryption; a COPY whose sources were never written has it too. -/
def Obligations.WritesReserveStaging : Prop :=
  (∀ (s : State) (i : Nat) (x : Slot) (ns : Ns), s.slot i = some x →
    (ns.zoned = true ∧ x.phase = .seqPassed ∨ ns.zoned = false ∧ x.phase = .ready ∧ x.locs ≠ []) →
    (cmdOf x.cmd).opc = 2 → s.pwr.pfailLow = false →
    s.nsAny (cmdOf x.cmd).nsid = some ns → s.ideBlocked x.gfn = false →
    s.stageRoom (s.stageDeckle x ns) ((cmdOf x.cmd).nlb * 4096) = true →
    s.pf pReadReserve + (cmdOf x.cmd).nlb ≤ s.vat.free 0 →
    ∃ t y, exec (.write i) s = .next t ∧ t.slot i = some y ∧ y.dma = true ∧
      (∀ j, j < (cmdOf x.cmd).nlb → tfind y.bufs (64 * j) ≠ none) ∧
      y.phase = (if (cmdOf x.cmd).btag = true ∧ ns.tagMode ≠ 0 then .tagFetch else .dataFetch) ∧
      y.resv = (cmdOf x.cmd).nlb * 4096 ∧ y.resvDk = s.stageDeckle x ns ∧
      (t.dk (s.stageDeckle x ns)).staged = (s.dk (s.stageDeckle x ns)).staged + (cmdOf x.cmd).nlb * 4096 ∧
      (s.dmaOk x.gfn = true → (cmdOf x.cmd).btag = true → ns.tagMode ≠ 0 →
        t.out = s.out ++ [.dmaRead x.gfn (cmdOf x.cmd).tlptr (8 * (cmdOf x.cmd).nlb)]) ∧
      t = { s with sub := t.sub, media := t.media, out := t.out, vat := t.vat, freeCtr := t.freeCtr }) ∧
  (∀ (s : State) (i : Nat) (x : Slot) (ns : Ns), s.slot i = some x →
    (ns.zoned = true ∧ x.phase = .seqPassed ∨ ns.zoned = false ∧ x.phase = .ready ∧ x.locs ≠ []) →
    (cmdOf x.cmd).opc = 10 → s.pwr.pfailLow = false →
    s.nsAny (cmdOf x.cmd).nsid = some ns → s.stageRoom (s.stageDeckle x ns) ((cmdOf x.cmd).nlb * 4096) = true →
    ∃ t y, exec (.writeZeroes i) s = .next t ∧ t.slot i = some y ∧ y.phase = .units ∧ y.enc = true ∧
      y.data = List.replicate (cmdOf x.cmd).nlb (zeros 4096) ∧ y.resv = (cmdOf x.cmd).nlb * 4096 ∧
      t = { s with sub := t.sub, media := t.media, cip := t.cip }) ∧
  (∀ (s : State) (i : Nat) (x : Slot) (ns : Ns), s.slot i = some x → x.phase = .ready → (cmdOf x.cmd).opc = 3 →
    s.pwr.pfailLow = false → s.nsAny (cmdOf x.cmd).nsid = some ns → s.ideBlocked x.gfn = false →
    s.stageRoom (s.stageDeckle x ns) ((cmdOf x.cmd).nlb * 4096) = true →
    s.pf pReadReserve + (cmdOf x.cmd).nlb ≤ s.vat.free 0 →
    ∃ t y, exec (.zoneAppend i) s = .next t ∧ t.slot i = some y ∧ y.dma = true ∧
      (∀ j, j < (cmdOf x.cmd).nlb → tfind y.bufs (64 * j) ≠ none) ∧
      y.phase = (if (cmdOf x.cmd).btag = true ∧ ns.tagMode ≠ 0 then .tagFetch else .dataFetch) ∧
      y.resv = (cmdOf x.cmd).nlb * 4096 ∧
      t = { s with sub := t.sub, media := t.media, out := t.out, vat := t.vat, freeCtr := t.freeCtr }) ∧
  (∀ (s : State) (i : Nat) (x : Slot) (ns : Ns) (c : Instr) (r : BufReq), s.slot i = some x →
    ((c = .write i ∧ (cmdOf x.cmd).opc = 2 ∧ (ns.zoned = true ∧ x.phase = .seqPassed ∨ ns.zoned = false ∧ x.phase = .ready ∧ x.locs ≠ [])) ∨
      (c = .zoneAppend i ∧ (cmdOf x.cmd).opc = 3 ∧ x.phase = .ready)) →
    s.pwr.pfailLow = false → s.nsAny (cmdOf x.cmd).nsid = some ns → s.ideBlocked x.gfn = false → (cmdOf x.cmd).nlb = 1 →
    s.stageRoom (s.stageDeckle x ns) 4096 = true → x.bufs = [] →
    r = { size := 4096, plain := true, readPath := false, use := some (i, 0) } → s.poolFor (s.dmaPort x.gfn) r = none →
    (tget s.vat.fifos (s.dmaPort x.gfn) []).length < 16 →
    ∃ t y, exec c s = .next t ∧ t.slot i = some y ∧ y.phase = .vatWait ∧ y.resv = 4096 ∧
      tget t.vat.fifos (s.dmaPort x.gfn) [] = tget s.vat.fifos (s.dmaPort x.gfn) [] ++ [r] ∧
      t = { s with sub := t.sub, media := t.media, vat := t.vat }) ∧
  (∀ (s : State) (i : Nat) (x : Slot) (ns : Ns), s.slot i = some x → x.phase = .ready → (cmdOf x.cmd).opc = 9 →
    s.pwr.pfailLow = false → s.nsAny (cmdOf x.cmd).nsid = some ns → x.enc = false →
    s.stageRoom (s.stageDeckle x ns) ((cmdOf x.cmd).nlb * 4096) = true →
    (∀ r ∈ x.ranges, ∀ j, j < r.2.2.1 → (s.blk r.2.2.2 (r.2.1 + j)).ver = none) →
    ∃ t y, exec (.copy i) s = .next t ∧ t.slot i = some y ∧ y.phase = .units ∧ y.enc = true ∧
      y.resv = (cmdOf x.cmd).nlb * 4096 ∧ (∀ d ∈ y.data, d = zeros 4096) ∧
      t = { s with sub := t.sub, media := t.media, cip := t.cip })

/-- 04 R114, R117, R118, R127; 05 R141; 14 R398: at the head of the sequence of an open zone a WRITE or WRITE_ZEROES at the
pointer passes and advances the expected pointer, and one elsewhere ends with 0x104 and the pointer in RESULT. An append whose
data is ready, with no other command of the zone staging, lands at the write pointer, and its in-flight entry narrows to where
it lands. -/
def Obligations.ZoneSequenceOrder : Prop :=
  (∀ (s : State) (i : Nat) (x : Slot) (ns : Ns), s.slot i = some x → x.phase = .ready →
    (cmdOf x.cmd).opc = 2 ∨ (cmdOf x.cmd).opc = 10 →
    s.pwr.pfailLow = false → s.nsAny (cmdOf x.cmd).nsid = some ns → ns.zoned = true → s.isHead i x (cmdOf x.cmd) = true →
    (s.zone (cmdOf x.cmd).nsid (zoneOfLba (cmdOf x.cmd).slba)).st.isOpen = true →
    (cmdOf x.cmd).slba = zslba (zoneOfLba (cmdOf x.cmd).slba)
      + (s.zone (cmdOf x.cmd).nsid (zoneOfLba (cmdOf x.cmd).slba)).wp
      + (s.zone (cmdOf x.cmd).nsid (zoneOfLba (cmdOf x.cmd).slba)).pend →
    (cmdOf x.cmd).slba + (cmdOf x.cmd).nlb ≤ zslba (zoneOfLba (cmdOf x.cmd).slba)
      + (s.zone (cmdOf x.cmd).nsid (zoneOfLba (cmdOf x.cmd).slba)).zcap →
    ∃ t, exec (.zoneSequenceHead i) s = .next t ∧ t = { s with sub := t.sub, zones := t.zones } ∧
      t.slot i = some { x with phase := .seqPassed, adv := (cmdOf x.cmd).nlb } ∧
      t.zone (cmdOf x.cmd).nsid (zoneOfLba (cmdOf x.cmd).slba) =
        { s.zone (cmdOf x.cmd).nsid (zoneOfLba (cmdOf x.cmd).slba) with
          pend := (s.zone (cmdOf x.cmd).nsid (zoneOfLba (cmdOf x.cmd).slba)).pend + (cmdOf x.cmd).nlb } ∧
      ∀ j, j ≠ i → t.slot j = s.slot j) ∧
  (∀ (s : State) (i : Nat) (x : Slot) (ns : Ns), s.slot i = some x → x.phase = .ready →
    (cmdOf x.cmd).opc = 2 ∨ (cmdOf x.cmd).opc = 10 →
    s.pwr.pfailLow = false → s.nsAny (cmdOf x.cmd).nsid = some ns → ns.zoned = true → s.isHead i x (cmdOf x.cmd) = true →
    (s.zone (cmdOf x.cmd).nsid (zoneOfLba (cmdOf x.cmd).slba)).st.isOpen = true →
    (cmdOf x.cmd).slba + (cmdOf x.cmd).nlb ≤ zslba (zoneOfLba (cmdOf x.cmd).slba)
      + (s.zone (cmdOf x.cmd).nsid (zoneOfLba (cmdOf x.cmd).slba)).zcap →
    (cmdOf x.cmd).slba ≠ zslba (zoneOfLba (cmdOf x.cmd).slba)
      + ((s.zone (cmdOf x.cmd).nsid (zoneOfLba (cmdOf x.cmd).slba)).wp
      + (s.zone (cmdOf x.cmd).nsid (zoneOfLba (cmdOf x.cmd).slba)).pend) →
    ∃ t, exec (.zoneSequenceHead i) s = .next t ∧
      t.fixedAs i 0x104 (BitVec.ofNat 64 (zslba (zoneOfLba (cmdOf x.cmd).slba)
        + ((s.zone (cmdOf x.cmd).nsid (zoneOfLba (cmdOf x.cmd).slba)).wp
        + (s.zone (cmdOf x.cmd).nsid (zoneOfLba (cmdOf x.cmd).slba)).pend))) ∧
      t = { s with sub := t.sub, hz := t.hz, zones := t.zones, media := t.media, vat := t.vat, ldp := t.ldp, cip := t.cip }) ∧
  (∀ (s : State) (c : Instr) (i h : Nat) (x : Slot) (ns : Ns) (e : HzEntry), (c = .appendStage i ∨ c = .zoneSequenceHead i) →
    s.slot i = some x → x.phase = .appendReady → (cmdOf x.cmd).opc = 3 ∨ ((cmdOf x.cmd).opc = 9 ∧
      ∀ r ∈ x.ranges, s.touchesOffline r.2.2.2 r.2.1 (r.2.1 + r.2.2.1) = false) →
    s.pwr.pfailLow = false → s.nsAny (cmdOf x.cmd).nsid = some ns → s.zoneStaging i x (cmdOf x.cmd) = false →
    x.hz.getLast? = some h → tfind s.hz.entries h = some e → i ∉ e.waiters →
    (s.zone (cmdOf x.cmd).nsid (zoneOfLba (cmdOf x.cmd).slba)).st.isOpen = true →
    (s.zone (cmdOf x.cmd).nsid (zoneOfLba (cmdOf x.cmd).slba)).wp + (cmdOf x.cmd).nlb
      ≤ (s.zone (cmdOf x.cmd).nsid (zoneOfLba (cmdOf x.cmd).slba)).zcap →
    (s.zoneDeckle (cmdOf x.cmd).nsid (zoneOfLba (cmdOf x.cmd).slba) = x.resvDk ∨
      s.stageFits (s.zoneDeckle (cmdOf x.cmd).nsid (zoneOfLba (cmdOf x.cmd).slba)) x.resv = true) →
    ∃ t y f, exec c s = .next t ∧ t = { s with sub := t.sub, hz := t.hz, media := t.media } ∧ t.slot i = some y ∧
      y.phase = .mirror ∧ y.landing = zslba (zoneOfLba (cmdOf x.cmd).slba)
        + (s.zone (cmdOf x.cmd).nsid (zoneOfLba (cmdOf x.cmd).slba)).wp ∧
      y.resvDk = s.zoneDeckle (cmdOf x.cmd).nsid (zoneOfLba (cmdOf x.cmd).slba) ∧
      tfind t.hz.entries h = some f ∧ f.lo = y.landing ∧ f.last = y.landing + (cmdOf x.cmd).nlb - 1 ∧ f.iseq = e.iseq)

/-- 04 R121; 05 R140–R143; 09 R247: each ZONE_MGMT action moves a zone to its state, with RESULT 1: a closed zone opens, an
empty one opens with a ream of its own, an open one closes, an active one is finished with its pointer at the capacity, an
active or full one is reset, a read-only one goes offline. With ALL each run changes the next zone of the source set, and the
last one ends the command with the number of zones changed. -/
def Obligations.ZoneMgmtMovesZones : Prop :=
  (∀ (s : State) (i z : Nat) (x : Slot) (ns : Ns), s.slot i = some x → x.phase = .ready → (cmdOf x.cmd).opc = 5 →
    s.pwr.pfailLow = false → (cmdOf x.cmd).all = false → s.nsAny (cmdOf x.cmd).nsid = some ns →
    zoneOfLba (cmdOf x.cmd).slba = z → (cmdOf x.cmd).b40 = 1 → (s.zone (cmdOf x.cmd).nsid z).st = .closed →
    (ns.mor = 0 ∨ s.openNs (cmdOf x.cmd).nsid < ns.mor) →
    ∃ t, exec (.zoneMgmtOpen i) s = .next t ∧ (t.zone (cmdOf x.cmd).nsid z).st = .explicitOpen ∧ t.fixedAs i 0 1 ∧
      t = { s with sub := t.sub, hz := t.hz, zones := t.zones, media := t.media, vat := t.vat, ldp := t.ldp, cip := t.cip }) ∧
  (∀ (s u : State) (i z id g : Nat) (x : Slot) (ns : Ns), s.slot i = some x → x.phase = .ready → (cmdOf x.cmd).opc = 5 →
    s.pwr.pfailLow = false → (cmdOf x.cmd).all = false → s.nsAny (cmdOf x.cmd).nsid = some ns →
    zoneOfLba (cmdOf x.cmd).slba = z → (cmdOf x.cmd).b40 = 1 → (s.zone (cmdOf x.cmd).nsid z).st = .empty →
    (ns.mor = 0 ∨ s.openNs (cmdOf x.cmd).nsid < ns.mor) → s.activeAll < 4096 →
    (ns.mar = 0 ∨ s.activeNs (cmdOf x.cmd).nsid < ns.mar) →
    s.takeReam (cmdOf x.cmd).nsid ns x.cls x.grp 1 (zslba z) = .ok u id g →
    ∃ t, exec (.zoneMgmtOpen i) s = .next t ∧ (t.zone (cmdOf x.cmd).nsid z).st = .explicitOpen ∧
      (t.zone (cmdOf x.cmd).nsid z).ream = some id ∧ (t.zone (cmdOf x.cmd).nsid z).pgroup = g ∧
      (t.zone (cmdOf x.cmd).nsid z).wp = 0 ∧ t.fixedAs i 0 1 ∧
      t = { u with sub := t.sub, hz := t.hz, zones := t.zones, media := t.media, vat := t.vat, ldp := t.ldp, cip := t.cip }) ∧
  (∀ (s : State) (i z : Nat) (x : Slot) (ns : Ns), s.slot i = some x → x.phase = .ready → (cmdOf x.cmd).opc = 5 →
    s.pwr.pfailLow = false → (cmdOf x.cmd).all = false → s.nsAny (cmdOf x.cmd).nsid = some ns →
    zoneOfLba (cmdOf x.cmd).slba = z → (cmdOf x.cmd).b40 = 2 → (s.zone (cmdOf x.cmd).nsid z).st.isOpen = true →
    ∃ t, exec (.zoneMgmtClose i) s = .next t ∧ (t.zone (cmdOf x.cmd).nsid z).st = .closed ∧ t.fixedAs i 0 1 ∧
      (t.zone (cmdOf x.cmd).nsid z).wp = (s.zone (cmdOf x.cmd).nsid z).wp ∧
      t = { s with sub := t.sub, hz := t.hz, zones := t.zones, media := t.media, vat := t.vat, ldp := t.ldp, cip := t.cip }) ∧
  (∀ (s : State) (i z : Nat) (x : Slot) (ns : Ns), s.slot i = some x → x.phase = .ready → (cmdOf x.cmd).opc = 5 →
    s.pwr.pfailLow = false → (cmdOf x.cmd).all = false → s.nsAny (cmdOf x.cmd).nsid = some ns →
    zoneOfLba (cmdOf x.cmd).slba = z → (cmdOf x.cmd).b40 = 3 → (s.zone (cmdOf x.cmd).nsid z).st.active = true →
    s.mirrorOk = true → (s.finishBytes (cmdOf x.cmd).nsid z = 0 ∨
      s.stageFits (s.zoneDeckle (cmdOf x.cmd).nsid z) (s.finishBytes (cmdOf x.cmd).nsid z) = true) →
    ∃ t, exec (.zoneMgmtFinish i) s = .next t ∧ (t.zone (cmdOf x.cmd).nsid z).st = .full ∧ t.fixedAs i 0 1 ∧
      (t.zone (cmdOf x.cmd).nsid z).wp = (s.zone (cmdOf x.cmd).nsid z).zcap ∧
      t = { s with sub := t.sub, hz := t.hz, zones := t.zones, media := t.media, vat := t.vat, ldp := t.ldp, cip := t.cip }) ∧
  (∀ (s : State) (i z : Nat) (x : Slot) (ns : Ns), s.slot i = some x → x.phase = .ready → (cmdOf x.cmd).opc = 5 →
    s.pwr.pfailLow = false → (cmdOf x.cmd).all = false → s.nsAny (cmdOf x.cmd).nsid = some ns →
    zoneOfLba (cmdOf x.cmd).slba = z → (cmdOf x.cmd).b40 = 4 → s.mirrorOk = true →
    ((s.zone (cmdOf x.cmd).nsid z).st.active = true ∨ (s.zone (cmdOf x.cmd).nsid z).st = .full) →
    ∃ t, exec (.zoneMgmtReset i) s = .next t ∧ (t.zone (cmdOf x.cmd).nsid z).st = .empty ∧
      (t.zone (cmdOf x.cmd).nsid z).wp = 0 ∧ (t.zone (cmdOf x.cmd).nsid z).ream = none ∧ t.fixedAs i 0 1 ∧
      t = { s with sub := t.sub, hz := t.hz, zones := t.zones, media := t.media, vat := t.vat, ldp := t.ldp, cip := t.cip, nss := t.nss, links := t.links }) ∧
  (∀ (s : State) (i z : Nat) (x : Slot) (ns : Ns), s.slot i = some x → x.phase = .ready → (cmdOf x.cmd).opc = 5 →
    s.pwr.pfailLow = false → (cmdOf x.cmd).all = false → s.nsAny (cmdOf x.cmd).nsid = some ns →
    zoneOfLba (cmdOf x.cmd).slba = z → (cmdOf x.cmd).b40 = 5 → (s.zone (cmdOf x.cmd).nsid z).st = .readOnly →
    ∃ t, exec (.zoneMgmtOffline i) s = .next t ∧ (t.zone (cmdOf x.cmd).nsid z).st = .offline ∧
      (t.zone (cmdOf x.cmd).nsid z).zcap = 0 ∧ (t.zone (cmdOf x.cmd).nsid z).ream = none ∧ t.fixedAs i 0 1 ∧
      t = { s with sub := t.sub, hz := t.hz, zones := t.zones, media := t.media, vat := t.vat, ldp := t.ldp, cip := t.cip, nss := t.nss, links := t.links }) ∧
  (∀ (s : State) (i z a : Nat) (r : List Nat) (x : Slot) (ns : Ns), s.slot i = some x → x.phase = .ready →
    (cmdOf x.cmd).opc = 5 → s.pwr.pfailLow = false → (cmdOf x.cmd).all = true → s.nsAny (cmdOf x.cmd).nsid = some ns →
    (cmdOf x.cmd).b40 = a → 1 ≤ a → a ≤ 5 → x.todo = some (z :: r) →
    (mgmtRow a).2.1 (s.zone (cmdOf x.cmd).nsid z).st = true → s.mirrorOk = true →
    (s.finishBytes (cmdOf x.cmd).nsid z = 0 ∨
      s.stageFits (s.zoneDeckle (cmdOf x.cmd).nsid z) (s.finishBytes (cmdOf x.cmd).nsid z) = true) →
    ∃ t, exec ((mgmtRow a).1 i) s = .next t ∧ (t.zone (cmdOf x.cmd).nsid z).st = (mgmtRow a).2.2 ∧
      (r = [] → t.fixedAs i 0 (BitVec.ofNat 64 (x.changed + 1))) ∧
      (r ≠ [] → t.slot i = some { x with todo := some r, changed := x.changed + 1 }))

/-- 04 R119, R120, R122, R123, R128: NOP ends with 0x000. A FLUSH that has no earlier write to wait for ends with 0x000 where it
asks for no media or all that it covers is on media, and else waits for what stands now. ZONE_REPORT ends with the number of
descriptors it wrote, after the count of matching zones, into its buffer. DEALLOCATE unmaps the next bundle of its range that
it covers wholly, and ends with the last one. -/
def Obligations.DirectCommandsEnd : Prop :=
  (∀ (s : State) (i : Nat) (x : Slot), s.slot i = some x → x.phase = .ready → (cmdOf x.cmd).opc = 15 → s.pwr.pfailLow = false →
    ∃ t, exec (.nop i) s = .next t ∧ t.fixedAs i 0 0 ∧ t = { s with sub := t.sub, hz := t.hz, zones := t.zones, media := t.media, vat := t.vat, ldp := t.ldp, cip := t.cip }) ∧
  (∀ (s : State) (i : Nat) (x : Slot), s.slot i = some x → x.phase = .ready → (cmdOf x.cmd).opc = 4 → s.pwr.pfailLow = false →
    s.flushFree x (s.flushSet x (cmdOf x.cmd)) = true →
    ((cmdOf x.cmd).media = false ∨ s.flushed (s.flushSet x (cmdOf x.cmd)) s.media.order
      (s.flushJournals (s.flushSet x (cmdOf x.cmd))) = true) →
    ∃ t, exec (.flush i) s = .next t ∧ t.fixedAs i 0 0 ∧ t = { s with sub := t.sub, hz := t.hz, zones := t.zones, media := t.media, vat := t.vat, ldp := t.ldp, cip := t.cip }) ∧
  (∀ (s : State) (i : Nat) (x : Slot), s.slot i = some x → x.phase = .ready → (cmdOf x.cmd).opc = 4 → s.pwr.pfailLow = false →
    s.flushFree x (s.flushSet x (cmdOf x.cmd)) = true → (cmdOf x.cmd).media = true →
    s.flushed (s.flushSet x (cmdOf x.cmd)) s.media.order (s.flushJournals (s.flushSet x (cmdOf x.cmd))) = false →
    exec (.flush i) s = .next (s.setSlot i { x with
      phase := .flushing, flushOrder := s.media.order, flushJrnl := s.flushJournals (s.flushSet x (cmdOf x.cmd)) })) ∧
  (∀ (s : State) (i : Nat) (x : Slot), s.slot i = some x → x.phase = .flushing → (cmdOf x.cmd).opc = 4 →
    s.pwr.pfailLow = false → s.flushed (s.flushSet x (cmdOf x.cmd)) x.flushOrder x.flushJrnl = true →
    ∃ t, exec (.flush i) s = .next t ∧ t.fixedAs i 0 0 ∧ t = { s with sub := t.sub, hz := t.hz, zones := t.zones, media := t.media, vat := t.vat, ldp := t.ldp, cip := t.cip }) ∧
  (∀ (s : State) (i : Nat) (x : Slot) (ns : Ns) (l : List Nat), s.slot i = some x → x.phase = .ready → (cmdOf x.cmd).opc = 6 →
    s.pwr.pfailLow = false → s.ideBlocked x.gfn = false → s.nsAny (cmdOf x.cmd).nsid = some ns →
    s.zoneList (cmdOf x.cmd).nsid (zoneOfLba (cmdOf x.cmd).slba) (cmdOf x.cmd).b40 (ns.size / zspan)
      (x.segs.foldl (fun a p => a + p.2) 0 / 64 - 1) = l →
    ∃ t, exec (.zoneReport i) s = .next t ∧ t.fixedAs i 0 (BitVec.ofNat 64 l.length) ∧
      (∀ a n, x.segs = [(a, n)] → 64 ≤ n → s.dmaOk x.gfn = true → t.out = s.out ++ [.hostWrite x.gfn a
        (leBytes 8 (if (cmdOf x.cmd).partialF then l.length else
            s.zoneMatches (cmdOf x.cmd).nsid (zoneOfLba (cmdOf x.cmd).slba) (cmdOf x.cmd).b40 (ns.size / zspan))
          ++ zeros 56 ++ l.flatMap (s.zoneDesc (cmdOf x.cmd).nsid)) ((s.fn x.gfn).devCtl.getLsbD 4)]) ∧
      t = { s with out := t.out, fns := t.fns, sub := t.sub, hz := t.hz, zones := t.zones, media := t.media, vat := t.vat, ldp := t.ldp, cip := t.cip }) ∧
  (∀ (s : State) (i b : Nat) (r : List Nat) (x : Slot) (ns : Ns), s.slot i = some x → x.phase = .ready →
    (cmdOf x.cmd).opc = 7 → s.pwr.pfailLow = false → s.nsAny (cmdOf x.cmd).nsid = some ns →
    x.todo.getD (s.mappedIn (cmdOf x.cmd).nsid (cmdOf x.cmd).slba ((cmdOf x.cmd).slba + (cmdOf x.cmd).nlb)) = b :: r →
    (cmdOf x.cmd).slba ≤ 16 * b → 16 * (b + 1) ≤ (cmdOf x.cmd).slba + (cmdOf x.cmd).nlb →
    (s.bun (cmdOf x.cmd).nsid b).st ≠ 0 →
    ∃ t, exec (.deallocate i) s = .next t ∧ (t.bun (cmdOf x.cmd).nsid b).st = 0 ∧
      (∀ j, j < 16 → (t.blk (cmdOf x.cmd).nsid (16 * b + j)).ver = none) ∧
      (∀ b', b' ≠ b → t.bun (cmdOf x.cmd).nsid b' = s.bun (cmdOf x.cmd).nsid b') ∧
      (r = [] → t.fixedAs i 0 0) ∧ (r ≠ [] → t.slot i = some { x with todo := some r, changed := x.changed + 1 }) ∧
      t = { s with sub := t.sub, hz := t.hz, zones := t.zones, media := t.media, vat := t.vat, ldp := t.ldp, cip := t.cip, glb := t.glb, fns := t.fns, out := t.out,
                   nss := t.nss, links := t.links }) ∧
  (∀ (s : State) (i : Nat) (x : Slot) (ns : Ns), s.slot i = some x → x.phase = .ready → (cmdOf x.cmd).opc = 7 →
    s.pwr.pfailLow = false → s.nsAny (cmdOf x.cmd).nsid = some ns →
    x.todo.getD (s.mappedIn (cmdOf x.cmd).nsid (cmdOf x.cmd).slba ((cmdOf x.cmd).slba + (cmdOf x.cmd).nlb)) = [] →
    ∃ t, exec (.deallocate i) s = .next t ∧ t.fixedAs i 0 0 ∧ t.media.buns = s.media.buns ∧ t.media.blks = s.media.blks ∧
      t = { s with sub := t.sub, hz := t.hz, zones := t.zones, media := t.media, vat := t.vat, ldp := t.ldp, cip := t.cip, glb := t.glb, fns := t.fns, out := t.out,
                   nss := t.nss, links := t.links })

/-- 02 R35, R47; 04 R108–R111: host data that arrives goes to encryption, with the tags that the controller computes or with
the host's own where each matches; a mismatch ends the command with 0x201. A data fetch that fails or times out ends the
command with 0x007 and sets FN_ERR.DMA, or FN_ERR.POISON where it is poisoned; so does the fetch of a scatter list. A faulty
scatter list ends it with 0x002 and the element. A block-tag list that arrives is followed by the request for the data. -/
def Obligations.HostReadsEnd : Prop :=
  (∀ (s : State) (i : Nat) (x : Slot) (ns : Ns) (b : List Byte), i < 2 ^ 32 → s.slot i = some x → x.dma = true →
    x.phase = .dataFetch → s.pwr.pfailLow = false → x.stop = none → s.nsAny (cmdOf x.cmd).nsid = some ns →
    tagMismatch (cmdOf x.cmd) ns ((List.range (cmdOf x.cmd).nlb).map (blockOf b)) x.tags = [] ∨ x.tags = [] →
    ∃ t y, exec (.dmaCompletion i (.data b)) s = .next t ∧ t = { s with sub := t.sub, cip := t.cip, vat := t.vat } ∧ t.slot i = some y ∧
      y.phase = .units ∧ y.enc = true ∧ y.dma = false ∧ y.data = (List.range (cmdOf x.cmd).nlb).map (blockOf b) ∧
      y.tags = (if x.tags = [] then y.data.map (ownTag ns) else x.tags)) ∧
  (∀ (s : State) (i o : Nat) (r : List Nat) (x : Slot) (ns : Ns) (b : List Byte), i < 2 ^ 32 → s.slot i = some x →
    x.dma = true → x.phase = .dataFetch → s.pwr.pfailLow = false → x.stop = none → s.nsAny (cmdOf x.cmd).nsid = some ns →
    x.tags ≠ [] → tagMismatch (cmdOf x.cmd) ns ((List.range (cmdOf x.cmd).nlb).map (blockOf b)) x.tags = o :: r →
    ∃ t, exec (.dmaCompletion i (.data b)) s = .next t ∧ t.fixedAs i 0x201 (badBlocks o (r.length + 1)) ∧
      t = { s with sub := t.sub, hz := t.hz, zones := t.zones, media := t.media, vat := t.vat, ldp := t.ldp, cip := t.cip }) ∧
  (∀ (s : State) (i : Nat) (x : Slot) (res : DmaRes), i < 2 ^ 32 → s.slot i = some x → x.dma = true → x.phase = .dataFetch →
    s.pwr.pfailLow = false → dmaBytes res = none →
    ∃ t, exec (.dmaCompletion i res) s = .next t ∧ t.fixedAs i 0x007 0 ∧
      (t.fn x.gfn).err.getLsbD (if res = .poison then 7 else 5) = true ∧
      t = { s with fns := t.fns, out := t.out, sub := t.sub, hz := t.hz, zones := t.zones, media := t.media, vat := t.vat, ldp := t.ldp, cip := t.cip }) ∧
  (∀ (s : State) (i : Nat) (x : Slot), i < 2 ^ 32 → s.slot i = some x → x.dma = true → x.phase = .dataFetch →
    s.pwr.pfailLow = false →
    ∃ t, exec (.dmaTimeout i) s = .next t ∧ t.fixedAs i 0x007 0 ∧ (t.fn x.gfn).err.getLsbD 5 = true ∧
      t = { s with fns := t.fns, out := t.out, sub := t.sub, hz := t.hz, zones := t.zones, media := t.media, vat := t.vat, ldp := t.ldp, cip := t.cip }) ∧
  (∀ (s : State) (i : Nat) (x : Slot), s.slot i = some x → x.dma = true → x.phase = .listFetch → (cmdOf x.cmd).opc ≠ 9 →
    s.pwr.pfailLow = false →
    ∃ t, exec (.listFetchDone i .poison) s = .next t ∧ t.fixedAs i 0x007 0 ∧ (t.fn x.gfn).err.getLsbD 7 = true ∧
      t = { s with fns := t.fns, out := t.out, sub := t.sub, hz := t.hz, zones := t.zones, media := t.media, vat := t.vat, ldp := t.ldp, cip := t.cip }) ∧
  (∀ (s : State) (i e : Nat) (x : Slot) (ns : Ns) (b : List Byte), s.slot i = some x → x.dma = true → x.phase = .listFetch →
    (cmdOf x.cmd).opc ≠ 9 → s.pwr.pfailLow = false → x.stop = none → s.nsOf x (cmdOf x.cmd).nsid = some ns →
    checkScatter (cmdOf x.cmd) b = .inl e →
    ∃ t, exec (.listFetchDone i (.data b)) s = .next t ∧ t.fixedAs i 0x002 (badField 24 (some e)) ∧
      t = { s with sub := t.sub, hz := t.hz, zones := t.zones, media := t.media, vat := t.vat, ldp := t.ldp, cip := t.cip }) ∧
  (∀ (s : State) (i : Nat) (x : Slot) (b : List Byte), s.slot i = some x → x.dma = true → x.phase = .tagFetch →
    s.pwr.pfailLow = false → x.stop = none → s.dmaOk x.gfn = true →
    ∃ t y, exec (.listFetchDone i (.data b)) s = .next t ∧ t = { s with sub := t.sub, out := t.out } ∧ t.slot i = some y ∧
      y.phase = .dataFetch ∧ y.dma = true ∧ y.tags = (List.range (cmdOf x.cmd).nlb).map (fun j => fieldLe b (8 * j) 8) ∧
      t.out = s.out ++ x.segs.map (fun p => .dmaRead x.gfn p.1 p.2))

/-- 11 R328, R337, R347: a block inside a lane that the lane has processed goes to the source queue of the lane's slice: a block to
write, one whose checker mismatched with 0x203 and the lane's fault counted, and a block read from media with what its
check found. The collector takes one entry of the next queue that holds any and records its outcome; the last block of a WRITE
sends the command to its mirror writes. -/
def Obligations.UnitsAreCollected : Prop :=
  (∀ (s : State) (lane i idx : Nat) (x : Slot) (u : IoUnit), s.slot i = some x → tfind x.units idx = some u → u.st = .cipher →
    s.pwr.pfailLow = false → x.enc = true → u.staged = false →
    lane < 96 → (i, idx) ∈ (s.lane lane).inside → s.collectFull lane = false → s.laneKey x.gfn x.kslot x.kgen = true →
    x.stop = none →
    ∃ t y v, exec (.cipherUnitDone lane i idx true) s = .next t ∧ t = { s with sub := t.sub, cip := t.cip } ∧
      tget t.sub.ccq lane [] = tget s.sub.ccq lane [] ++ [(i, idx)] ∧ t.slot i = some y ∧ tfind y.units idx = some v ∧
      v.st = .posted ∧ v.res = 0 ∧ (t.lane lane).units = (s.lane lane).units + 1) ∧
  (∀ (s : State) (lane i idx : Nat) (x : Slot) (u : IoUnit), s.slot i = some x → tfind x.units idx = some u → u.st = .cipher →
    s.pwr.pfailLow = false → x.enc = true → u.staged = false →
    lane < 96 → (i, idx) ∈ (s.lane lane).inside → s.collectFull lane = false → s.laneKey x.gfn x.kslot x.kgen = true →
    x.stop = none →
    (s.lane lane).faults ≠ 2 → (s.lane lane).faults ≠ 3 →
    ∃ t y v, exec (.cipherUnitDone lane i idx false) s = .next t ∧ t = { s with sub := t.sub, cip := t.cip } ∧
      t.slot i = some y ∧ tfind y.units idx = some v ∧
      v.st = .posted ∧ v.res = 0x203 ∧ (t.lane lane).faults = (s.lane lane).faults + 1) ∧
  (∀ (s : State) (lane i idx : Nat) (x : Slot) (u : IoUnit) (w : BlkVer), s.slot i = some x → tfind x.units idx = some u →
    u.st = .cipher → s.pwr.pfailLow = false → x.enc = false → u.staged = false → (cmdOf x.cmd).opc ≠ 9 →
    lane < 96 → (i, idx) ∈ (s.lane lane).inside → (s.blk u.nsid u.lba).ver = some w → w.data.slot = x.kslot →
    w.data.gen = x.kgen → s.laneKey x.gfn x.kslot x.kgen = true → s.collectFull lane = false → x.stop = none →
    ∃ t y v, exec (.cipherUnitDone lane i idx true) s = .next t ∧ t = { s with sub := t.sub, cip := t.cip } ∧
      tget t.sub.ccq lane [] = tget s.sub.ccq lane [] ++ [(i, idx)] ∧ (t.lane lane).units = (s.lane lane).units + 1 ∧ t.slot i = some y ∧
      tfind y.units idx = some v ∧ v.st = .posted ∧ v.plain = w.data.plain ∧ v.res = (s.openUnit u).2) ∧
  (∀ (s : State) (k i idx : Nat) (r : List (Nat × Nat)) (x : Slot) (u : IoUnit), s.pwr.pfailLow = false →
    ccPick s.sub.ccq s.sub.ccLast = some k → tget s.sub.ccq k [] = (i, idx) :: r → s.slot i = some x → x.phase = .units →
    tfind x.units idx = some u → u.st = .posted → (∃ p ∈ x.units, p.1 ≠ idx ∧ p.2.st.final = false) →
    ∃ t y v, exec .completionCollectorEntry s = .next t ∧ t.sub.ccLast = k ∧
      tget t.sub.ccq k [] = r ++ (tget s.sub.ccWait k []).take 1 ∧ t.slot i = some y ∧
      tfind y.units idx = some v ∧ v.st = (if u.res = 0 then .ok else .failed u.res) ∧ y.phase = .units ∧
      t = { s with sub := t.sub, pwr := { s.pwr with gated := false } }) ∧
  (∀ (s : State) (k i idx : Nat) (r : List (Nat × Nat)) (x : Slot) (u : IoUnit), s.pwr.pfailLow = false →
    ccPick s.sub.ccq s.sub.ccLast = some k → tget s.sub.ccq k [] = (i, idx) :: r → s.slot i = some x → x.phase = .units →
    tfind x.units idx = some u → u.st = .posted → u.res = 0 → (∀ p ∈ x.units, p.1 ≠ idx → p.2.st = .ok) →
    tsorted x.units = true → x.enc = true → (cmdOf x.cmd).opc = 2 ∨ (cmdOf x.cmd).opc = 10 →
    ∃ t y, exec .completionCollectorEntry s = .next t ∧ t.slot i = some y ∧ y.phase = .mirror ∧
      t = { s with sub := t.sub, pwr := { s.pwr with gated := false } })

/-- 01 R20, R21; 04 R117: a failed mirror write ends the command with 0x204 while nothing of it is durable. Two acknowledged
copies on different channels in service count their piece as mirrored, and while another piece of the command is not, nothing
becomes durable. The last acknowledgement of a WRITE of one piece at its zone's pointer ends it with 0x000 and advances the
pointer over its blocks. -/
def Obligations.MirrorAcks : Prop :=
  (∀ (s : State) (i p a b : Nat) (x : Slot) (ns : Ns), s.slot i = some x → x.phase = .mirror → s.pwr.pfailLow = false →
    s.nsAny (cmdOf x.cmd).nsid = some ns → p < (x.pieceList ns.zoned).length → x.pieces = 0 →
    ∃ t, exec (.mirrorWriteAck i p a b false) s = .next t ∧ t.fixedAs i 0x204 0 ∧
      t = { s with sub := t.sub, hz := t.hz, zones := t.zones, media := t.media, vat := t.vat, ldp := t.ldp, cip := t.cip }) ∧
  (∀ (s : State) (i p a b : Nat) (x : Slot) (ns : Ns), s.slot i = some x → x.phase = .mirror → s.pwr.pfailLow = false →
    s.nsAny (cmdOf x.cmd).nsid = some ns → ns.zoned = false → p < (x.pieceList false).length → x.mirrored.getLsbD p = false →
    a % 8 ≠ b % 8 → s.dramUp a = true → s.dramUp b = true →
    (x.mirrored ||| (1#8 <<< p)).toNat ≠ allPieces (x.pieceList false).length →
    exec (.mirrorWriteAck i p a b true) s =
      .next (s.setSlot i { x with mirrored := x.mirrored ||| (1#8 <<< p), chans := tset x.chans p (32 * a + b) })) ∧
  (∀ (s : State) (i a b z : Nat) (x : Slot) (ns : Ns), s.slot i = some x → x.phase = .mirror → s.pwr.pfailLow = false →
    (cmdOf x.cmd).opc = 2 → x.stop = none → s.nsAny (cmdOf x.cmd).nsid = some ns → ns.zoned = true → zoneOfLba (cmdOf x.cmd).slba = z →
    0 < (cmdOf x.cmd).nlb → (cmdOf x.cmd).nlb ≤ 64 → x.mirrored = 0 → x.pieces = 0 → x.adv = (cmdOf x.cmd).nlb → x.cut = none →
    s.stageTurn i x (cmdOf x.cmd) = true → (s.zone (cmdOf x.cmd).nsid z).st.isOpen = true →
    (cmdOf x.cmd).slba = zslba z + (s.zone (cmdOf x.cmd).nsid z).wp → s.parityBytes (cmdOf x.cmd).nsid z (cmdOf x.cmd).nlb = 0 →
    a % 8 ≠ b % 8 → s.dramUp a = true → s.dramUp b = true →
    s.stageWindow (cmdOf x.cmd).nsid (cmdOf x.cmd).slba ((cmdOf x.cmd).slba + (cmdOf x.cmd).nlb - 1) ≠ none →
    ∃ t, exec (.mirrorWriteAck i 0 a b true) s = .next t ∧ t.fixedAs i 0 0 ∧
      (t.zone (cmdOf x.cmd).nsid z).wp = (s.zone (cmdOf x.cmd).nsid z).wp + (cmdOf x.cmd).nlb ∧
      t = { s with sub := t.sub, hz := t.hz, zones := t.zones, media := t.media, vat := t.vat, ldp := t.ldp, cip := t.cip, fns := t.fns, out := t.out })

/-- 14 R394, R395, R398, R400: SEARCH records the lowest match, the count of matches and MULTI and changes no entry;
SEARCH_INSERT records the result of its search and puts its key under the next ISEQ into the lowest free entry of its group, and
where none is free it counts the wait and changes no entry; STEP records the next match above the handle's position; MODIFY, where
the change is one that it may make (DEDUCED, log 29), changes the range of an entry and keeps its ISEQ, namespace and W; REMOVE
frees the entry. MODIFY and REMOVE touch the other entries' waiter lists and the waiting commands' slots alone. -/
def Obligations.HazardEngine : Prop :=
  (∀ (s : State) (req mask : Nat) (key : SearchKey) (ceiling : Option Nat),
    ∃ t, exec (.search req key mask ceiling) s = .next t ∧ t = { s with hz := t.hz } ∧ t.hz.entries = s.hz.entries ∧
      t.hz.searches = s.hz.searches + 1 ∧ t.hz.lastResult = hzResult (hzSearch s.hz (hzKeyOf key) mask ceiling)) ∧
  (∀ (s : State) (req i : Nat) (key : SearchKey) (staging : Bool), hzFreeIn s.hz staging = some i →
    ∃ t e, exec (.searchInsert req key staging) s = .next t ∧ t = { s with hz := t.hz } ∧ tfind t.hz.entries i = some e ∧
      e.lo = key.lo ∧ e.last = key.last ∧ e.nsid = key.nsid ∧ e.w = key.w ∧ e.iseq = s.hz.nextIseq ∧
      t.hz.nextIseq = s.hz.nextIseq + 1 ∧ t.hz.lastResult = hzResult (hzSearch s.hz (hzKeyOf key) 0xFFF none) ∧
      ∀ j, j ≠ i → tfind t.hz.entries j = tfind s.hz.entries j) ∧
  (∀ (s : State) (req : Nat) (key : SearchKey) (staging : Bool), hzFreeIn s.hz staging = none →
    ∃ t, exec (.searchInsert req key staging) s = .next t ∧ t = { s with hz := t.hz } ∧ t.hz.entries = s.hz.entries ∧
      t.hz.nextIseq = s.hz.nextIseq ∧ t.hz.lastResult = hzResult (hzSearch s.hz (hzKeyOf key) 0xFFF none) ∧
      t.hz.full8 = (if staging = true then satInc s.hz.full8 else s.hz.full8) ∧
      t.hz.full0 = (if staging = true then s.hz.full0 else satInc s.hz.full0)) ∧
  (∀ (s : State) (req : Nat) (d : HzHandle), tfind s.hz.handles req = some d →
    ∃ t, exec (.step req) s = .next t ∧ t = { s with hz := t.hz } ∧ t.hz.entries = s.hz.entries ∧
      t.hz.lastResult.count = s.hz.lastResult.count ∧ t.hz.lastResult.multi = s.hz.lastResult.multi ∧
      (match (hzSearch s.hz d.key d.mask d.ceiling).find? (fun i => decide (d.last < i)) with
        | some i => t.hz.lastResult.isMatch = true ∧ t.hz.lastResult.index = i ∧
            tfind t.hz.handles req = some { d with last := i }
        | none => t.hz.lastResult.isMatch = false)) ∧
  (∀ (s : State) (i lo last : Nat) (e : HzEntry), tfind s.hz.entries i = some e → modifyOk i e lo last = true →
    ∃ t f, exec (.modify i lo last) s = .next t ∧ t = { s with hz := t.hz, sub := t.sub } ∧
      tfind t.hz.entries i = some f ∧ f.lo = lo ∧ f.last = last ∧ f.iseq = e.iseq ∧ f.nsid = e.nsid ∧ f.w = e.w ∧
      ∀ j, j ≠ i → (tfind t.hz.entries j).map (fun x => { x with waiters := [] }) =
        (tfind s.hz.entries j).map (fun x => { x with waiters := [] })) ∧
  (∀ (s : State) (i : Nat) (e : HzEntry), tfind s.hz.entries i = some e →
    ∃ t, exec (.remove i) s = .next t ∧ t = { s with hz := t.hz, sub := t.sub } ∧ tfind t.hz.entries i = none ∧
      ∀ j, j ≠ i → (tfind t.hz.entries j).map (fun x => { x with waiters := [] }) =
        (tfind s.hz.entries j).map (fun x => { x with waiters := [] }))

/-- 14 R393: an entry matches a range key when the namespaces are equal, the ranges overlap and one of the two is a write, and never
otherwise; two reads never match; the entry made from a key has the key's fields. -/
def Obligations.RangeMatch : Prop :=
  (∀ (h : Hz) (b : Nat) (e : HzEntry) (k : HzKey), b < 12 →
    (hzMatch h b e k = true ↔ e.nsid = k.nsid ∧ e.lo ≤ k.last ∧ k.lo ≤ e.last ∧ (e.w = true ∨ k.w = true))) ∧
  (∀ (h : Hz) (b : Nat) (e : HzEntry) (k : HzKey), b < 12 → e.w = false → k.w = false → hzMatch h b e k = false) ∧
  (∀ (h : Hz) (i : Nat) (k : HzKey) (o : Option Nat), ∃ e, tfind (hzPut h i k o).entries i = some e ∧
    e.lo = k.lo ∧ e.last = k.last ∧ e.nsid = k.nsid ∧ e.w = k.w)

/-- 11 R342–R346: a request that an eligible pool can serve gets a buffer of that pool, allocated under the requester's ID with its
generation kept (which buffer is free: log 11); FREE by the owner returns the buffer under its next generation, and where a waiting
request's turn is come the buffer is allocated to that requester at once and its request leaves its FIFO, which what the requester
stalled with then enters; GIVE changes the owner and
keeps the generation; a FREE under an old generation is rejected as stale, is counted and
captured, frees nothing, and is recorded in the ledger where it is the boot's first rejection. -/
def Obligations.VatBuffers : Prop :=
  (∀ (s : State) (owner size n : Nat) (plain rp : Bool),
    s.poolFor owner { size := size, plain := plain, readPath := rp } = some n → (List.range 8).any (s.vat.eligible size plain) = true →
    ∃ t idx b, exec (.bufferRequest owner size plain rp) s = .next t ∧ t = { s with vat := t.vat, freeCtr := t.freeCtr } ∧
      tfind t.vat.bufs (bufKey n idx) = some b ∧ b.alloc = true ∧ b.owner = owner ∧ b.gen = (s.vat.buf n idx).gen ∧
      ∀ k, k ≠ bufKey n idx → tfind t.vat.bufs k = tfind s.vat.bufs k) ∧
  (∀ (s s1 : State) (owner handle pool idx : Nat), s.handleBad owner handle = none →
    handle / 2 ^ 29 % 8 = pool → handle / 2 ^ 8 % 2 ^ 21 = idx →
    { s with vat := { s.vat with bufs := (tset s.vat.bufs (bufKey pool idx)
      { alloc := false, owner := 0x7F, gen := (s.vat.buf pool idx).gen + 1 }) } } = s1 →
    ∃ t, exec (.free owner handle) s = .next t ∧ t = { s with vat := t.vat, sub := t.sub } ∧
      (∀ k, k ≠ bufKey pool idx → tfind t.vat.bufs k = tfind s.vat.bufs k) ∧
      match s1.vatNext pool with
      | none => t.vat.buf pool idx = { alloc := false, owner := 0x7F, gen := (s.vat.buf pool idx).gen + 1 } ∧
          t.vat.fifos = s.vat.fifos ∧ t.sub = s.sub
      | some o => t.vat.buf pool idx = { alloc := true, owner := o, gen := (s.vat.buf pool idx).gen + 1 } ∧
          tget t.vat.fifos o [] = (tget s.vat.fifos o []).drop 1 ++ (tget s.vat.stalled o []).take 1) ∧
  (∀ (s : State) (owner handle pool idx o : Nat), s.handleBad owner handle = none →
    handle / 2 ^ 29 % 8 = pool → handle / 2 ^ 8 % 2 ^ 21 = idx →
    ∃ t, exec (.give owner handle o) s = .next t ∧ t = { s with vat := t.vat } ∧
      t.vat.buf pool idx = { s.vat.buf pool idx with owner := o } ∧
      ∀ k, k ≠ bufKey pool idx → tfind t.vat.bufs k = tfind s.vat.bufs k) ∧
  (∀ (s : State) (owner handle : Nat), s.handleBad owner handle = some 2 →
    ∃ v, v.bufs = s.vat.bufs ∧ v.fifos = s.vat.fifos ∧ v.stale = satInc s.vat.stale ∧ v.lastKind = 2 ∧
      v.lastHandle = BitVec.ofNat 32 handle ∧ v.lastReq = BitVec.ofNat 7 owner ∧
      exec (.free owner handle) s = .next (if s.vat.rejected = true then { s with vat := v } else
        ({ s with vat := v }).ledEvent 0x6001 (leBytes 4 handle ++ leBytes 1 owner ++ leBytes 1 2)))

/-- 06 R167, R170, R171, R174, R480; 12 R370: IDENTIFY answers; GET_PARAM answers one entry for each ID. A SET_PARAM of one value:
refused for its entry, it answers the entry's status and index and writes nothing, as it does with 0x404 for a page that it would
assign outside its owner's class range (07 R196; log 74); where the set breaks a rule it answers 0x40A
with the blockers and writes nothing; as a check alone it writes nothing; a value that is neither the profile lock nor the hold-up
declaration nor a loop's FLAGS clear becomes the live value with the reply; the profile lock goes to boot control too; a quorum
above a deckle's unfenced lanes limits it (11 R331); a FLAGS clear names its bits to the loop and changes no live value. No other parameter's live value changes, and no other function. -/
def Obligations.ParamMessages : Prop :=
  (∀ (s : State) (src : Src) (r : Req), s.stands src r 0x0001 0 →
    ∃ t p, exec (.identify src) s = .next t ∧ State.answered s t src r 0 0 p ∧ s.othersKept t src ∧
      t = { s with freeCtr := t.freeCtr, out := t.out, fns := t.fns, adm := t.adm }) ∧
  (∀ (s : State) (src : Src) (r : Req) (n : Nat), s.stands src r 0x0002 4 → fieldLe r.payload 0 4 = n → inR 1 255 n = true →
    4 + 4 * n ≤ r.len →
    ∃ t, exec (.getParam src) s = .next t ∧
      State.answered s t src r 0 0 ((List.range n).flatMap (fun i => s.paramEntry src (fieldLe r.payload (4 + 4 * i) 4))) ∧
      s.othersKept t src ∧ t = { s with out := t.out, fns := t.fns, adm := t.adm }) ∧
  (∀ (s : State) (src : Src) (r : Req) (id v st d : Nat), s.stands src r 0x0003 20 → s.adm.devOp = none →
    fieldLe r.payload 0 4 = 1 → fieldLe r.payload 8 4 = id → fieldLe r.payload 12 8 = v →
    s.entryRefused src 8 id v = some (st, d) →
    ∃ t, exec (.setParam src) s = .next t ∧ State.answered s t src r st d (setReply 0 0) ∧ s.othersKept t src ∧
      t = { s with out := t.out, fns := t.fns, adm := t.adm }) ∧
  (∀ (s : State) (src : Src) (r : Req) (id v : Nat), s.stands src r 0x0003 20 → s.adm.devOp = none →
    fieldLe r.payload 0 4 = 1 → fieldLe r.payload 8 4 = id → fieldLe r.payload 12 8 = v →
    s.entryRefused src 8 id v = none → pageOutside (tset s.par.live id v) (8, id, v) = true →
    ∃ t, exec (.setParam src) s = .next t ∧ State.answered s t src r 0x404 0 (setReply 0 0) ∧ s.othersKept t src ∧
      t = { s with out := t.out, fns := t.fns, adm := t.adm }) ∧
  (∀ (s : State) (src : Src) (r : Req) (id v : Nat), s.stands src r 0x0003 20 → s.adm.devOp = none →
    fieldLe r.payload 0 4 = 1 → fieldLe r.payload 8 4 = id → fieldLe r.payload 12 8 = v →
    s.entryRefused src 8 id v = none → pageOutside (tset s.par.live id v) (8, id, v) = false →
    (rulesOk (s.ruleTbl (tset s.par.live id v)) s.homes = false ∨ s.blockers (tset s.par.live id v) ≠ 0) →
    ∃ t, exec (.setParam src) s = .next t ∧
      State.answered s t src r 0x40A 0 (setReply 0xFFFFFFFF (s.blockers (tset s.par.live id v))) ∧ s.othersKept t src ∧
      t = { s with out := t.out, fns := t.fns, adm := t.adm }) ∧
  (∀ (s : State) (src : Src) (r : Req) (id v : Nat), s.stands src r 0x0003 20 → s.adm.devOp = none →
    fieldLe r.payload 0 4 = 1 → bitN (fieldLe r.payload 4 4) 0 = true → fieldLe r.payload 8 4 = id → fieldLe r.payload 12 8 = v →
    s.entryRefused src 8 id v = none → pageOutside (tset s.par.live id v) (8, id, v) = false →
    rulesOk (s.ruleTbl (tset s.par.live id v)) s.homes = true →
    s.blockers (tset s.par.live id v) = 0 →
    ∃ t, exec (.setParam src) s = .next t ∧ State.answered s t src r 0 0 (setReply 0xFFFFFFFF 0) ∧ s.othersKept t src ∧
      t = { s with out := t.out, fns := t.fns, adm := t.adm }) ∧
  (∀ (s : State) (src : Src) (r : Req) (id v : Nat), s.stands src r 0x0003 20 → s.adm.devOp = none →
    fieldLe r.payload 0 4 = 1 → bitN (fieldLe r.payload 4 4) 0 = false → fieldLe r.payload 8 4 = id → fieldLe r.payload 12 8 = v →
    s.entryRefused src 8 id v = none → pageOutside (tset s.par.live id v) (8, id, v) = false →
    rulesOk (s.ruleTbl (tset s.par.live id v)) s.homes = true →
    s.blockers (tset s.par.live id v) = 0 → s.drainsFirst (tset s.par.live id v) = false → clrLoop id = none →
    id ≠ pProfileLock → id ≠ pPlp → id ≠ pHoldup → id ≠ pQuorum →
    ∃ t, exec (.setParam src) s = .next t ∧ t.pv id = v ∧ (∀ id', id' ≠ id → t.pv id' = s.pv id') ∧
      State.answered s t src r 0 0 (setReply 0xFFFFFFFF 0) ∧ s.othersKept t src ∧
      t = { s with par := { s.par with live := t.par.live, old := t.par.old }, cal := { s.cal with kept := t.cal.kept },
                   out := t.out, fns := t.fns, adm := t.adm }) ∧
  (∀ (s : State) (src : Src) (r : Req) (v : Nat), s.stands src r 0x0003 20 → s.adm.devOp = none →
    fieldLe r.payload 0 4 = 1 → bitN (fieldLe r.payload 4 4) 0 = false → fieldLe r.payload 8 4 = pProfileLock →
    fieldLe r.payload 12 8 = v → s.entryRefused src 8 pProfileLock v = none →
    rulesOk (s.ruleTbl (tset s.par.live pProfileLock v)) s.homes = true → s.blockers (tset s.par.live pProfileLock v) = 0 →
    s.drainsFirst (tset s.par.live pProfileLock v) = false → s.fst.bcOlderErased = true →
    ∃ t, exec (.setParam src) s = .next t ∧ t.pv pProfileLock = v ∧ t.par.lock = v ∧ t.fst.bcOlderErased = false ∧
      (∀ id', id' ≠ pProfileLock → t.pv id' = s.pv id') ∧ State.answered s t src r 0 0 (setReply 0xFFFFFFFF 0) ∧
      s.othersKept t src ∧
      t = { s with par := t.par, fst := t.fst, cal := { s.cal with kept := t.cal.kept }, out := t.out, fns := t.fns, adm := t.adm }) ∧
  (∀ (s : State) (src : Src) (r : Req) (id v n : Nat), s.stands src r 0x0003 20 → s.adm.devOp = none →
    fieldLe r.payload 0 4 = 1 → bitN (fieldLe r.payload 4 4) 0 = false → fieldLe r.payload 8 4 = id → fieldLe r.payload 12 8 = v →
    s.entryRefused src 8 id v = none → pageOutside (tset s.par.live id v) (8, id, v) = false →
    rulesOk (s.ruleTbl (tset s.par.live id v)) s.homes = true →
    s.blockers (tset s.par.live id v) = 0 → s.drainsFirst (tset s.par.live id v) = false → clrLoop id = some n →
    ∃ t, exec (.setParam src) s = .next t ∧ (t.loop n).clr = (s.loop n).clr ||| v ∧ t.par = s.par ∧
      State.answered s t src r 0 0 (setReply 0xFFFFFFFF 0) ∧ s.othersKept t src ∧
      t = { s with cal := t.cal, out := t.out, fns := t.fns, adm := t.adm }) ∧
  (∀ (s : State) (src : Src) (r : Req) (v : Nat), s.stands src r 0x0003 20 → s.adm.devOp = none →
    fieldLe r.payload 0 4 = 1 → bitN (fieldLe r.payload 4 4) 0 = false → fieldLe r.payload 8 4 = pQuorum →
    fieldLe r.payload 12 8 = v → s.entryRefused src 8 pQuorum v = none →
    rulesOk (s.ruleTbl (tset s.par.live pQuorum v)) s.homes = true → s.blockers (tset s.par.live pQuorum v) = 0 →
    s.drainsFirst (tset s.par.live pQuorum v) = false →
    ∃ t, exec (.setParam src) s = .next t ∧ t.pv pQuorum = v ∧ (∀ id', id' ≠ pQuorum → t.pv id' = s.pv id') ∧
      (∀ d, d < 3 → t.glb.cipher.getLsbD d = (s.glb.cipher.getLsbD d || decide (s.lanesUp d < v))) ∧
      t = { s with par := { s.par with live := t.par.live, old := t.par.old }, cal := { s.cal with kept := t.cal.kept }, glb := t.glb,
                   out := t.out, fns := t.fns, adm := t.adm, mode := t.mode })

/-- 06 R177; 03 R63, R67, R96, R97: CREATE_QUEUE makes the queue with its creation values; DELETE_QUEUE of a queue without
tags removes it; QUEUE_RESET of one gives it its creation values again; each answers with its payload, and no other queue and no
other function changes. -/
def Obligations.QueueMessages : Prop :=
  (∀ (s : State) (src : Src) (r : Req) (q : QReq), s.stands src r 0x0010 24 → s.qreqOf src r.payload = q →
    s.mayName src q.gfn = true → (s.fn q.gfn).vf ≠ .absent → (s.fn q.gfn).vf ≠ .bare → (s.fn q.gfn).flr = false →
    s.qreqBad q = none → s.q q.gfn q.qid = none → q.depth < q.entries → s.depthUsed q.gfn + q.depth ≤ s.pv (pQuota q.gfn) →
    ∃ t, exec (.createQueue src) s = .next t ∧ State.answered s t src r 0 0 (leBytes 2 q.qid) ∧
      t.q q.gfn q.qid = some { depth := q.depth, base := q.base, entries := q.entries, vector := q.vector, ccount := q.ccount, ctime := q.ctime, chken := q.chk, avail := q.depth } ∧
      (∀ g' qid', qkey g' qid' ≠ qkey q.gfn q.qid → t.q g' qid' = s.q g' qid') ∧ s.othersKept t src ∧
      t = { s with qs := t.qs, out := t.out, fns := t.fns, adm := t.adm }) ∧
  (∀ (s : State) (src : Src) (r : Req) (g qid : Nat) (q : Queue), s.stands src r 0x0011 4 →
    s.gfnArg src (fieldLe r.payload 2 2) = g → fieldLe r.payload 0 2 = qid → s.mayName src g = true → (s.fn g).vf ≠ .absent →
    (s.fn g).vf ≠ .bare → (s.fn g).flr = false → s.q g qid = some q → q.deleting = false → s.slotsOf g qid = [] →
    s.waiters (.deleteQueue g qid) = [] → s.waiters (.queueReset g qid) = [] → s.waiters (.queueResetMerged g qid) = [] →
    ∃ t, exec (.deleteQueue src) s = .next t ∧ State.answered s t src r 0 0 (leBytes 4 0) ∧ t.q g qid = none ∧
      (∀ g' qid', qkey g' qid' ≠ qkey g qid → t.q g' qid' = s.q g' qid') ∧ s.othersKept t src ∧
      t = { s with qs := t.qs, out := t.out, fns := t.fns, adm := t.adm }) ∧
  (∀ (s : State) (src : Src) (r : Req) (g qid : Nat) (q : Queue), s.stands src r 0x0012 4 →
    s.gfnArg src (fieldLe r.payload 2 2) = g → fieldLe r.payload 0 2 = qid → s.mayName src g = true → (s.fn g).vf ≠ .absent →
    (s.fn g).vf ≠ .bare → (s.fn g).flr = false → s.q g qid = some q → q.deleting = false → q.resetting = false →
    (s.fn g).abBusy = false → s.slotsOf g qid = [] → s.waiters (.queueReset g qid) = [] →
    s.waiters (.queueResetMerged g qid) = [] →
    ∃ t, exec (.queueReset src) s = .next t ∧ State.answered s t src r 0 0 (leBytes 4 0) ∧
      t.q g qid = some q.recreate ∧ (∀ g' qid', qkey g' qid' ≠ qkey g qid → t.q g' qid' = s.q g' qid') ∧ s.othersKept t src ∧
      t = { s with qs := t.qs, out := t.out, fns := t.fns, adm := t.adm })

/-- 05 R135, R136, R481; 06 R177, R178, R190: NS_CREATE makes the namespace, attached to the function, with its reams charged to
the home group's deckles, and inaccessible while a sanitize runs; NS_ATTACH attaches a function, and detaches one whose earlier
commands have completed; NS_FORMAT and NS_DELETE end at once when the earlier commands of the namespace have completed, with every
zone and bundle of the namespace gone. -/
def Obligations.NamespaceMessages : Prop :=
  (∀ (s : State) (src : Src) (r : Req) (n : NsReq), s.stands src r 0x0020 24 → s.nsReqOf src r.payload = n → nsReqBad n = none →
    s.pfOf n.gfn ≠ none → (s.fn n.gfn).vf ≠ .absent → s.nsRuleBroken n = false →
    n.capacity + s.nss.foldl (fun a p => a + nsCapacity p.2) 0 ≤ 2 ^ 40 → n.need ≤ s.groupUnreserved n.home →
    ∃ t x, exec (.nsCreate src) s = .next t ∧ State.answered s t src r 0 0 (leBytes 8 n.need) ∧ tfind t.nss n.nsid = some x ∧
      x.zoned = decide (n.typ = 0) ∧ x.size = n.blocks ∧ x.home = n.home ∧ x.kslot = n.kslot ∧ x.tagMode = n.tag ∧
      x.fns = [n.gfn] ∧ x.busy = (if s.adm.sanitize = 0 then 0 else 3) ∧
      x.charged = chargeLoop (s.inGroup n.home) n.need [s.unreserved 0, s.unreserved 1, s.unreserved 2] [0, 0, 0] ∧
      (∀ k, k ≠ n.nsid → tfind t.nss k = tfind s.nss k) ∧
      t = { s with nss := t.nss, media := t.media, fns := t.fns, out := t.out, adm := t.adm, freeCtr := t.freeCtr }) ∧
  (∀ (s : State) (src : Src) (r : Req) (nsid g : Nat) (n : Ns), s.stands src r 0x0023 7 → fieldLe r.payload 0 4 = nsid →
    s.gfnArg src (fieldLe r.payload 4 2) = g → byteAt r.payload 6 = 1 → tfind s.nss nsid = some n → n.busy = 0 →
    s.pfOf g ≠ none → (s.fn g).vf ≠ .absent → n.fns.contains g = false →
    ∃ t, exec (.nsAttachAttach src) s = .next t ∧ State.answered s t src r 0 0 (leBytes 4 (n.fns.length + 1)) ∧
      tfind t.nss nsid = some { n with fns := n.fns ++ [g] } ∧ (∀ k, k ≠ nsid → tfind t.nss k = tfind s.nss k) ∧
      s.othersKept t src ∧
      t = { s with nss := t.nss, media := { s.media with deckles := t.media.deckles }, fns := t.fns, out := t.out, adm := t.adm }) ∧
  (∀ (s : State) (src : Src) (r : Req) (nsid g : Nat) (n : Ns), s.stands src r 0x0023 7 → fieldLe r.payload 0 4 = nsid →
    s.gfnArg src (fieldLe r.payload 4 2) = g → byteAt r.payload 6 = 0 → tfind s.nss nsid = some n → n.busy = 0 →
    s.pfOf g ≠ none → (s.fn g).vf ≠ .absent → n.fns.contains g = true →
    (s.keepEarly nsid [g]).earlyDone nsid (some g) = true → s.waiters (.nsDetach nsid g) = [] →
    ∃ t, exec (.nsAttachDetach src) s = .next t ∧
      State.answered s t src r 0 0 (leBytes 4 (n.fns.filter (· ≠ g)).length) ∧
      tfind t.nss nsid = some { n with fns := n.fns.filter (· ≠ g) } ∧ (∀ k, k ≠ nsid → tfind t.nss k = tfind s.nss k) ∧
      t = { s with nss := t.nss, media := { s.media with deckles := t.media.deckles }, sub := t.sub, fns := t.fns, out := t.out,
                   adm := t.adm, freeCtr := t.freeCtr }) ∧
  (∀ (s : State) (src : Src) (r : Req) (nsid tag : Nat) (n : Ns), s.stands src r 0x0022 5 → fieldLe r.payload 0 4 = nsid →
    byteAt r.payload 4 = tag → tag ≤ 2 → tfind s.nss nsid = some n → n.busy = 0 →
    (s.keepEarly nsid n.fns).earlyDone nsid none = true → s.waiters (.nsFormat nsid tag) = [] →
    ∃ t x, exec (.nsFormat src) s = .next t ∧ State.answered s t src r 0 0 [] ∧ tfind t.nss nsid = some x ∧ x.tagMode = tag ∧
      x.busy = 0 ∧ x.fns = n.fns ∧ t.zonesOf nsid = [] ∧ (∀ p ∈ t.media.buns, p.1 / 2 ^ 40 ≠ nsid) ∧
      t = { s with nss := t.nss, zones := t.zones, media := t.media, hz := t.hz, links := t.links, fns := t.fns, out := t.out,
                   adm := t.adm, sub := t.sub, freeCtr := t.freeCtr }) ∧
  (∀ (s : State) (src : Src) (r : Req) (nsid : Nat) (n : Ns), s.stands src r 0x0021 4 → fieldLe r.payload 0 4 = nsid →
    tfind s.nss nsid = some n → n.busy = 0 → (s.keepEarly nsid n.fns).earlyDone nsid none = true →
    s.waiters (.nsDelete nsid) = [] →
    ∃ t, exec (.nsDelete src) s = .next t ∧ State.answered s t src r 0 0 [] ∧ tfind t.nss nsid = none ∧ t.zonesOf nsid = [] ∧
      (∀ p ∈ t.media.buns, p.1 / 2 ^ 40 ≠ nsid) ∧
      t = { s with nss := t.nss, zones := t.zones, media := t.media, hz := t.hz, links := t.links, fns := t.fns, out := t.out,
                   adm := t.adm, sub := t.sub, freeCtr := t.freeCtr })

/-- 11 R333–R336; 15 R413: KEY_LOAD that unwraps to two different key halves puts the key under the slot's next generation; where
the wrap does not hold it answers 0x408, and for equal halves 0x402, and loads nothing. A KEK install keeps the KEK, and an
all-zero KEK removes it. KEY_DESTROY of a loaded slot takes the key away from the slot and from every lane and keeps the
generation; of a slot without a key it only answers. No other slot's key changes, and no other KEK. -/
def Obligations.KeyMessages : Prop :=
  (∀ (s : State) (src : Src) (r : Req) (k : Nat) (kek : List Byte), s.stands src r 0x0030 80 → fieldLe r.payload 0 2 = k →
    k < 0x1000 → s.mayName src (s.gfnArg src (fieldLe r.payload 2 2)) = true →
    s.pageOwner (k / 16) = s.gfnArg src (fieldLe r.payload 2 2) → tfind s.cip.keks (byteAt r.payload 4) = some kek →
    (s.keySlot k).gen ≠ 0xFFFFFFFF#32 → s.fst.blobUsed + 2 ≤ 2048 →
    ∃ t, exec (.keyLoad src) s = .next t ∧ s.othersKept t src ∧
      t = { s with cip := { s.cip with keys := t.cip.keys }, fst := t.fst, fns := t.fns, out := t.out, adm := t.adm } ∧
      match Config.aesUnwrap kek (sliceB r.payload 8 72) with
      | none => State.answered s t src r 0x408 0 [] ∧ t.cip = s.cip ∧ t.fst = s.fst
      | some key =>
        if key.take 32 = (key.drop 32).take 32 then State.answered s t src r 0x402 8 [] ∧ t.cip = s.cip ∧ t.fst = s.fst
        else t.keySlot k = { loaded := true, gen := (s.keySlot k).gen + 1, key := key, destroyed := false } ∧
          State.answered s t src r 0 0 (leBytes 4 ((s.keySlot k).gen + 1).toNat) ∧ ∀ j, j ≠ k → t.keySlot j = s.keySlot j) ∧
  (∀ (s : State) (src : Src) (r : Req) (k : Nat), s.stands src r 0x0030 80 → fieldLe r.payload 0 2 = k → 0x8000 < k → k ≤ 0x800F →
    s.selfOf src = s.mgmtPf → byteAt r.payload 4 = 0 → (sliceB r.payload 40 40).any (fun b => decide (b ≠ 0)) = false →
    s.fst.blobUsed + 2 ≤ 2048 →
    ∃ t, exec (.kekInstall src) s = .next t ∧ State.answered s t src r 0 0 (leBytes 4 0) ∧
      tfind t.cip.keks (k - 0x8000) =
        (if (sliceB r.payload 8 32).all (fun b => decide (b = 0)) = true then none else some (sliceB r.payload 8 32)) ∧
      (∀ n, n ≠ k - 0x8000 → tfind t.cip.keks n = tfind s.cip.keks n) ∧ s.othersKept t src ∧
      t = { s with cip := { s.cip with keks := t.cip.keks }, fst := t.fst, fns := t.fns, out := t.out, adm := t.adm }) ∧
  (∀ (s : State) (src : Src) (r : Req) (k : Nat), s.stands src r 0x0031 4 → fieldLe r.payload 0 2 = k → k < 4096 →
    s.mayName src (s.gfnArg src (fieldLe r.payload 2 2)) = true → s.pageOwner (k / 16) = s.gfnArg src (fieldLe r.payload 2 2) →
    (s.keySlot k).loaded = true → s.fst.blobUsed + 2 ≤ 2048 →
    ∃ t, exec (.keyDestroy src) s = .next t ∧ (t.keySlot k).loaded = false ∧ (t.keySlot k).key = [] ∧
      (t.keySlot k).gen = (s.keySlot k).gen ∧ State.answered s t src r 0 0 (leBytes 4 (s.keySlot k).gen.toNat) ∧
      (∀ p ∈ t.cip.lanes, ∀ c ∈ p.2.cache, c.1 ≠ k) ∧ (∀ j, j ≠ k → t.keySlot j = s.keySlot j) ∧ s.othersKept t src ∧
      t = { s with cip := { s.cip with keys := t.cip.keys, lanes := t.cip.lanes }, fst := t.fst, fns := t.fns, out := t.out,
                   adm := t.adm }) ∧
  (∀ (s : State) (src : Src) (r : Req) (k : Nat), s.stands src r 0x0031 4 → fieldLe r.payload 0 2 = k → k < 4096 →
    s.mayName src (s.gfnArg src (fieldLe r.payload 2 2)) = true → s.pageOwner (k / 16) = s.gfnArg src (fieldLe r.payload 2 2) →
    (s.keySlot k).loaded = false →
    ∃ t, exec (.keyDestroy src) s = .next t ∧ State.answered s t src r 0 0 (leBytes 4 (s.keySlot k).gen.toNat) ∧
      s.othersKept t src ∧ t = { s with fns := t.fns, out := t.out, adm := t.adm })

/-- 06 R188; 12 R364, R367, R368; 14 R404; 16 R437, R438: POWER_STATE answers the state asked for: PS1 or another run state becomes
the run state, a dormant state begins its entry in SERVICE and LIMITED and is latched in QUIESCE, and the state that is, changes
nothing. LOOP_TARGET and LOOP_TUNE write their values and no other, and wait for the boundary at which they answer. LOOP_INJECT
keeps its signal for the slot's next boundary. LOOP_CAPTURE arms with an empty buffer, answers the samples asked for, and disarms.
HSE_SEARCH answers what matches and changes no entry. -/
def Obligations.LoopMessages : Prop :=
  (∀ (s : State) (src : Src) (r : Req) (ps : Nat), s.stands src r 0x0070 16 → byteAt r.payload 0 = ps → ps < 3 →
    fieldLe r.payload 4 4 ≤ 3600 → s.pstate ≠ ps →
    ∃ t, exec (.powerState src) s = .next t ∧ t.pwr.run1 = decide (ps = 1) ∧ State.answered s t src r 0 0 (leBytes 1 ps) ∧
      s.othersKept t src ∧
      t = { s with pwr := { s.pwr with run1 := t.pwr.run1, alarm := t.pwr.alarm, armed := t.pwr.armed }, out := t.out,
                   fns := t.fns, adm := t.adm }) ∧
  (∀ (s : State) (src : Src) (r : Req) (ps : Nat), s.stands src r 0x0070 16 → byteAt r.payload 0 = ps → 3 ≤ ps → ps ≤ 5 →
    fieldLe r.payload 4 4 ≤ 3600 → s.pstate ≠ ps → (s.modeOf = 1 ∨ s.modeOf = 2) →
    ∃ t, exec (.powerState src) s = .next t ∧ t.mode.dormant = true ∧ t.pwr.phase = 1 ∧ t.pwr.goal = BitVec.ofNat 3 ps ∧
      t.pwr.entryStep = 1 ∧ State.answered s t src r 0 0 (leBytes 1 ps) ∧
      t = { s with mode := t.mode, pwr := t.pwr, out := t.out, fns := t.fns, adm := t.adm }) ∧
  (∀ (s : State) (src : Src) (r : Req) (ps : Nat), s.stands src r 0x0070 16 → byteAt r.payload 0 = ps → 3 ≤ ps → ps ≤ 5 →
    fieldLe r.payload 4 4 ≤ 3600 → s.pstate ≠ ps → s.modeOf = 3 →
    ∃ t, exec (.powerState src) s = .next t ∧ t.mode = { s.mode with latchedPs := some ps } ∧
      State.answered s t src r 0 0 (leBytes 1 ps) ∧ s.othersKept t src ∧
      t = { s with mode := t.mode, pwr := t.pwr, out := t.out, fns := t.fns, adm := t.adm }) ∧
  (∀ (s : State) (src : Src) (r : Req) (ps : Nat), s.stands src r 0x0070 16 → byteAt r.payload 0 = ps → ps ≤ 5 →
    fieldLe r.payload 4 4 ≤ 3600 → s.pstate = ps →
    ∃ t, exec (.powerState src) s = .next t ∧ State.answered s t src r 0 0 (leBytes 1 ps) ∧ s.othersKept t src ∧
      t = { s with out := t.out, fns := t.fns, adm := t.adm }) ∧
  (∀ (s : State) (src : Src) (r : Req) (n : Nat), s.stands src r 0x0080 8 → byteAt r.payload 0 = n → n < 32 →
    ∃ t, exec (.loopTarget src) s = .next t ∧ t.pv (pLoop n 3) = fieldLe r.payload 4 4 ∧
      (∀ id, id ≠ pLoop n 3 → t.pv id = s.pv id) ∧ t.waitOf src = some (.loopBoundary n) ∧ s.othersKept t src ∧
      t = { s with par := t.par, fns := t.fns, adm := t.adm }) ∧
  (∀ (s : State) (src : Src) (r : Req) (n : Nat), s.stands src r 0x0081 32 → byteAt r.payload 0 = n → n < 32 →
    (∃ i, i < 4 ∧ fieldLe r.payload (4 + 4 * i) 4 ≠ 0) →
    ∃ t, exec (.loopTune src) s = .next t ∧ (∀ i, i < 7 → t.pv (pLoop n (0x20 + i)) = fieldLe r.payload (4 + 4 * i) 4) ∧
      (∀ id, (∀ i, i < 7 → id ≠ pLoop n (0x20 + i)) → t.pv id = s.pv id) ∧
      t.waitOf src = some (.loopBoundary (n + 32)) ∧ s.othersKept t src ∧ t = { s with par := t.par, fns := t.fns, adm := t.adm }) ∧
  (∀ (s : State) (src : Src) (r : Req), s.stands src r 0x0082 16 → injBad r.payload = none →
    ∃ t i, exec (.loopInject src) s = .next t ∧ t.loop (byteAt r.payload 0) = { s.loop (byteAt r.payload 0) with injPend := some i } ∧
      i = { point := byteAt r.payload 1, signal := byteAt r.payload 2, amp := sx32 (fieldLe r.payload 4 4),
            p1 := fieldLe r.payload 8 4, p2 := fieldLe r.payload 12 4 } ∧
      State.answered s t src r 0 0 [] ∧ s.othersKept t src ∧ t = { s with cal := t.cal, out := t.out, fns := t.fns, adm := t.adm }) ∧
  (∀ (s : State) (src : Src) (r : Req), s.stands src r 0x0083 12 → byteAt r.payload 0 = 1 → fieldLe r.payload 8 4 % 4 ≠ 3 →
    ∃ t, exec (.loopCaptureArm src) s = .next t ∧ t.cal.cap.armed = true ∧ t.cal.cap.buf = [] ∧ t.cal.cap.done = false ∧
      t.cal.cap.mode = fieldLe r.payload 8 4 % 4 ∧ t.cal.cap.sel = [4, 5, 6, 7].map (byteAt r.payload) ∧
      State.answered s t src r 0 0 [] ∧ s.othersKept t src ∧
      t = { s with cal := { s.cal with cap := t.cal.cap }, out := t.out, fns := t.fns, adm := t.adm }) ∧
  (∀ (s : State) (src : Src) (r : Req), s.stands src r 0x0083 12 → byteAt r.payload 0 = 2 →
    inR 1 254 (fieldLe r.payload 8 4) = true →
    ∃ t, exec (.loopCaptureRead src) s = .next t ∧ State.answered s t src r 0 0 (leBytes 4 s.cal.cap.buf.length
        ++ ((s.cal.cap.buf.drop (fieldLe r.payload 4 4)).take (fieldLe r.payload 8 4)).flatMap
          (fun row => row.flatMap (fun v => leBytes 4 (word32 v).toNat))) ∧
      s.othersKept t src ∧ t = { s with out := t.out, fns := t.fns, adm := t.adm }) ∧
  (∀ (s : State) (src : Src) (r : Req), s.stands src r 0x0083 1 → byteAt r.payload 0 = 0 →
    ∃ t, exec (.loopCaptureDisarm src) s = .next t ∧ t.cal.cap = { s.cal.cap with armed := false } ∧
      State.answered s t src r 0 0 [] ∧ s.othersKept t src ∧
      t = { s with cal := { s.cal with cap := t.cal.cap }, out := t.out, fns := t.fns, adm := t.adm }) ∧
  (∀ (s : State) (src : Src) (r : Req) (w : Nat) (x : HzResult), s.stands src r 0x00C0 36 → byteAt r.payload 2 = w →
    (w = 1 ∨ w = 2 ∨ w = 4) → fieldLe r.payload 0 2 ≠ 0 →
    (List.range 16).any (fun b => bitN (fieldLe r.payload 0 2) b && decide (hzWidth s.hz b ≠ w)) = false →
    hzResult (hzSearch s.hz (hseKey r.payload w) (fieldLe r.payload 0 2) none) = x →
    ∃ t, exec (.hseSearch src) s = .next t ∧
      t.hz = { s.hz with searches := s.hz.searches + 1, kcnt := BitVec.ofNat 17 x.count } ∧
      State.answered s t src r 0 0 (leBytes 2 x.index ++ leBytes 1 (b2n x.isMatch + 2 * b2n x.multi) ++ zeros 1 ++ leBytes 4 x.count) ∧
      s.othersKept t src ∧ t = { s with hz := t.hz, out := t.out, fns := t.fns, adm := t.adm })

/-- 06 R184–R187; 15 R430–R434: LOG_READ of a function's asynchronous log or outcome logs answers entries and consumes them where
asked; LEDGER_READ answers committed slots; a freeze, and one again, answers the number of records staged; the end of a freeze, by
LEDGER_UNFREEZE or by its expiry, empties the freeze stage and takes FROZEN and the FREEZE cell away, and an unfreeze while not
frozen answers 0 and changes nothing; a new nonce answers and is kept; a clear uses the nonce up: refused without the owner's
signature, refused with 0x405 while frozen, and else, with nothing staged, it leaves its own record and the seal's two slots alone in
the ring; the nonce's expiry takes it away; ATTEST_QUOTE answers a signed quote. -/
def Obligations.LogMessages : Prop :=
  (∀ (s : State) (src : Src) (r : Req) (g n : Nat), s.stands src r 0x0060 12 → byteAt r.payload 0 = 3 →
    s.gfnArg src (fieldLe r.payload 2 2) = g → s.logAllowed src (s.logReqOf src r.payload) = true →
    logTake (s.fn g).alog.length (fieldLe r.payload 4 4) (fieldLe r.payload 8 4) 32 = n →
    ∃ t, exec (.logRead src) s = .next t ∧
      State.answered s t src r 0 0 (logReply (s.fn g).alog.length n
        ((((s.fn g).alog.drop (fieldLe r.payload 4 4)).take n).flatMap AsyncEntry.bytes)) ∧
      (t.fn g).alog = (if bitN (byteAt r.payload 1) 0 = true then dropMid (s.fn g).alog (fieldLe r.payload 4 4) n
        else (s.fn g).alog) ∧
      t = { s with out := t.out, fns := t.fns, adm := t.adm }) ∧
  (∀ (s : State) (src : Src) (r : Req) (g n : Nat) (l : List OutEntry), s.stands src r 0x0060 12 →
    s.gfnArg src (fieldLe r.payload 2 2) = g → s.logAllowed src (s.logReqOf src r.payload) = true →
    (byteAt r.payload 0 = 4 ∧ l = (s.fn g).log4 ∨ byteAt r.payload 0 = 5 ∧ l = (s.fn g).log5 ∨
      byteAt r.payload 0 = 6 ∧ g = s.selfOf src ∧ l = (s.fn g).log6) →
    logTake l.length (fieldLe r.payload 4 4) (fieldLe r.payload 8 4) 32 = n →
    ∃ t m, exec (.logRead src) s = .next t ∧
      State.answered s t src r 0 0 (logReply l.length n (((l.drop (fieldLe r.payload 4 4)).take n).flatMap OutEntry.bytes)) ∧
      m = (if bitN (byteAt r.payload 1) 0 = true then dropMid l (fieldLe r.payload 4 4) n else l) ∧
      (t.fn g).log4 = (if byteAt r.payload 0 = 4 then m else (s.fn g).log4) ∧
      (t.fn g).log5 = (if byteAt r.payload 0 = 5 then m else (s.fn g).log5) ∧
      (t.fn g).log6 = (if byteAt r.payload 0 = 6 then m else (s.fn g).log6) ∧
      t = { s with out := t.out, fns := t.fns, adm := t.adm }) ∧
  (∀ (s : State) (src : Src) (r : Req), s.stands src r 0x0061 8 → inR 1 63 (fieldLe r.payload 4 4) = true →
    ∃ t, exec (.ledgerRead src) s = .next t ∧
      State.answered s t src r 0 0 (leBytes 4 s.led.slots.length
        ++ leBytes 4 ((s.led.slots.reverse.drop (fieldLe r.payload 0 4)).take (fieldLe r.payload 4 4)).length
        ++ ((s.led.slots.reverse.drop (fieldLe r.payload 0 4)).take (fieldLe r.payload 4 4)).flatten) ∧
      s.othersKept t src ∧ t = { s with out := t.out, fns := t.fns, adm := t.adm }) ∧
  (∀ (s : State) (src : Src) (r : Req), s.stands src r 0x0062 1 → byteAt r.payload 0 = 1 →
    ∃ t, exec (.ledgerFreeze src) s = .next t ∧ t.led = { s.led with frozen := true } ∧
      t.fst = (if s.led.frozen = true then s.fst else { s.fst with freezeCell := true }) ∧
      State.answered s t src r 0 0 (leBytes 4 s.led.fstage.length) ∧ s.othersKept t src ∧
      t = { s with led := t.led, fst := t.fst, out := t.out, fns := t.fns, adm := t.adm }) ∧
  (∀ s : State, s.led.frozen = true →
    ∃ t, exec .ledgerFreezeExpiry s = .next t ∧ t.led.frozen = false ∧ t.led.fstage = [] ∧ t.fst.freezeCell = false ∧
      t = { s with led := t.led, fst := t.fst, glb := t.glb, fns := t.fns, out := t.out, freeCtr := t.freeCtr }) ∧
  (∀ (s : State) (src : Src) (r : Req), s.stands src r 0x0062 1 → byteAt r.payload 0 = 0 → s.led.frozen = true →
    ∃ t, exec (.ledgerUnfreeze src) s = .next t ∧ t.led.frozen = false ∧ t.led.fstage = [] ∧ t.fst.freezeCell = false ∧
      State.answered s t src r 0 0 (leBytes 4 s.led.fstage.length) ∧
      t = { s with led := t.led, fst := t.fst, glb := t.glb, fns := t.fns, out := t.out, adm := t.adm, freeCtr := t.freeCtr }) ∧
  (∀ (s : State) (src : Src) (r : Req), s.stands src r 0x0062 1 → byteAt r.payload 0 = 0 → s.led.frozen = false →
    ∃ t, exec (.ledgerUnfreeze src) s = .next t ∧ State.answered s t src r 0 0 (leBytes 4 0) ∧ s.othersKept t src ∧
      t = { s with out := t.out, fns := t.fns, adm := t.adm }) ∧
  (∀ (s : State) (src : Src) (r : Req) (nonce : List Byte), s.stands src r 0x0063 1 → byteAt r.payload 0 = 0 → s.devBusy = none →
    ∃ t, exec (.ledgerClearNonce src nonce) s = .next t ∧ t.led = { s.led with nonce := some (padTo 48 nonce) } ∧
      State.answered s t src r 0 0 (padTo 48 nonce) ∧ s.othersKept t src ∧
      t = { s with led := t.led, out := t.out, fns := t.fns, adm := t.adm }) ∧
  (∀ (s : State) (src : Src) (r : Req), s.stands src r 0x0063 148 → byteAt r.payload 0 = 1 → s.devBusy = none →
    (s.clearAllowed (sliceB r.payload 4 48) (sliceB r.payload 52 96) = false ∨ s.led.frozen = true) →
    ∃ t, exec (.ledgerClear src) s = .next t ∧ t.led = { s.led with nonce := none } ∧
      (if s.clearAllowed (sliceB r.payload 4 48) (sliceB r.payload 52 96) = true then State.answered s t src r 0x405 0x0062 []
        else State.answered s t src r 0x408 0 []) ∧
      s.othersKept t src ∧ t = { s with led := t.led, out := t.out, fns := t.fns, adm := t.adm }) ∧
  (∀ (s : State) (src : Src) (r : Req), s.stands src r 0x0063 148 → byteAt r.payload 0 = 1 → s.devBusy = none →
    s.led.frozen = false → s.led.prog = none → s.led.stage = [] →
    s.clearAllowed (sliceB r.payload 4 48) (sliceB r.payload 52 96) = true →
    ∃ t, exec (.ledgerClear src) s = .next t ∧ t.led.nonce = none ∧ t.led.slots.length = 3 ∧ t.led.full = false ∧
      t.led.seq = s.led.nextSeq ∧ t.glb = { s.glb with ledger := s.led.fail } ∧
      State.answered s t src r 0 0 (leBytes 4 s.led.slots.length) ∧
      t = { s with led := t.led, glb := t.glb, out := t.out, fns := t.fns, adm := t.adm }) ∧
  (∀ s : State, exec .nonceExpiry s = .next { s with led := { s.led with nonce := none } }) ∧
  (∀ (s : State) (src : Src) (r : Req) (m : Nat), s.stands src r 0x0064 36 → fieldLe r.payload 32 4 = m → bitN m 0 = false →
    m < 2 ^ 9 →
    ∃ t, exec (.attestQuote src) s = .next t ∧
      State.answered s t src r 0 0 (leBytes 4 (s.quote (sliceB r.payload 0 32) m).length ++ s.quote (sliceB r.payload 0 32) m
        ++ padTo 96 (Config.deviceSign (s.quote (sliceB r.payload 0 32) m))) ∧
      s.othersKept t src ∧ t = { s with out := t.out, fns := t.fns, adm := t.adm })

/-- 06 R180–R183; 08 R230, R231; 15 R415, R425: chunk 0 of a download, and a later chunk in its turn, is stored and acknowledged with
NEXT and STORED; the idle timeout releases the conversation. FW_COMMIT prefers a sound image, with its SVN and REVISION in the reply,
and in RESCUE a controller reset follows; an unsound image is refused with 0x40E for its SVN and else with 0x409, and nothing is
committed. FW_ACTIVATE of a committed sound image holds the block, and of an unsound one it is refused; after the drain the new
image runs and the reply carries its REVISION; a drain that takes too long ends the hold with 0x409 (both with no power request
latched). -/
def Obligations.FirmwareMessages : Prop :=
  (∀ (s : State) (src : Src) (r : Req) (slot total n : Nat), s.stands src r 0x0040 16 → fieldLe r.payload 0 4 = 0 →
    byteAt r.payload 4 = slot → slot ≤ 1 → fieldLe r.payload 8 4 = total → inR 1 33554432 total = true → s.devBusy = none →
    (s.fst.slot = slot → s.modeOf = 4) → min 4064 total = n → r.len = 16 + n → s.sectorReady (slot * 512) = true →
    ∃ t, exec (.fwDownload src true) s = .next t ∧ State.answered s t src r 0 0 (leBytes 4 1 ++ leBytes 4 n) ∧
      (t.img slot).bytes = padTo n (sliceB r.payload 16 n) ∧ (t.img slot).total = total ∧ (t.img slot).committed = false ∧
      t.adm.dlActive = decide (n < total) ∧ t.sectorReady (slot * 512) = false ∧ t.img (1 - slot) = s.img (1 - slot) ∧
      t = { s with fst := t.fst, adm := t.adm, out := t.out, fns := t.fns }) ∧
  (∀ (s : State) (src : Src) (r : Req) (slot total k n : Nat), s.stands src r 0x0040 16 → fieldLe r.payload 0 4 = k → k ≠ 0 →
    byteAt r.payload 4 = slot → slot ≤ 1 → fieldLe r.payload 8 4 = total → inR 1 33554432 total = true →
    s.adm.dlActive = true → s.adm.dlSrc = src → s.adm.devOp = none → s.adm.dlNext = k → s.adm.dlSlot = slot →
    s.adm.dlTotal = total → min 4064 (total - k * 4064) = n → r.len = 16 + n →
    (∀ j ∈ newSectors slot (k * 4064) n, s.sectorReady j = true) →
    ∃ t, exec (.fwDownload src true) s = .next t ∧
      State.answered s t src r 0 0 (leBytes 4 (k + 1) ++ leBytes 4 (k * 4064 + n)) ∧
      (t.img slot).bytes = (s.img slot).bytes.take (k * 4064) ++ padTo n (sliceB r.payload 16 n) ∧
      t.adm.dlActive = decide (k * 4064 + n < total) ∧ t = { s with fst := t.fst, adm := t.adm, out := t.out, fns := t.fns }) ∧
  (∀ s : State, s.adm.dlActive = true →
    ∃ t, exec .dlIdleTimeout s = .next t ∧ t.adm = { s.adm with dlActive := false, dlNext := 0 } ∧
      t = { s with adm := t.adm, led := t.led, glb := t.glb, fns := t.fns, out := t.out, freeCtr := t.freeCtr }) ∧
  (∀ (s : State) (src : Src) (r : Req) (slot : Nat), s.stands src r 0x0041 1 → byteAt r.payload 0 = slot → slot ≤ 1 →
    s.devBusy = none → s.glb.ledger = false → (s.img slot).complete = true →
    imgCheck s.fst.fuses slot (s.img slot).bytes = 0 → s.fst.bcOlderErased = true → s.modeOf ≠ 4 →
    ∃ t, exec (.fwCommit src) s = .next t ∧ t.fst.slot = s.fst.slot ∧ t.fst.pref = slot ∧
      t.img slot = { s.img slot with committed := true, attempts := 0 } ∧ t.img (1 - slot) = s.img (1 - slot) ∧
      State.answered s t src r 0 0 (leBytes 8 (imgSvn (s.img slot).bytes) ++ imgRev (s.img slot).bytes) ∧
      t = { s with fst := t.fst, led := t.led, glb := t.glb, adm := t.adm, fns := t.fns, out := t.out, freeCtr := t.freeCtr }) ∧
  (∀ (s : State) (src : Src) (r : Req) (slot : Nat), s.stands src r 0x0041 1 → byteAt r.payload 0 = slot → slot ≤ 1 →
    s.devBusy = none → s.glb.ledger = false → (s.img slot).complete = true →
    imgCheck s.fst.fuses slot (s.img slot).bytes = 0 → s.fst.bcOlderErased = true → s.modeOf = 4 →
    ∃ t, exec (.fwCommit src) s = .next t ∧ t.fst.pref = slot ∧
      t.img slot = { s.img slot with committed := true, attempts := 0 } ∧ t.mode.booting = true ∧ t.mode.resetting = true ∧
      t.pwr.kind = 2 ∧ t.qs = s.qs) ∧
  (∀ (s : State) (src : Src) (r : Req) (slot reason : Nat), s.stands src r 0x0041 1 → byteAt r.payload 0 = slot → slot ≤ 1 →
    s.devBusy = none → s.glb.ledger = false → (s.img slot).complete = true →
    imgCheck s.fst.fuses slot (s.img slot).bytes = reason → reason ≠ 0 →
    ∃ t d, exec (.fwCommit src) s = .next t ∧ State.answered s t src r (if reason = 3 then 0x40E else 0x409) d [] ∧
      (reason = 1 → d = 1) ∧ t = { s with adm := t.adm, fns := t.fns, out := t.out, freeCtr := t.freeCtr }) ∧
  (∀ (s : State) (src : Src) (r : Req) (slot : Nat), s.stands src r 0x0042 1 → byteAt r.payload 0 = slot → slot ≤ 1 →
    s.devBusy = none → s.glb.ledger = false → (s.img slot).committed = true →
    ∃ t, exec (.fwActivate src) s = .next t ∧
      if imgCheck s.fst.fuses slot (s.img slot).bytes = 0 then
        t.mode.hold = 1 ∧ t.mode.drained = false ∧ t.adm.devOp = some 0x42 ∧ t.adm.devArg = slot ∧
        t.waitOf src = some (.fwActivate slot) ∧ t = { s with mode := t.mode, adm := t.adm, fns := t.fns, out := t.out }
      else (∃ d, State.answered s t src r 0x409 d []) ∧
        t = { s with adm := t.adm, fns := t.fns, out := t.out, freeCtr := t.freeCtr } ∧ t.adm.devOp = s.adm.devOp) ∧
  (∀ (s : State) (src : Src) (r : Req), s.mode.hold = 1 → s.mode.drained = true → s.mode.latchedPs = none →
    s.waiters (.fwActivate s.adm.devArg) = [src] → s.reqOf src = some r →
    ∃ t, exec .fwActivateReady s = .next t ∧ t.fst = { s.fst with slot := s.adm.devArg, running := (s.img s.adm.devArg).bytes } ∧
      t.mode.hold = 0 ∧ t.adm.devOp = none ∧ State.answered s t src r 0 0 (imgRev (s.img s.adm.devArg).bytes) ∧
      t = { s with fst := t.fst, adm := t.adm, led := t.led, glb := t.glb, mode := t.mode, cal := t.cal, fns := t.fns, out := t.out,
                   freeCtr := t.freeCtr }) ∧
  (∀ (s : State) (src : Src) (r : Req), s.mode.hold = 1 → s.mode.latchedPs = none →
    s.waiters (.fwActivate s.adm.devArg) = [src] → s.reqOf src = some r →
    ∃ t, exec .fwActivateTimeout s = .next t ∧ t.mode.hold = 0 ∧ t.adm.devOp = none ∧
      State.answered s t src r 0x409 3 [] ∧
      t = { s with adm := t.adm, led := t.led, glb := t.glb, mode := t.mode, cal := t.cal, fns := t.fns, out := t.out,
                   freeCtr := t.freeCtr })

/-- 06 R174–R176; 08 R231; 09 R260: PROFILE_SELECT of a valid profile that passes the rules starts its
hold, and where the profile lowers the hold-up the staging cap falls with it; when the dispatched commands have drained, and staging
with them where the new declaration needs that, a profile switch puts the profile's P-class values in force, ends its hold (with
no power request latched) and answers DEFERRED; where staging has not drained its drain starts and the hold stands; and an
activation's hold is marked as drained. PROFILE_SAVE writes the live
P-class values over the older copy under the next generation; a save that fails answers 0x40F and leaves that copy invalid. A
drain of staging ends with the new declaration in force and answered, or completes the profile switch whose hold stands. -/
def Obligations.ProfileMessages : Prop :=
  (∀ (s : State) (src : Src) (r : Req) (p : Nat) (c : ProfCopy), s.stands src r 0x0050 1 → byteAt r.payload 0 = p → p ≤ 3 →
    s.devBusy = none → s.glb.ledger = false → s.profCopy p = some c → (s.par.lock ≤ 3 → s.par.lock = p) →
    rulesOk (s.ruleTbl (underProfile s.par.live c.values)) s.homes = true → s.blockers (underProfile s.par.live c.values) = 0 →
    ∃ t, exec (.profileSelect src) s = .next t ∧ t.mode.hold = 2 ∧ t.adm.devOp = some 0x50 ∧ t.adm.devArg = p ∧
      t.waitOf src = some (.profileSelect p) ∧
      t.media = (if s.drainsFirst (underProfile s.par.live c.values) = true ∧ pval (underProfile s.par.live c.values) pPlp = 1
        then (s.startDrain (underProfile s.par.live c.values)).media else s.media) ∧
      t = { s with mode := t.mode, adm := t.adm, fns := t.fns, out := t.out, media := t.media }) ∧
  (∀ (s : State) (p : Nat) (c : ProfCopy), s.mode.hold = 2 → s.mode.drained = false → s.ioDrained = true → s.adm.devArg = p →
    s.profCopy p = some c → s.mode.latchedPs = none →
    (s.drainsFirst (underProfile s.par.live c.values) = true → s.drainedFor (underProfile s.par.live c.values) = true) →
    ∃ t, exec .holdDrainDone s = .next t ∧ t.par = { s.par with live := underProfile s.par.live c.values, old := t.par.old, loaded := p } ∧
      t.mode.hold = 0 ∧ t.adm.devOp = none ∧
      (∀ src r, s.waiters (.profileSelect p) = [src] → s.reqOf src = some r →
        State.answered s t src r 0 0 (leBytes 4 (s.deferred (underProfile s.par.live c.values)))) ∧
      t = { s with par := t.par, media := t.media, cal := t.cal, led := t.led, glb := t.glb, adm := t.adm, mode := t.mode,
                   fns := t.fns, out := t.out, freeCtr := t.freeCtr }) ∧
  (∀ (s : State) (p : Nat) (c : ProfCopy), s.mode.hold = 2 → s.mode.drained = false → s.ioDrained = true → s.adm.devArg = p →
    s.profCopy p = some c → s.drainsFirst (underProfile s.par.live c.values) = true →
    s.drainedFor (underProfile s.par.live c.values) = false → s.media.drainTo = none →
    ∃ t, exec .holdDrainDone s = .next t ∧ t.mode = { s.mode with drained := true } ∧
      t.media = (s.startDrain (underProfile s.par.live c.values)).media ∧ t = { s with mode := t.mode, media := t.media }) ∧
  (∀ s : State, s.mode.hold = 1 → s.mode.drained = false → s.ioDrained = true →
    exec .holdDrainDone s = .next { s with mode := { s.mode with drained := true } }) ∧
  (∀ (s : State) (src : Src) (r : Req) (p o : Nat) (a b : ProfCopy) (ok : Bool), s.stands src r 0x0051 1 →
    byteAt r.payload 0 = p → p ≤ 3 → s.devBusy = none → s.glb.ledger = false → rulesOk (s.ruleTbl s.par.live) s.homes = true →
    tget s.par.profiles (2 * p) {} = a → tget s.par.profiles (2 * p + 1) {} = b →
    (o = 0 ∧ (a.valid = false ∨ b.valid = true ∧ a.gen ≤ b.gen) ∨
      o = 1 ∧ a.valid = true ∧ (b.valid = false ∨ b.gen < a.gen)) →
    ∃ t, exec (.profileSave src ok) s = .next t ∧ t.par = { s.par with profiles := t.par.profiles } ∧
      tget t.par.profiles (2 * p + (1 - o)) {} = tget s.par.profiles (2 * p + (1 - o)) {} ∧
      (if ok = true then State.answered s t src r 0 0 [] ∧
        t.profCopy p = some (tget t.par.profiles (2 * p + o) {}) ∧
        (tget t.par.profiles (2 * p + o) {}).valid = true ∧ (tget t.par.profiles (2 * p + o) {}).values = pVals s.par.live ∧
        (tget t.par.profiles (2 * p + o) {}).gen = max (if a.valid then a.gen else 0) (if b.valid then b.gen else 0) + 1
      else State.answered s t src r 0x40F 0 [] ∧ (tget t.par.profiles (2 * p + o) {}).valid = false) ∧
      t = { s with par := t.par, led := t.led, glb := t.glb, adm := t.adm, fns := t.fns, out := t.out, freeCtr := t.freeCtr }) ∧
  (∀ (s : State) (g : Nat) (r : Req) (vs : List (Nat × Nat)),
    (∀ p ∈ s.fns, p.2.wait = none ∨ p.2.wait = some (.stagingDrain vs)) → s.adm.oobWait = none →
    s.waiters (.stagingDrain vs) = [some g] → s.reqOf (some g) = some r →
    (∃ p ∈ vs, p.1 = pPlp ∨ p.1 = pHoldup) → (∀ p ∈ vs, clrLoop p.1 = none ∧ p.1 ≠ pProfileLock) →
    s.drainedFor (applyVals s.par.live vs) = true →
    ∃ t, exec .stagingDrainDone s = .next t ∧ t.par = { s.par with live := applyVals s.par.live vs, old := t.par.old } ∧
      t.media.plp = decide (t.pv pPlp = 1) ∧ t.media.holdup = t.pv pHoldup ∧ t.media.draining = false ∧
      State.answered s t (some g) r 0 0 (setReply 0xFFFFFFFF 0) ∧
      t = { s with par := t.par, media := t.media, cal := t.cal, led := t.led, glb := t.glb, fns := t.fns, out := t.out,
                   freeCtr := t.freeCtr }) ∧
  (∀ (s : State) (c : ProfCopy), (∀ p ∈ s.fns, ∀ vs, p.2.wait ≠ some (.stagingDrain vs)) →
    (∀ vs, s.adm.oobWait ≠ some (.stagingDrain vs)) → s.adm.devOp = some 0x50 → s.profCopy s.adm.devArg = some c →
    s.mode.hold = 2 → s.mode.drained = true → s.mode.latchedPs = none →
    s.drainedFor (underProfile s.par.live c.values) = true →
    ∃ t, exec .stagingDrainDone s = .next t ∧
      t.par = { s.par with live := underProfile s.par.live c.values, old := t.par.old, loaded := s.adm.devArg } ∧
      t.mode.hold = 0 ∧ t.adm.devOp = none ∧ t.media.draining = false ∧ t.media.drainTo = none ∧
      t = { s with par := t.par, media := t.media, cal := t.cal, led := t.led, glb := t.glb, adm := t.adm, mode := t.mode,
                   fns := t.fns, out := t.out, freeCtr := t.freeCtr })

/-- 07 R197, R200, R205–R208, R213, R219: a BARE VF becomes ACTIVE; a quiesced VF without tags is released to BARE, without queues,
dirty log or namespaces, its settings at their defaults. FUNCTION_QUIESCE leaves the VF quiesced: without tags it answers the
count, with tags it waits and answers the count when they are gone, or 0x406 with the count at the timeout, and where an FLR came
after its cut it waits for that. FUNCTION_RESUME answers the count and makes the VF ACTIVE again. The queue states of a quiesced VF
without tags can be read, and one can be written where its entry is sound, and not where it is not. -/
def Obligations.FunctionMessages : Prop :=
  (∀ (s : State) (src : Src) (r : Req) (g : Nat), s.stands src r 0x0090 3 → byteAt r.payload 2 = 1 → s.vfArg src r = g →
    s.ownVf src g = true → (s.fn g).vf = .bare → (s.fn g).flr = false →
    ∃ t, exec (.vfEnableProvision src) s = .next t ∧ t.fn g = { s.fn g with vf := .active } ∧ State.answered s t src r 0 0 [] ∧
      (∀ h, h ≠ g → src ≠ some h → t.fn h = s.fn h) ∧ t = { s with fns := t.fns, out := t.out, adm := t.adm }) ∧
  (∀ (s : State) (src : Src) (r : Req) (g : Nat), s.stands src r 0x0090 3 → byteAt r.payload 2 = 0 → s.vfArg src r = g →
    s.ownVf src g = true → (s.fn g).vf = .quiesced → (s.fn g).flr = false → s.slotsOfFn g = [] →
    (∀ x ∈ s.fns, src = some x.1 → x.2.wait = none) →
    ∃ t, exec (.vfEnableRelease src) s = .next t ∧ (t.fn g).vf = .bare ∧ (t.fn g).dirty = none ∧
      (∀ qid, qid < 4096 → t.q g qid = none) ∧ (∀ k n, tfind t.nss k = some n → n.fns.contains g = false) ∧
      t.par = { s.par with live := settingsOut s.par.live g } ∧ State.answered s t src r 0 0 [] ∧
      t = { s with qs := t.qs, nss := t.nss, media := { s.media with deckles := t.media.deckles }, par := t.par, fns := t.fns,
                   out := t.out, adm := t.adm, freeCtr := t.freeCtr }) ∧
  (∀ (s : State) (src : Src) (r : Req) (g : Nat) (f : Fn), s.stands src r 0x0091 3 → byteAt r.payload 2 = 1 → s.vfArg src r = g →
    s.ownVf src g = true → (s.fn g).vf = .active ∨ (s.fn g).vf = .quiesced → (s.fn g).flr = false →
    (if (s.fn g).vf = .active then { s.fn g with vf := .quiesced, quCount := 0 } else s.fn g) = f →
    ∃ t, exec (.functionQuiesce src) s = .next t ∧ t.fn g = f ∧
      (if s.slotsOfFn g = [] then State.answered s t src r 0 0 (leBytes 4 f.quCount) else t.waitOf src = some (.quiesce g)) ∧
      (∀ h, h ≠ g → src ≠ some h → t.fn h = s.fn h) ∧ t = { s with fns := t.fns, out := t.out, adm := t.adm }) ∧
  (∀ (s : State) (src : Src) (r : Req) (g : Nat), s.stands src r 0x0091 3 → byteAt r.payload 2 = 1 → s.vfArg src r = g →
    s.cutBefore src g = true →
    ∃ t, exec (.functionQuiesce src) s = .next t ∧ t.waitOf src = some (.quiesce g) ∧ s.othersKept t src ∧
      t = { s with fns := t.fns, adm := t.adm }) ∧
  (∀ (s : State) (src : Src) (r : Req) (g : Nat), s.slotsOfFn g = [] → (s.fn g).flr = false → s.waiters (.quiesce g) = [src] →
    s.reqOf src = some r →
    ∃ t, exec (.quiesceDrainDone g) s = .next t ∧ State.answered s t src r 0 0 (leBytes 4 (s.fn g).quCount) ∧
      s.othersKept t src ∧ t = { s with fns := t.fns, out := t.out, adm := t.adm }) ∧
  (∀ (s : State) (src : Src) (r : Req) (g : Nat), s.slotsOfFn g ≠ [] → (s.fn g).flr = false → s.waiters (.quiesce g) = [src] →
    s.reqOf src = some r →
    ∃ t, exec (.quiesceWaitTimeout g) s = .next t ∧ State.answered s t src r 0x406 0 (leBytes 4 (s.fn g).quCount) ∧
      s.othersKept t src ∧ t = { s with fns := t.fns, out := t.out, adm := t.adm }) ∧
  (∀ (s : State) (src : Src) (r : Req) (g : Nat), s.stands src r 0x0091 3 → byteAt r.payload 2 = 0 → s.vfArg src r = g →
    s.ownVf src g = true → (s.fn g).vf = .quiesced → (s.fn g).flr = false →
    ∃ t, exec (.functionResume src) s = .next t ∧ (t.fn g).vf = .active ∧ (t.fn g).quCount = 0 ∧
      State.answered s t src r 0 0 (leBytes 4 (s.fn g).quCount) ∧
      t = { s with qs := t.qs, fns := t.fns, out := t.out, adm := t.adm }) ∧
  (∀ (s : State) (src : Src) (r : Req) (g : Nat) (all l : List Nat), s.stands src r 0x0092 4 → s.vfArg src r = g →
    s.ownVf src g = true → (s.fn g).vf = .quiesced → (s.fn g).flr = false → s.slotsOfFn g = [] → s.queuesOf g = all →
    (all.filter (fun q => decide (fieldLe r.payload 2 2 ≤ q))).take 254 = l →
    ∃ t, exec (.functionStateGet src) s = .next t ∧
      State.answered s t src r 0 0 (leBytes 4 all.length ++ leBytes 4 l.length ++ l.flatMap (fun qid => match s.q g qid with
        | some q => s.stateEntry qid q
        | none => [])) ∧
      s.othersKept t src ∧ t = { s with fns := t.fns, out := t.out, adm := t.adm }) ∧
  (∀ (s : State) (src : Src) (r : Req) (g : Nat) (e : StateEnt) (q : Queue), s.stands src r 0x0093 22 → s.vfArg src r = g →
    s.ownVf src g = true → (s.fn g).vf = .quiesced → (s.fn g).flr = false → s.slotsOfFn g = [] → fieldLe r.payload 4 4 = 1 →
    stateEntOf r.payload 0 = e → s.q g e.qid = some q → s.entBad g e = false →
    ∃ t, exec (.functionStateSet src) s = .next t ∧ t.q g e.qid = some (q.withEnt e) ∧ State.answered s t src r 0 0 [] ∧
      (∀ g' qid', qkey g' qid' ≠ qkey g e.qid → t.q g' qid' = s.q g' qid') ∧ s.othersKept t src ∧
      t = { s with qs := t.qs, fns := t.fns, out := t.out, adm := t.adm }) ∧
  (∀ (s : State) (src : Src) (r : Req) (g : Nat), s.stands src r 0x0093 22 → s.vfArg src r = g →
    s.ownVf src g = true → (s.fn g).vf = .quiesced → (s.fn g).flr = false → s.slotsOfFn g = [] → fieldLe r.payload 4 4 = 1 →
    s.entBad g (stateEntOf r.payload 0) = true →
    ∃ t, exec (.functionStateSet src) s = .next t ∧ State.answered s t src r 0x40A 0 [] ∧ s.othersKept t src ∧
      t = { s with fns := t.fns, out := t.out, adm := t.adm })

/-- 06 R169; 07 R202–R204, R214–R217; 08 R228; 02 R45: RELAY_FETCH hands out the oldest waiting entry with the number of those behind
it, or 8 bytes where none waits; RELAY_RESPOND writes the VF's reply and takes the entry away, or answers 0x40D where no fetched entry has the RID; an
entry that waits too long gives the VF 0x40C. A dirty log starts empty; a harvest answers the buffer and the number of bits that
its read-modify-writes changed, and swaps the buffers; a stop ends the log; both end it with 0x406 where a bitmap write fails.
FUNCTION_ABORT starts an abort that reaches every tag, answers 0 at once where there is none, and joins a running abort or FLR. -/
def Obligations.TenantMessages : Prop :=
  (∀ (s : State) (src : Src) (r : Req) (p : Nat) (e : Relay) (rest : List Relay), s.stands src r 0x0094 0 → s.selfOf src = p →
    (s.fn p).inbox.filter (fun x => !x.fetched) = e :: rest →
    ∃ t, exec (.relayFetch src) s = .next t ∧
      (t.fn p).inbox = (s.fn p).inbox.map (fun x => if x.rid = e.rid ∧ x.gfn = e.gfn then { x with fetched := true } else x) ∧
      State.answered s t src r 0 0 (leBytes 2 e.gfn ++ leBytes 2 e.rid ++ leBytes 4 rest.length ++ e.req.bytes) ∧
      t = { s with fns := t.fns, out := t.out, adm := t.adm }) ∧
  (∀ (s : State) (src : Src) (r : Req), s.stands src r 0x0094 0 →
    (s.fn (s.selfOf src)).inbox.filter (fun x => !x.fetched) = [] →
    ∃ t p, exec (.relayFetch src) s = .next t ∧ State.answered s t src r 0 0 (p ++ leBytes 4 0) ∧ p.length = 4 ∧
      s.othersKept t src ∧ t = { s with fns := t.fns, out := t.out, adm := t.adm, freeCtr := t.freeCtr }) ∧
  (∀ (s : State) (src : Src) (r : Req) (p : Nat) (e : Relay), s.stands src r 0x0095 6 → s.selfOf src = p →
    (s.fn p).inbox.find? (fun x => x.fetched && decide (x.rid = fieldLe r.payload 0 2)) = some e → e.gfn ≠ p →
    ∃ t, exec (.relayRespond src) s = .next t ∧ (t.fn p).inbox = (s.fn p).inbox.filter (fun x => decide (x.gfn ≠ e.gfn)) ∧
      State.answered s t src r 0 0 [] ∧ (t.fn e.gfn).mbDone = true ∧ (t.fn e.gfn).mbBusy = false ∧
      (t.fn e.gfn).mbRelayed = false ∧ (t.fn e.gfn).req = none ∧
      (t.fn e.gfn).respBuf = memWrite (s.fn e.gfn).respBuf 0
        (replyBytes e.req 2 (fieldLe r.payload 2 2) (fieldLe r.payload 4 2) (sliceB r.payload 8 4072)) ∧
      t = { s with fns := t.fns, out := t.out, adm := t.adm }) ∧
  (∀ (s : State) (src : Src) (r : Req), s.stands src r 0x0095 6 →
    (s.fn (s.selfOf src)).inbox.find? (fun x => x.fetched && decide (x.rid = fieldLe r.payload 0 2)) = none →
    ∃ t, exec (.relayRespond src) s = .next t ∧ State.answered s t src r 0x40D 0 [] ∧ s.othersKept t src ∧
      t = { s with fns := t.fns, out := t.out, adm := t.adm }) ∧
  (∀ (s : State) (g p : Nat) (e : Relay), s.portOf g = p → (s.fn p).inbox.find? (fun x => decide (x.gfn = g)) = some e → g ≠ p →
    ∃ t, exec (.relayTimeout g) s = .next t ∧ (t.fn p).inbox = (s.fn p).inbox.filter (fun x => decide (x.gfn ≠ g)) ∧
      (t.fn g).mbDone = true ∧ (t.fn g).mbBusy = false ∧ (t.fn g).mbRelayed = false ∧ (t.fn g).req = none ∧
      (t.fn g).respBuf = memWrite (s.fn g).respBuf 0 (replyBytes e.req 0 0x40C 0 []) ∧
      t = { s with fns := t.fns, out := t.out }) ∧
  (∀ (s : State) (src : Src) (r : Req) (g : Nat), s.stands src r 0x00A0 36 → s.vfArg src r = g → s.ownVf src g = true →
    (s.fn g).vf = .active ∨ (s.fn g).vf = .quiesced → (s.fn g).flr = false → dirtyBad r.payload = none → (s.fn g).dirty = none →
    s.loggers < 64 →
    ∃ t d, exec (.dirtyLogStart src) s = .next t ∧ t.fn g = { s.fn g with dirty := some d } ∧
      d = { base := fieldLe r.payload 4 8, len := fieldLe r.payload 12 8, gran := granBytes (byteAt r.payload 2),
            bm0 := fieldLe r.payload 20 8, bm1 := fieldLe r.payload 28 8 } ∧
      State.answered s t src r 0 0 [] ∧ (∀ h, h ≠ g → src ≠ some h → t.fn h = s.fn h) ∧
      t = { s with fns := t.fns, out := t.out, adm := t.adm }) ∧
  (∀ (s : State) (src : Src) (r : Req) (g : Nat) (d : Dirty), s.stands src r 0x00A1 2 → s.vfArg src r = g →
    s.ownVf src g = true → (s.fn g).vf = .active ∨ (s.fn g).vf = .quiesced → (s.fn g).flr = false → (s.fn g).dirty = some d →
    s.bitmapOk (s.portOf g) = true → d.failed = false →
    ∃ t, exec (.dirtyLogHarvest src) s = .next t ∧ (t.fn g).dirty = some { d with cache := [], active := 1 - d.active } ∧
      State.answered s t src r 0 0 (leBytes 1 d.active ++ zeros 3 ++ leBytes 8 (s.writeBits (s.portOf g) d).1) ∧
      t = { s with fns := t.fns, out := t.out, adm := t.adm, freeCtr := t.freeCtr }) ∧
  (∀ (s : State) (src : Src) (r : Req) (g : Nat) (d : Dirty), s.stands src r 0x00A2 2 → s.vfArg src r = g →
    s.ownVf src g = true → (s.fn g).vf = .active ∨ (s.fn g).vf = .quiesced → (s.fn g).flr = false → (s.fn g).dirty = some d →
    s.bitmapOk (s.portOf g) = true → d.failed = false →
    ∃ t, exec (.dirtyLogStop src) s = .next t ∧ (t.fn g).dirty = none ∧ State.answered s t src r 0 0 [] ∧
      t = { s with fns := t.fns, out := t.out, adm := t.adm, freeCtr := t.freeCtr }) ∧
  (∀ (s : State) (src : Src) (r : Req) (c : Instr) (typ g : Nat) (d : Dirty),
    (c = .dirtyLogHarvest src ∧ typ = 0x00A1 ∨ c = .dirtyLogStop src ∧ typ = 0x00A2) → s.stands src r typ 2 →
    s.vfArg src r = g → s.ownVf src g = true → (s.fn g).vf = .active ∨ (s.fn g).vf = .quiesced → (s.fn g).flr = false →
    (s.fn g).dirty = some d → (s.bitmapOk (s.portOf g) = false ∨ d.failed = true) →
    ∃ t, exec c s = .next t ∧ t.fn g = { s.fn g with dirty := none } ∧ State.answered s t src r 0x406 0 [] ∧
      t = { s with fns := t.fns, out := t.out, adm := t.adm }) ∧
  (∀ (s : State) (src : Src) (r : Req) (g : Nat), s.stands src r 0x00B0 2 → s.vfArg src r = g → s.ownVf src g = true →
    (s.fn g).vf = .active ∨ (s.fn g).vf = .quiesced → (s.fn g).flr = false → (s.fn g).abBusy = false → s.slotsOfFn g ≠ [] →
    ∃ t, exec (.functionAbort src) s = .next t ∧ (t.fn g).abBusy = true ∧ (t.fn g).abDone = false ∧ (t.fn g).abOrigin = 1 ∧
      t.waitOf src = some (.fnAbort g) ∧ s.reached t (s.slotsOfFn g) 0x301 ∧
      t = { s with fns := t.fns, adm := t.adm, sub := t.sub, hz := t.hz, zones := t.zones, media := t.media, vat := t.vat, ldp := t.ldp, cip := t.cip }) ∧
  (∀ (s : State) (src : Src) (r : Req) (g : Nat), s.stands src r 0x00B0 2 → s.vfArg src r = g → s.ownVf src g = true →
    (s.fn g).vf = .active ∨ (s.fn g).vf = .quiesced → (s.fn g).flr = false → (s.fn g).abBusy = false → s.slotsOfFn g = [] →
    s.waiters (.fnAbort g) = [] →
    ∃ t, exec (.functionAbort src) s = .next t ∧ (t.fn g).abBusy = false ∧ (t.fn g).abDone = true ∧ (t.fn g).abTags = 0 ∧
      State.answered s t src r 0 0 (leBytes 4 0) ∧ t = { s with fns := t.fns, qs := t.qs, out := t.out, adm := t.adm }) ∧
  (∀ (s : State) (src : Src) (r : Req) (g : Nat), s.stands src r 0x00B0 2 → s.vfArg src r = g → s.ownVf src g = true →
    (s.fn g).vf = .active ∨ (s.fn g).vf = .quiesced → ((s.fn g).flr = true ∨ (s.fn g).abBusy = true) →
    ∃ t, exec (.functionAbort src) s = .next t ∧
      t.waitOf src = some (if (s.fn g).flr = true then .flrEnd g else .fnAbort g) ∧
      t = { s with fns := t.fns, adm := t.adm })

/-- 06 R189; 08 R229: CONTROLLER_RESET answers and, as the watchdog does without a reply, takes READY away with the commands that
were not yet dispatched reached by 0x303, and keeps the queues; once every entry is written the boot ROM runs again, with the
queues kept at their creation values and the namespaces and settings kept; an entry that waits too long for ring space goes to
LOGID 0x05. -/
def Obligations.ControllerResets : Prop :=
  (∀ (s : State) (src : Src) (r : Req), s.stands src r 0x00B1 0 → s.devBusy = none →
    ∃ t, exec (.controllerReset src) s = .next t ∧ t.mode.booting = true ∧ t.mode.resetting = true ∧ t.pwr.kind = 2 ∧
      t.ready = false ∧ t.qs = s.qs ∧ (∀ k, (tfind t.nss k).isSome = (tfind s.nss k).isSome) ∧
      (∀ g, src = some g → (t.fn g).respBuf = memWrite (s.fn g).respBuf 0 (replyBytes r 0 0 0 [])) ∧
      (src = none → (mctpPackets (mctpHead ++ replyBytes r 4 0 0 []).length (mctpHead ++ replyBytes r 4 0 0 [])).map Output.mctp
        <:+: t.out) ∧
      s.reached t s.sub.slots 0x303) ∧
  (∀ s : State, s.watchdogRuns = true →
    ∃ t, exec .watchdogExpiry s = .next t ∧ t.mode.booting = true ∧ t.mode.resetting = true ∧ t.pwr.kind = 3 ∧ t.ready = false ∧
      t.qs = s.qs ∧ s.reached t s.sub.slots 0x303) ∧
  (∀ (s : State) (f : BootFacts), s.mode.resetting = true → s.sub.slots = [] →
    ∃ t, exec (.controllerResetSequence f) s = .next t ∧ t.mode.booting = true ∧ t.mode.resetting = false ∧
      t.qs = tmap s.qs (fun _ q => q.recreate) ∧ t.led.boot = s.led.boot + 1 ∧ t.nss = s.nss ∧ t.par = s.par ∧
      t.pwr.kind = s.pwr.kind) ∧
  (∀ (s : State) (i : Nat) (x : Slot), s.mode.resetting = true → s.slot i = some x → x.phase = .fixed → x.logTo = none →
    exec (.resetRingTimeout i) s = .next (s.setSlot i { x with logTo := some 5 }))

/-- 06 R190: SANITIZE answers, runs as the device-wide operation and makes every namespace inaccessible; it ends once the earlier
commands have completed, and then no key is loaded, and every namespace is accessible and has no zone and no bundle in use. -/
def Obligations.SanitizeRuns : Prop :=
  (∀ (s : State) (src : Src) (r : Req) (c : Instr) (a : Nat), s.stands src r 0x00B2 8 → byteAt r.payload 0 = a →
    (a = 1 ∧ c = .sanitizeCryptoErase src ∨ a = 2 ∧ c = .sanitizeBlockErase src) → fieldLe r.payload 4 4 = 0x5A4E0001 →
    s.devBusy = none → s.glb.ledger = false →
    ∃ t, exec c s = .next t ∧ t.adm.sanitize = a ∧ t.adm.devOp = some 0xB2 ∧ t.adm.sanProgress = 0 ∧
      (∀ k n, tfind s.nss k = some n → tfind t.nss k = some { n with busy := 3 }) ∧ State.answered s t src r 0 0 [] ∧
      t = { s with adm := t.adm, nss := t.nss, sub := t.sub, fns := t.fns, out := t.out, freeCtr := t.freeCtr }) ∧
  (∀ s : State, s.adm.sanitize ≠ 0 → s.ready = true → s.nss.all (fun p => s.earlyDone p.1 none) = true →
    ∃ t, exec .sanitizeDone s = .next t ∧ t.adm.sanitize = 0 ∧ t.adm.devOp = none ∧ (∀ k, (t.keySlot k).loaded = false) ∧
      (∀ k n, tfind t.nss k = some n → n.busy = 0) ∧ (∀ k, tfind s.nss k ≠ none → t.zonesOf k = []) ∧
      (∀ p ∈ t.media.buns, tfind s.nss (p.1 / 2 ^ 40) = none) ∧
      t = { s with cip := t.cip, fst := t.fst, nss := t.nss, zones := t.zones, media := t.media, hz := t.hz, links := t.links,
                   adm := t.adm, fns := t.fns, out := t.out, led := t.led, glb := t.glb, freeCtr := t.freeCtr })

/-- 06 R191, R192; 02 R54: a management request is taken one at a time: it stands for its row, or is answered where it is refused;
one that finds another is answered 0x405; one before READY or in a dormant state is held, the latter with a wake; a message that is
no mailbox request is dropped. MCTP control messages set and give the endpoint ID, answer 2 for an ID that names no endpoint
(PRESUMED, log 43), give the version support (free: log 11) and name message type 0x7E. DOE Discovery answers its entry, an
object of more than 1,024 DW sets the Error bit, and DOE Abort clears it. -/
def Obligations.OutOfBandMessages : Prop :=
  (∀ (s : State) (bytes : List Byte) (r : Req), s.brd.pwrgd = true → mctpTakes bytes = true → reqOfBytes (bytes.drop 3) = r →
    s.modeOf ≠ 5 → s.modeOf ≠ 0 → s.oobFull = false → s.refuses none r.typ = none →
    ∃ t, exec (.mctpMessage bytes) s = .next t ∧ t.adm = { s.adm with oob := some r, oobWait := none } ∧
      t = { s with adm := t.adm, pwr := { s.pwr with gated := false } }) ∧
  (∀ (s : State) (bytes : List Byte) (r : Req) (st d : Nat), s.brd.pwrgd = true → mctpTakes bytes = true →
    reqOfBytes (bytes.drop 3) = r → s.modeOf ≠ 5 → s.modeOf ≠ 0 → s.oobFull = false → s.refuses none r.typ = some (st, d) →
    ∃ t, exec (.mctpMessage bytes) s = .next t ∧ State.answered s t none r st d [] ∧
      t = { s with adm := { s.adm with oob := none, oobWait := none }, out := t.out, pwr := { s.pwr with gated := false } }) ∧
  (∀ (s : State) (bytes l : List Byte), s.brd.pwrgd = true → mctpTakes bytes = true → s.modeOf ≠ 5 → s.oobFull = true →
    mctpHead ++ replyBytes (reqOfBytes (bytes.drop 3)) 4 0x405 0 [] = l →
    exec (.mctpMessage bytes) s = .next { s with out := s.out ++ (mctpPackets l.length l).map Output.mctp }) ∧
  (∀ (s : State) (bytes : List Byte), s.brd.pwrgd = true → mctpTakes bytes = true → s.modeOf = 0 → s.oobFull = false →
    exec (.mctpMessage bytes) s = .next { s with adm := { s.adm with oobHeld := some (reqOfBytes (bytes.drop 3)) } }) ∧
  (∀ (s : State) (bytes : List Byte), s.brd.pwrgd = true → mctpTakes bytes = true → s.modeOf = 5 → s.oobFull = false →
    s.pwr.stuck = false → (s.pwr.phase = 2 → s.pwr.entryStep ≠ 10) →
    exec (.mctpMessage bytes) s =
      .next (({ s with adm := { s.adm with oobHeld := some (reqOfBytes (bytes.drop 3)) } }).wake 5)) ∧
  (∀ (s : State) (bytes : List Byte), s.brd.pwrgd = true → mctpTakes bytes = false → s.modeOf ≠ 5 →
    exec (.mctpMessage bytes) s = .next s) ∧
  (∀ (s : State) (eid : Nat), s.brd.pwrgd = true → s.modeOf ≠ 5 → 1 ≤ eid → eid ≤ 254 →
    ∃ t, exec (.setEndpointId eid) s = .next t ∧ t.adm = { s.adm with eid := BitVec.ofNat 8 eid } ∧
      t.out = s.out ++ [.mctp [0, 0, BitVec.ofNat 8 eid, 0]] ∧ t = { s with adm := t.adm, out := t.out }) ∧
  (∀ (s : State) (eid : Nat), s.brd.pwrgd = true → s.modeOf ≠ 5 → inR 1 254 eid = false →
    exec (.setEndpointId eid) s = .next { s with out := s.out ++ [.mctp [2]] }) ∧
  (∀ s : State, s.brd.pwrgd = true → s.modeOf ≠ 5 →
    exec .getEndpointId s = .next { s with out := s.out ++ [.mctp [0, s.adm.eid, 0, 0]] }) ∧
  (∀ s : State, s.brd.pwrgd = true → s.modeOf ≠ 5 →
    ∃ t v, exec .getMctpVersionSupport s = .next t ∧ t.out = s.out ++ [.mctp ([0, 1] ++ leBytes 4 v)] ∧
      t = { s with out := t.out, freeCtr := t.freeCtr }) ∧
  (∀ s : State, s.brd.pwrgd = true → s.modeOf ≠ 5 →
    exec .getMessageTypeSupport s = .next { s with out := s.out ++ [.mctp [0, 1, 0x7E]] }) ∧
  (∀ (s : State) (p dwords index : Nat), s.doeUp p = true → (s.fn p).doeErr = false → dwords ≤ 1024 →
    exec (.doeDiscovery p dwords index) s = .next { s with out := s.out ++ [.doe p false 0 (doeEntry index)] }) ∧
  (∀ (s : State) (p dwords index : Nat), s.doeUp p = true → (s.fn p).doeErr = false → 1024 < dwords →
    ∃ t, exec (.doeDiscovery p dwords index) s = .next t ∧ t.fn p = { s.fn p with doeErr := true } ∧
      t.out = s.out ++ [.doe p true 0 []] ∧ t = { s with fns := t.fns, out := t.out }) ∧
  (∀ (s : State) (p : Nat), s.doeUp p = true →
    ∃ t, exec (.doeAbort p) s = .next t ∧ t.fn p = { s.fn p with doeErr := false } ∧ (∀ g, g ≠ p → t.fn g = s.fn g) ∧
      t = { s with fns := t.fns })

/-- 02 R54–R57; 15 R433: an SPDM request before the boot seal is answered with ERROR Busy; the negotiation goes on step by step, and
digests, certificate portions, challenge, measurements and key exchange answer once it is done and ERROR before (the codes of the
standard are PRESUMED, log 43); of at most 2 sessions each is set up, finished or refused, kept alive, updated and ended, and a
message of no session is answered with ERROR; IDE_KM keys a stream, starts it and stops it; a stop of a Secure stream and an
integrity failure set FN_ERR.IDE in every function that it covers, the latter with an AER report. -/
def Obligations.SecureMessages : Prop :=
  (∀ (s : State) (p d : Nat), s.doeUp p = true → (s.fn p).doeErr = false → d ≤ 1024 → s.led.bootSealed = false →
    exec (.getVersion p d) s = .next { s with out := s.out ++ [.doe p false 1 [0x12, 0x7F, 3, 0]] }) ∧
  (∀ (s : State) (p d : Nat), s.spdmServes p d →
    ∃ t, exec (.getVersion p d) s = .next t ∧
      t.fn p = { s.fn p with spdmVersion := true, spdmCaps := false, spdmAlgs := false } ∧
      t.out = s.out ++ [.doe p false 1 [0x12, 0x04, 0x12]] ∧ t = { s with fns := t.fns, out := t.out }) ∧
  (∀ (s : State) (p d : Nat), s.spdmServes p d → (s.fn p).spdmVersion = true →
    ∃ t, exec (.getCapabilities p d) s = .next t ∧ t.fn p = { s.fn p with spdmCaps := true } ∧
      t.out = s.out ++ [.doe p false 1 ([0x12, 0x61] ++ leBytes 4 spdmFlags)] ∧ t = { s with fns := t.fns, out := t.out }) ∧
  (∀ (s : State) (p d : Nat), s.spdmServes p d → (s.fn p).spdmCaps = true →
    ∃ t, exec (.negotiateAlgorithms p d) s = .next t ∧ t.fn p = { s.fn p with spdmAlgs := true } ∧
      t.out = s.out ++ [.doe p false 1 ([0x12, 0x63] ++ spdmAlgSet)] ∧ t = { s with fns := t.fns, out := t.out }) ∧
  (∀ (s : State) (p d : Nat), s.spdmServes p d → (s.fn p).spdmAlgs = true →
    exec (.getDigests p d) s =
      .next { s with out := s.out ++ [.doe p false 1 ([0x12, 0x01] ++ padTo 48 (Config.sha384 s.fst.fuses.cert))] }) ∧
  (∀ (s : State) (p d op : Nat), s.spdmServes p d → (s.fn p).spdmAlgs = true → op % 256 = 0 →
    exec (.getCertificate p d op) s =
      .next { s with out := s.out ++ [.doe p false 1 ([0x12, 0x02] ++ certPart s.fst.fuses.cert (op / 256))] }) ∧
  (∀ (s : State) (p d : Nat), s.spdmServes p d → (s.fn p).spdmAlgs = true →
    ∃ t m, exec (.challenge p d 0) s = .next t ∧
      t.out = s.out ++ [.doe p false 1 ([0x12, 0x03] ++ padTo 96 (Config.deviceSign m))] ∧
      t = { s with out := t.out, freeCtr := t.freeCtr }) ∧
  (∀ (s : State) (p d i : Nat), s.spdmServes p d → (s.fn p).spdmAlgs = true → (i ≤ 8 ∨ i = 0xFF) →
    exec (.getMeasurements p d i) s = .next { s with out := s.out ++ [.doe p false 1 ([0x12, 0x60] ++
      (if i = 0 then leBytes 1 8 else if i = 0xFF then (maskIndices 0).flatMap s.quoteEntry else s.quoteEntry i).take 4086)] }) ∧
  (∀ (s : State) (p d op : Nat), s.spdmServes p d → (s.fn p).spdmAlgs = true → (s.fn p).session (sessionId op) = none →
    (s.fn p).sessions.length < 2 →
    ∃ t secret share, exec (.keyExchange p d op) s = .next t ∧
      t.fn p = { s.fn p with sessions := (s.fn p).sessions ++ [{ id := sessionId op, secret := secret }] } ∧
      t.out = s.out ++ [.doe p false 1 ([0x12, 0x64] ++ leBytes 2 (sessionId op) ++ share)] ∧ share.length = 96 ∧
      t = { s with fns := t.fns, out := t.out, freeCtr := t.freeCtr }) ∧
  (∀ (s : State) (p d op : Nat), s.spdmServes p d → (s.fn p).spdmAlgs = true → (s.fn p).session (sessionId op) = none →
    2 ≤ (s.fn p).sessions.length →
    exec (.keyExchange p d op) s = .next { s with out := s.out ++ [.doe p false 1 [0x12, 0x7F, 0x0A, 0]] }) ∧
  (∀ (s : State) (p d x : Nat) (c : Instr), s.spdmServes p d → (s.fn p).spdmAlgs = false →
    c ∈ [.getDigests p d, .getCertificate p d x, .challenge p d x, .getMeasurements p d x, .keyExchange p d x] →
    exec c s = .next { s with out := s.out ++ [.doe p false 1 [0x12, 0x7F, 4, 0]] }) ∧
  (∀ (s : State) (p op : Nat), s.spdmServes p (sessionDw op) → s.hasSession p (sessionId op) false →
    ∃ t, exec (.finish p op true) s = .next t ∧ t.hasSession p (sessionId op) true ∧
      t.out = s.out ++ [.doe p false 2 [0x12, 0x65]] ∧ t = { s with fns := t.fns, out := t.out }) ∧
  (∀ (s : State) (p op : Nat), s.spdmServes p (sessionDw op) → s.hasSession p (sessionId op) false →
    ∃ t, exec (.finish p op false) s = .next t ∧ (t.fn p).session (sessionId op) = none ∧
      t.out = s.out ++ [.doe p false 2 [0x12, 0x7F, 6, 0]] ∧ t = { s with fns := t.fns, out := t.out }) ∧
  (∀ (s : State) (p op : Nat), s.spdmServes p (sessionDw op) → s.hasSession p (sessionId op) true →
    exec (.heartbeatSpdm p op) s = .next { s with out := s.out ++ [.doe p false 2 [0x12, 0x68]] }) ∧
  (∀ (s : State) (p op : Nat) (x : Session), s.spdmServes p (sessionDw op) → (s.fn p).session (sessionId op) = some x →
    x.established = true →
    ∃ t, exec (.keyUpdate p op) s = .next t ∧ (t.fn p).session (sessionId op) = some { x with keyGen := x.keyGen + 1 } ∧
      t.out = s.out ++ [.doe p false 2 [0x12, 0x69]] ∧ t = { s with fns := t.fns, out := t.out }) ∧
  (∀ (s : State) (p op : Nat), s.spdmServes p (sessionDw op) → s.hasSession p (sessionId op) true →
    ∃ t, exec (.endSession p op) s = .next t ∧ (t.fn p).session (sessionId op) = none ∧
      t.out = s.out ++ [.doe p false 2 [0x12, 0x6C]] ∧ t = { s with fns := t.fns, out := t.out }) ∧
  (∀ (s : State) (p op n : Nat) (ok : Bool) (c : Instr), s.spdmServes p (sessionDw op) → (s.fn p).session (sessionId op) = none →
    c ∈ [.finish p op ok, .heartbeatSpdm p op, .keyUpdate p op, .endSession p op, .ideKmKeyProg p op n, .ideKmKSetGo p op n,
      .ideKmKSetStop p op n] →
    exec c s = .next { s with out := s.out ++ [.doe p false 2 [0x12, 0x7F, 2, 0]] }) ∧
  (∀ (s : State) (p op n : Nat), s.ideServes p op n →
    ∃ t, exec (.ideKmKeyProg p op n) s = .next t ∧ t.ideOf n = { s.ideOf n with port := p, keyed := true } ∧
      (∀ m, m ≠ n → t.ideOf m = s.ideOf m) ∧ t = { s with hif := { s.hif with ide := t.hif.ide }, out := t.out }) ∧
  (∀ (s : State) (p op n : Nat), s.ideServes p op n → (s.ideOf n).keyed = true →
    ∃ t, exec (.ideKmKSetGo p op n) s = .next t ∧ t.ideOf n = { s.ideOf n with secure := true, failed := false } ∧
      (∀ m, m ≠ n → t.ideOf m = s.ideOf m) ∧ t = { s with hif := { s.hif with ide := t.hif.ide }, out := t.out }) ∧
  (∀ (s : State) (p op n : Nat), s.ideServes p op n → (s.ideOf n).secure = true →
    ∃ t, exec (.ideKmKSetStop p op n) s = .next t ∧ t.ideOf n = { s.ideOf n with secure := false } ∧
      (∀ g ∈ s.fnsOfGroup (s.ideOf n).port, (s.fn g).vf ≠ .absent → s.ideCovers (s.ideOf n) g = true →
        (t.fn g).err.getLsbD 8 = true) ∧
      t = { s with hif := { s.hif with ide := t.hif.ide }, fns := t.fns, out := t.out }) ∧
  (∀ (s : State) (n : Nat), (s.ideOf n).secure = true →
    ∃ t, exec (.ideIntegrityFailure n) s = .next t ∧ t.ideOf n = { s.ideOf n with secure := false, failed := true } ∧
      Output.aer (s.ideOf n).port ∈ t.out ∧
      (∀ g ∈ s.fnsOfGroup (s.ideOf n).port, (s.fn g).vf ≠ .absent → s.ideCovers (s.ideOf n) g = true →
        (t.fn g).err.getLsbD 8 = true) ∧
      t = { s with hif := { s.hif with ide := t.hif.ide }, fns := t.fns, out := t.out, sub := t.sub, hz := t.hz,
                   zones := t.zones, media := t.media, vat := t.vat, ldp := t.ldp, cip := t.cip })

/-- 02 R47, R58–R60; 17 R469, R472: a poisoned TLP sets FN_ERR.POISON; a retrain tracks DEGRADED and sends a bandwidth notification; a
link that goes down fences its group and reaches its commands not yet dispatched with 0x302, and without commands its PF is in
its reset state, its VFs are absent and its queues gone; DL_Up brings the group back once no command is left; PERST# resets the
controller, is noted while it has no power, and waits while a dump runs; its release starts the controller with the straps sampled. -/
def Obligations.HostLinkEvents : Prop :=
  (∀ (s : State) (g : Nat), s.reach g = true →
    ∃ t, exec (.poisonedTlp g) s = .next t ∧ (t.fn g).err.getLsbD 7 = true ∧ (∀ h, h ≠ g → t.fn h = s.fn h) ∧
      t = { s with fns := t.fns, out := t.out }) ∧
  (∀ (s : State) (p : Nat) (d : Bool), p < s.nPf → (s.port p).up = true →
    ∃ t, exec (.linkRetrain p d) s = .next t ∧ t.port p = { s.port p with degraded := d } ∧
      (∀ q, q ≠ p → t.port q = s.port q) ∧ t.out = s.out ++ [.bandwidth p] ∧
      t = { s with hif := { s.hif with ports := t.hif.ports }, out := t.out }) ∧
  (∀ (s : State) (p : Nat), p < s.nPf → (s.port p).up = true → s.slotsOfGroup p ≠ [] →
    ∃ t, exec (.linkDown p) s = .next t ∧ t.port p = { s.port p with up := false, fenced := true, reset := true } ∧
      s.reached t (s.slotsOfGroup p) 0x302 ∧
      t = { s with hif := { s.hif with ports := t.hif.ports }, fns := t.fns, sub := t.sub, hz := t.hz, zones := t.zones,
                   media := t.media, vat := t.vat, ldp := t.ldp, cip := t.cip }) ∧
  (∀ (s : State) (p : Nat), p < s.nPf → (s.port p).up = true → s.slotsOfGroup p = [] →
    ∃ t, exec (.linkDown p) s = .next t ∧ t.port p = { s.port p with up := false, fenced := true, reset := false, degraded := false } ∧
      (t.fn p).ctrl = 0 ∧ (t.fn p).err = 0 ∧ (t.fn p).mbBusy = false ∧ (t.fn p).vf = .active ∧
      (∀ g, 8 ≤ g → s.pfOf g = some p → (t.fn g).vf = .absent) ∧
      (∀ g ∈ s.fnsOfGroup p, ∀ qid, qid < 4096 → t.q g qid = none)) ∧
  (∀ (s : State) (p : Nat), p < s.nPf → (s.port p).up = false → s.brd.perstLow = false → s.slotsOfGroup p = [] →
    ∃ t, exec (.dlUp p) s = .next t ∧ (t.port p).up = true ∧ (t.port p).fenced = false ∧ (t.port p).reset = false) ∧
  (∀ s : State, s.brd.perstLow = false → s.pwr.dumping = false → s.brd.pwrgd = true →
    ∃ t, exec .perstAssert s = .next t ∧ t.brd.perstLow = true ∧ t.brd.released = false ∧ t.mode.booting = true ∧
      t.ready = false ∧ t.sub.slots = [] ∧ t.par.inForce = s.par.inForce ∧ (∀ k, (t.link k).st = 0) ∧ t.glb.thermal = false) ∧
  (∀ s : State, s.brd.perstLow = false → s.pwr.dumping = false → s.brd.pwrgd = false →
    exec .perstAssert s = .next { s with brd := { s.brd with perstLow := true } }) ∧
  (∀ s : State, s.brd.perstLow = false → s.pwr.dumping = true →
    exec .perstAssert s = .next { s with brd := { s.brd with perstHeld := true } }) ∧
  (∀ (s : State) (st : Straps) (f : BootFacts), s.brd.perstHeld = true →
    exec (.perstDeassert st f) s = .next { s with brd := { s.brd with perstHeld := false } }) ∧
  (∀ (s : State) (st : Straps) (f : BootFacts), s.brd.perstLow = true → s.brd.perstHeld = false → s.brd.pwrgd = true →
    s.brd.released = false → s.pwr.pfailLow = false → s.pwr.afterDump = false → s.brd.thermtrip = false →
    ∃ t, exec (.perstDeassert st f) s = .next t ∧ t.brd.perstLow = false ∧ t.brd.released = true ∧ t.mode.booting = true ∧
      t.pwr.powerOn = false ∧ t.brd.straps.lgrp = st.lgrp ∧ t.brd.straps.profile = st.profile ∧ t.led.boot = s.led.boot + 1)

/-- 07 R194, R201, R210, R211, R213: an FLR takes the function's mailbox and reaches its commands not yet dispatched with 0x302; an
FLR of a PF clears VF Enable and lets its VFs leave. At its end the function has its registers at reset, no queue and the state
that it interrupted, or, leaving, is absent, without namespaces and with its settings at their defaults. NumVFs makes VFs BARE,
and those above a lower value leave. -/
def Obligations.FunctionEvents : Prop :=
  (∀ (s : State) (g : Nat), s.reach g = true → s.isPf g = false → (s.fn g).flr = false →
    ∃ t, exec (.flrInitiate g) s = .next t ∧ (t.fn g).flr = true ∧ (t.fn g).leaving = false ∧ (t.fn g).mbBusy = false ∧
      (t.fn g).req = none ∧ (t.fn g).vf = (s.fn g).vf ∧ s.reached t (s.slotsOfFn g) 0x302 ∧ t.qs = s.qs ∧
      ∀ k n, tfind s.nss k = some n → ∃ m, tfind t.nss k = some m ∧ ∀ h ∈ n.fns, h ∈ m.fns) ∧
  (∀ (s : State) (g : Nat), s.reach g = true → s.isPf g = true → (s.fn g).flr = false →
    ∃ t, exec (.flrInitiate g) s = .next t ∧ (t.fn g).flr = true ∧ (t.fn g).leaving = false ∧ (t.fn g).mbBusy = false ∧
      (t.fn g).req = none ∧ (t.fn g).vfEnable = false ∧ (t.fn g).numVfs = 0 ∧ s.reached t (s.slotsOfFn g) 0x302 ∧ t.qs = s.qs ∧
      ∀ v ∈ s.vfsOf g, (t.fn v).flr = true ∧ (t.fn v).leaving = true) ∧
  (∀ (s : State) (g : Nat), s.flrOver g = true → (s.fn g).leaving = false →
    ∃ t, exec (.flrEnd g) s = .next t ∧ (t.fn g).flr = false ∧ (t.fn g).ctrl = 0 ∧ (t.fn g).err = 0 ∧ (t.fn g).vecs = [] ∧
      (t.fn g).mbBusy = false ∧ (t.fn g).vf = (s.fn g).vf ∧ (∀ qid, qid < 4096 → t.q g qid = none) ∧
      t = { s with qs := t.qs, fns := t.fns, out := t.out, adm := t.adm }) ∧
  (∀ (s : State) (g : Nat), s.flrOver g = true → (s.fn g).leaving = true → s.isPf g = false →
    ∃ t, exec (.flrEnd g) s = .next t ∧ (t.fn g).vf = .absent ∧ (t.fn g).flr = false ∧ (∀ qid, qid < 4096 → t.q g qid = none) ∧
      (∀ k n, tfind t.nss k = some n → n.fns.contains g = false) ∧
      t.par = { s.par with live := settingsOut s.par.live g }) ∧
  (∀ (s : State) (p n : Nat), s.isPf p = true → s.reach p = true → (s.fn p).flr = false → n < (s.fn p).numVfs →
    ∃ t, exec (.vfEnableSet p n) s = .next t ∧ (t.fn p).numVfs = n ∧ (t.fn p).vfEnable = true ∧
      (∀ g ∈ s.vfsOf p, n < s.vfIndex g → (t.fn g).flr = true ∧ (t.fn g).leaving = true) ∧
      ∀ g ∈ s.vfsOf p, s.vfIndex g ≤ n → (t.fn g).leaving = (s.fn g).leaving ∧ (t.fn g).flr = (s.fn g).flr) ∧
  (∀ (s : State) (p n : Nat), s.isPf p = true → s.reach p = true → (s.fn p).flr = false → (s.fn p).numVfs ≤ n →
    ∃ t, exec (.vfEnableSet p n) s = .next t ∧ t.fn p = { s.fn p with vfEnable := true, numVfs := n } ∧
      (∀ k, k < min n (s.totalVfs p) → (s.fn (k + s.vfBase p)).vf = .absent →
        t.fn (k + s.vfBase p) = { s.fn (k + s.vfBase p) with vf := .bare }) ∧
      (∀ g, g ≠ p → (s.fn g).vf ≠ .absent → t.fn g = s.fn g) ∧ t = { s with fns := t.fns }) ∧
  (∀ (s : State) (p n : Nat), s.isPf p = true → s.reach p = true → (s.fn p).flr = false → n < (s.fn p).numVfs →
    ∃ t, exec (.vfEnableClear p n) s = .next t ∧ (t.fn p).numVfs = n ∧ (t.fn p).vfEnable = decide (n ≠ 0) ∧
      (∀ g ∈ s.vfsOf p, n < s.vfIndex g → (t.fn g).flr = true ∧ (t.fn g).leaving = true) ∧
      ∀ g ∈ s.vfsOf p, s.vfIndex g ≤ n → (t.fn g).leaving = (s.fn g).leaving ∧ (t.fn g).flr = (s.fn g).flr)

/-- 02 R61, R62; 16 R438–R447: D3hot of every PF begins an entry to PS3, is latched in QUIESCE, and D0 takes it back; the entry goes on step by
step, is committed and ends with the rails off, or at once in an exit where a wake waits; a wake event records its source and begins the
exit; an abandoned entry returns to service, PS3 and PS4 with what was retained, PS5 with a run of the boot ROM; a rail that does not come
up is retried 3 times and then reported; the patrol records its first breach and wakes; a BAR access while DORMANT is answered by the
shadow, or dropped where it writes, and wakes the block with source 6. -/
def Obligations.PowerEvents : Prop :=
  (∀ (s : State) (p : Nat) (l : Bool), s.isPf p = true → s.reach p = true →
    (s.modFn p (fun f => { f with d3 := true, l12 := l })).allD3 = false →
    ∃ t, exec (.pfD3hot p l) s = .next t ∧ t.fn p = { s.fn p with d3 := true, l12 := l } ∧ (∀ g, g ≠ p → t.fn g = s.fn g) ∧
      t = { s with fns := t.fns }) ∧
  (∀ (s : State) (p : Nat), s.isPf p = true → s.reach p = true → (s.modeOf = 1 ∨ s.modeOf = 2) → s.pwr.phase = 0 →
    (s.modFn p (fun f => { f with d3 := true, l12 := true })).allD3 = true →
    ∃ t, exec (.pfD3hot p true) s = .next t ∧ t.modeOf = 5 ∧ t.ready = false ∧ (t.fn p).d3 = true ∧
      t.mode = { s.mode with dormant := true, latchedPs := none } ∧
      t.pwr = { s.pwr with phase := 1, goal := 3, entryStep := 1, gated := false, ewin := false, heldWake := none } ∧
      t = { s with fns := t.fns, out := t.out, mode := t.mode, pwr := t.pwr }) ∧
  (∀ (s : State) (p : Nat), s.isPf p = true → s.reach p = true → s.modeOf = 3 → s.pwr.phase = 0 →
    (s.modFn p (fun f => { f with d3 := true, l12 := true })).allD3 = true →
    ∃ t, exec (.pfD3hot p true) s = .next t ∧ (t.fn p).d3 = true ∧ t.mode = { s.mode with latchedPs := some 3 } ∧
      t = { s with fns := t.fns, mode := t.mode }) ∧
  (∀ (s : State) (p : Nat), s.isPf p = true → s.mode.dormant = false → s.modeOf ≠ 3 →
    ∃ t, exec (.pfD0Return p) s = .next t ∧ t.fn p = { s.fn p with d3 := false } ∧ (∀ g, g ≠ p → t.fn g = s.fn g) ∧
      t = { s with fns := t.fns }) ∧
  (∀ (s : State) (p : Nat), s.isPf p = true → s.modeOf = 3 →
    ∃ t, exec (.pfD0Return p) s = .next t ∧ t.fn p = { s.fn p with d3 := false } ∧ t.mode = { s.mode with latchedPs := none } ∧
      t = { s with fns := t.fns, mode := t.mode }) ∧
  (∀ (s : State) (p : Nat), s.isPf p = true → s.mode.dormant = true → s.pwr.phase = 3 →
    ∃ t, exec (.pfD0Return p) s = .next t ∧ t.fn p = { s.fn p with d3 := false } ∧ t.pwr = { s.pwr with next := none } ∧
      t = { s with fns := t.fns, pwr := t.pwr }) ∧
  (∀ (s : State) (p : Nat), s.isPf p = true → s.mode.dormant = true → s.pwr.phase = 1 →
    ∃ t, exec (.pfD0Return p) s = .next t ∧ t.fn p = { s.fn p with d3 := false } ∧ t.pwr.phase = 3 ∧
      t = { s with fns := t.fns, pwr := t.pwr, brd := t.brd, freeCtr := t.freeCtr }) ∧
  (∀ s : State, s.mode.dormant = false → s.mode.booting = false → s.pwr.cur.toNat < 3 →
    (∀ p ∈ s.sub.landing, p.2 = []) → exec .ps2IdleGate s = .next { s with pwr := { s.pwr with gated := true } }) ∧
  (∀ s : State, s.pwr.phase = 1 → s.pwr.pfailLow = false →
    (s.pwr.entryStep = 1 ∨ s.pwr.entryStep = 2 ∧ s.sub.slots = [] ∨ s.pwr.entryStep = 5 ∨ s.pwr.entryStep = 6 ∨
      s.pwr.entryStep = 7 ∧ s.pwr.goal ≠ 5) →
    exec .dormantEntry s = .next { s with pwr := { s.pwr with entryStep := s.pwr.entryStep + 1 } }) ∧
  (∀ s : State, s.pwr.phase = 1 → s.pwr.pfailLow = false → s.pwr.entryStep = 3 → s.stagingEmpty = true →
    s.journalsDone = true → s.tagsEmpty = true →
    ∃ t, exec .dormantEntry s = .next t ∧ t.pwr = { s.pwr with entryStep := 4 } ∧
      (∀ k, k < 96 → (s.link k).isActive = true → (s.link k).lost = false →
        (t.link k).parkAsked = 2 ∧ (t.link k).parkDone = false) ∧
      t = { s with pwr := t.pwr, links := t.links, out := t.out }) ∧
  (∀ s : State, s.pwr.phase = 1 → s.pwr.pfailLow = false → s.pwr.entryStep = 4 → s.parkedAll = true →
    ∃ t, exec .dormantEntry s = .next t ∧ t.pwr = { s.pwr with entryStep := 5 } ∧
      (∀ k, (s.link k).st = 5 → t.link k = { s.link k with idle := true, parkAsked := 0 }) ∧
      (∀ k, (s.link k).st = 6 → t.link k = s.link k) ∧
      (∀ k, (s.link k).st ≠ 5 → (s.link k).st ≠ 6 → (t.link k).st = 0) ∧
      t = { s with pwr := t.pwr, links := t.links, out := t.out }) ∧
  (∀ s : State, s.pwr.phase = 1 → s.pwr.pfailLow = false → s.pwr.entryStep = 7 → s.pwr.goal = 5 →
    ∃ t, exec .dormantEntry s = .next t ∧ t.pwr = { s.pwr with entryStep := 8 } ∧ ∀ p, p < s.nPf → (t.port p).up = false) ∧
  (∀ s : State, s.pwr.phase = 1 → s.pwr.entryStep = 8 →
    exec .dormantCommit s = .next { s with pwr := { s.pwr with phase := 2, target := s.pwr.goal, entryStep := 9 } }) ∧
  (∀ s : State, s.pwr.phase = 2 → s.pwr.entryStep = 9 →
    exec .dormantCommit s = .next { s with pwr := { s.pwr with entryStep := 10 } }) ∧
  (∀ s : State, s.pwr.phase = 2 → s.pwr.entryStep = 10 → s.pwr.heldWake = none → s.alarmDue = false →
    ∃ t, exec .dormantCommit s = .next t ∧ t.pwr = { s.pwr with cur := s.pwr.goal, phase := 0, entryStep := 0 } ∧
      t.brd.pwrEn &&& 7 = 0 ∧ (s.pwr.goal ≠ 5 → t.brd.pwrEn &&& 8 = s.brd.pwrEn &&& 8) ∧
      (s.pwr.goal = 5 → t.brd.pwrEn = 0) ∧ t = { s with pwr := t.pwr, brd := { s.brd with pwrEn := t.brd.pwrEn } }) ∧
  (∀ (s : State) (c : Nat), s.pwr.phase = 2 → s.pwr.entryStep = 10 → 3 ≤ s.pwr.goal.toNat →
    (s.pwr.heldWake = some c ∨ s.pwr.heldWake = none ∧ s.alarmDue = true ∧ c = 1) →
    ∃ t, exec .dormantCommit s = .next t ∧ t.pwr.phase = 3 ∧ t.pwr.cur = s.pwr.goal ∧ t.pwr.from_ = s.pwr.goal ∧
      t.pwr.first = BitVec.ofNat 4 c ∧ t.brd.pwrEn = 15 ∧ t = { s with pwr := t.pwr, brd := { s.brd with pwrEn := t.brd.pwrEn } }) ∧
  (∀ (s : State) (code : Nat), (code = 2 ∨ code = 3 ∨ code = 5 ∨ code = 6 ∨ code = 1 ∧ s.alarmDue = true) → s.mode.dormant = true →
    s.pwr.phase = 0 → s.pwr.stuck = false → 3 ≤ s.pwr.cur.toNat →
    ∃ t, exec (.wakeEvent code) s = .next t ∧ t.pwr.phase = 3 ∧ t.pwr.first.toNat = code ∧
      t.pwr.seen = 1#8 <<< (code - 1) ∧ t.pwr.from_ = s.pwr.cur ∧ t.pwr.wtime = BitVec.ofNat 48 s.rtc ∧
      t.pwr.armed = (s.pwr.armed && decide (code ≠ 1)) ∧ t.brd.pwrEn = 15 ∧
      t = { s with pwr := t.pwr, brd := { s.brd with pwrEn := t.brd.pwrEn } }) ∧
  (∀ (s : State) (code : Nat), (code = 2 ∨ code = 3 ∨ code = 5 ∨ code = 6 ∨ code = 1 ∧ s.alarmDue = true) → s.mode.dormant = true →
    s.pwr.phase = 1 → s.pwr.cur.toNat < 3 →
    ∃ t, exec (.wakeEvent code) s = .next t ∧ t.pwr.phase = 3 ∧ t.pwr.first.toNat = code ∧ t.pwr.from_ = s.pwr.goal ∧
      t = { s with pwr := t.pwr }) ∧
  (∀ (s : State) (code : Nat), (code = 2 ∨ code = 3 ∨ code = 5 ∨ code = 6 ∨ code = 1 ∧ s.alarmDue = true) → s.mode.dormant = true →
    s.pwr.phase = 3 →
    exec (.wakeEvent code) s =
      .next { s with pwr := { s.pwr with next := none, seen := s.pwr.seen ||| (1#8 <<< (code - 1)) } }) ∧
  (∀ (s : State) (a b : Bool) (f : BootFacts), s.pwr.phase = 3 → s.pwr.retryWait = false → s.pwr.stuck = false →
    s.mode.dormant = true → s.pwr.cur.toNat < 3 → s.pwr.next = none → s.adm.oobHeld = none → s.mode.booting = false →
    ∃ t, exec (.dormantExit a b f) s = .next t ∧ t.mode.dormant = false ∧ t.ready = true ∧ t.pwr.phase = 0 ∧ t.pwr.cur = 0 ∧
      t.qs = s.qs ∧ t.sub = s.sub) ∧
  (∀ (s : State) (f : BootFacts), s.pwr.phase = 3 → s.pwr.retryWait = false → s.pwr.stuck = false → s.mode.dormant = true →
    (s.pwr.cur = 3 ∨ s.pwr.cur = 4) → s.pwr.next = none → s.adm.oobHeld = none → s.mode.booting = false → s.fst.halt = false →
    ∃ t, exec (.dormantExit true true f) s = .next t ∧ t.mode.dormant = false ∧ t.ready = true ∧ t.pwr.phase = 0 ∧
      t.pwr.cur = 0 ∧ t.led.boot = s.led.boot + 1 ∧ t.par = s.par) ∧
  (∀ (s : State) (a b : Bool) (f : BootFacts), s.pwr.phase = 3 → s.pwr.retryWait = false → s.pwr.stuck = false →
    s.mode.dormant = true → (s.pwr.cur = 3 ∨ s.pwr.cur = 4) → (a && b) = false →
    ∃ t, exec (.dormantExit a b f) s = .next t ∧ t.mode.dormant = false ∧ t.mode.booting = true ∧
      t.led.boot = s.led.boot + 1 ∧ t.par = s.par) ∧
  (∀ (s : State) (a b : Bool) (f : BootFacts), s.pwr.phase = 3 → s.pwr.retryWait = false → s.pwr.stuck = false →
    s.mode.dormant = true → s.pwr.cur = 5 →
    ∃ t, exec (.dormantExit a b f) s = .next t ∧ t.mode.dormant = false ∧ t.mode.booting = true ∧ t.pwr.cur = 0 ∧
      t.pwr.kind = 6 ∧ t.led.boot = s.led.boot + 1 ∧ t.sub.slots = [] ∧ (b = true → t.par = s.par) ∧
      t.par.inForce = s.par.inForce) ∧
  (∀ (s : State) (c i : Nat), s.railsRising = true → s.pwr.retries ≠ 3 →
    ∃ t, exec (.wakePowerGoodTimeout c i) s = .next t ∧
      t.pwr = { s.pwr with
        fstate := s.pwr.cur, fcause := decide (c = 1), fid := BitVec.ofNat 8 i, ftime := BitVec.ofNat 48 s.rtc,
        retries := s.pwr.retries + 1, retryWait := true } ∧
      t.brd.pwrEn &&& 7 = 0 ∧ t = { s with pwr := t.pwr, brd := { s.brd with pwrEn := t.brd.pwrEn } }) ∧
  (∀ (s : State) (c i : Nat), s.railsRising = true → s.pwr.retries = 3 →
    ∃ t, exec (.wakePowerGoodTimeout c i) s = .next t ∧
      t.pwr = { s.pwr with
        fstate := s.pwr.cur, fcause := decide (c = 1), fid := BitVec.ofNat 8 i, ftime := BitVec.ofNat 48 s.rtc,
        fault := true, stuck := true, phase := 0 } ∧
      t.brd.pwrEn &&& 7 = 0 ∧ t = { s with pwr := t.pwr, brd := { s.brd with pwrEn := t.brd.pwrEn, faultN := true } }) ∧
  (∀ s : State, s.pwr.retryWait = true →
    ∃ t, exec .wakeRetry s = .next t ∧ t.pwr = { s.pwr with retryWait := false } ∧ t.brd.pwrEn &&& 7 = 7 ∧
      t = { s with pwr := t.pwr, brd := { s.brd with pwrEn := t.brd.pwrEn } }) ∧
  (∀ (s : State) (h : List HubSteep) (r : List RailSteep), s.pwr.cur = 4 → s.pwr.phase = 0 → s.pwr.stuck = false →
    s.firstBreach h r = none →
    ∃ t, exec (.steepPatrol h r) s = .next t ∧ t = { s with out := t.out, pwr := { s.pwr with patrols := s.pwr.patrols + 1 } } ∧
      ∀ k, k < 96 → Output.sideband (k / 24) (0x20 + k % 24) 0x20 none 11 ∈ t.out) ∧
  (∀ (s : State) (h : List HubSteep) (r : List RailSteep) (k i : Nat), s.pwr.cur = 4 → s.pwr.phase = 0 → s.pwr.stuck = false →
    s.mode.dormant = true → s.firstBreach h r = some (k, i) →
    ∃ t, exec (.steepPatrol h r) s = .next t ∧ t.pwr.breach = BitVec.ofNat 4 k ∧ t.pwr.bidx = BitVec.ofNat 8 i ∧
      t.pwr.phase = 3 ∧ t.pwr.first = 4 ∧ t.pwr.patrols = s.pwr.patrols + 1 ∧ t.brd.pwrEn = 15 ∧
      t = { s with out := t.out, pwr := t.pwr, brd := { s.brd with pwrEn := t.brd.pwrEn } }) ∧
  (∀ (s : State) (g bar off : Nat) (w : Bool), s.reach g = true → s.modeOf = 5 →
    (s.pwr.phase = 1 ∨ s.pwr.phase = 0 ∧ s.pwr.stuck = false) →
    ∃ t, exec (.dormantBarAccess g bar off w) s = .next t ∧ t.pwr.phase = 3 ∧ t.pwr.first = 6 ∧ t.pwr.seen = 32 ∧
      t.lastRead = (if w then s.lastRead else BitVec.ofNat 64 (if bar = 0 ∧ off / 8 * 8 = 0x10 then s.shadowStatus else 0)) ∧
      t = { s with lastRead := t.lastRead, pwr := t.pwr, brd := t.brd }) ∧
  (∀ (s : State) (g bar off : Nat) (w : Bool), s.reach g = true → s.modeOf = 5 → s.pwr.phase = 3 →
    ∃ t, exec (.dormantBarAccess g bar off w) s = .next t ∧ t.pwr = { s.pwr with next := none, seen := s.pwr.seen ||| 32#8 } ∧
      t.lastRead = (if w then s.lastRead else BitVec.ofNat 64 (if bar = 0 ∧ off / 8 * 8 = 0x10 then s.shadowStatus else 0)) ∧
      t = { s with lastRead := t.lastRead, pwr := t.pwr })

/-- 08 R233; 09 R262; 15 R418; 16 R458, R459; 17 R462, R466–R472: PFAIL# under a hold-up declaration starts the dump, in BOOT only where
tags or staged data are at risk (log 41), and its outcome table has every command; the controller then holds itself in reset, and starts
as a power-on once PFAIL# was high long enough; PFAIL# that returns without a dump lets parked hubs go on; PWRGD switches the rails; reset
is released with a run of the boot ROM; firmware sets READY, never while TEST is high; VDD_AON keeps the always-on registers. -/
def Obligations.BoardPower : Prop :=
  (∀ (s : State) (c : Bool), s.pwr.pfailLow = false → s.heldInReset = false → s.pwr.phase ≠ 2 → s.pwr.cur.toNat < 3 →
    (s.mode.booting = false ∨ s.nothingAtRisk = false) → s.media.plp = true →
    ∃ t, exec (.pfailSampled c) s = .next t ∧ t.pwr = { s.pwr with pfailLow := true, dumping := true } ∧ t.sub = {} ∧
      t.media.dump = (if c then some s.outcomeTable else none) ∧ t.media.blks = s.media.blks ∧
      t = { s with
        pwr := t.pwr, cal := { s.cal with halted := true }, fst := t.fst, links := t.links, out := t.out, media := t.media
        sub := t.sub }) ∧
  (∀ (s : State) (c : Bool), s.pwr.pfailLow = false → s.heldInReset = false → s.pwr.phase ≠ 2 → s.pwr.cur.toNat < 3 →
    (s.media.plp = false ∨ s.mode.booting = true ∧ s.nothingAtRisk = true) →
    ∃ t, exec (.pfailSampled c) s = .next t ∧ t.pwr = { s.pwr with pfailLow := true } ∧
      t = { s with pwr := t.pwr, cal := { s.cal with halted := true }, fst := t.fst, links := t.links, out := t.out }) ∧
  (∀ (s : State) (c : Bool), s.pwr.pfailLow = false → (s.heldInReset = true ∨ s.pwr.phase = 2 ∨ 3 ≤ s.pwr.cur.toNat) →
    ∃ t, exec (.pfailSampled c) s = .next t ∧ t.pwr = { s.pwr with pfailLow := true } ∧
      t = { s with pwr := t.pwr, cal := { s.cal with halted := true }, fst := t.fst }) ∧
  (∀ s : State, s.pwr.dumping = true →
    ∃ t, exec .dumpEnd s = .next t ∧ t.pwr = { s.pwr with dumping := false, afterDump := true } ∧
      t.mode = { s.mode with booting := true } ∧
      t.brd = { s.brd with released := false, perstLow := s.brd.perstLow || s.brd.perstHeld, perstHeld := false } ∧
      t = { s with pwr := t.pwr, mode := t.mode, brd := t.brd, links := t.links, out := t.out }) ∧
  (∀ s : State, s.pwr.pfailLow = true → (s.pwr.dumping = true ∨ s.pwr.afterDump = true ∨ s.brd.released = false) →
    exec .pfailReturnHigh s = .next { s with pwr := { s.pwr with pfailLow := false } }) ∧
  (∀ s : State, s.pwr.pfailLow = true → s.pwr.dumping = false → s.pwr.afterDump = false → s.brd.released = true →
    ∃ t, exec .pfailReturnHigh s = .next t ∧ t.pwr = { s.pwr with pfailLow := false } ∧
      (∀ k, (s.link k).parkAsked = 1 → (t.link k).parkAsked = 0) ∧
      (∀ k, (s.link k).parkAsked ≠ 1 → t.link k = s.link k) ∧
      t = { s with pwr := t.pwr, links := t.links, out := t.out, fst := t.fst }) ∧
  (∀ s : State, s.pwr.afterDump = true → s.pwr.pfailLow = false →
    ∃ t, exec .pfailHighHoldExpiry s = .next t ∧ t.pwr.afterDump = false ∧ t.pwr.powerOn = true ∧ t.brd.released = false ∧
      t.qs = [] ∧ t.fns = [] ∧ t.sub.slots = [] ∧ t.mode = {} ∧ t.drc.mem = [] ∧ t.cip.keys = [] ∧ t.fst.fuses = s.fst.fuses ∧
      t.fst.imgs = s.fst.imgs ∧ t.fst.blobs = s.fst.blobs ∧ t.par = s.par) ∧
  (∀ (s : State) (st : Straps), s.brd.pwrgd = false → s.brd.thermtrip = false →
    ∃ t, exec (.pwrgdRise st) s = .next t ∧ t.brd.pwrgd = true ∧ t.brd.pwrEn &&& 7 = 7 ∧ t.brd.jtag = st.jtagEn ∧
      t.pwr = { s.pwr with powerOn := true, retries := 0, retryWait := false, stuck := false } ∧
      t.brd.straps = (if s.brd.perstLow then { s.brd.straps with jtagEn := st.jtagEn, test := st.test } else st) ∧
      t = { s with pwr := t.pwr, brd := { s.brd with
        pwrgd := t.brd.pwrgd, jtag := t.brd.jtag, straps := t.brd.straps, pwrEn := t.brd.pwrEn } }) ∧
  (∀ s : State, s.brd.pwrgd = true →
    ∃ t, exec .pwrgdFall s = .next t ∧ t.brd.pwrgd = false ∧ t.brd.pwrEn &&& 7 = 0 ∧ t.qs = [] ∧ t.fns = [] ∧ t.sub.slots = [] ∧
      t.pwr.powerOn = true ∧ t.fst.imgs = s.fst.imgs ∧ t.pwr.alarm = s.pwr.alarm ∧ t.pwr.period = s.pwr.period ∧
      t.par = s.par) ∧
  (∀ (s : State) (f : BootFacts), s.mayRelease = true →
    ∃ t, exec (.resetRelease f) s = .next t ∧ t.brd.released = true ∧ t.mode.booting = true ∧ t.mode.dormant = false ∧
      t.pwr.powerOn = false ∧ t.pwr.cur = 0 ∧ t.led.boot = s.led.boot + 1 ∧ t.pwr.kind = (if s.pwr.powerOn then 0 else 1)) ∧
  (∀ s : State, s.drc.fill = true →
    exec .dramFillDone s = .next { s with drc := { s.drc with fill := false, fillPct := 100 } }) ∧
  (∀ s : State, s.mayReady = true → s.mode.dormant = false → s.pwr.next = none → s.adm.oobHeld = none →
    ∃ t, exec (.firmwareReady true) s = .next t ∧ t.mode.booting = false ∧ t.ready = true ∧
      t.mode.rescue = decide (s.fst.slot = 2) ∧ t.brd.faultN = false ∧ t.pwr.fault = false ∧ t.media.dump = none ∧
      (s.fst.slot < 2 → (t.img s.fst.slot).attempts = 0)) ∧
  (∀ s : State, s.brd.straps.test = true → exec (.firmwareReady true) s = .next s) ∧
  (∀ s : State, exec (.firmwareReady false) s = .next s) ∧
  (∀ s : State, s.brd.aonUp = false →
    ∃ t, exec .vddAonInRegulation s = .next t ∧ t.pwr = { s.pwr with rtc0 := t.pwr.rtc0 } ∧ s.now ≤ t.pwr.rtc0 ∧
      t.pwr.rtc0 ≤ s.now + 10000000 ∧ t.rtc = 0 ∧ t.brd.pwrEn &&& 8 = 8 ∧ t.brd.pwrEn &&& 7 = s.brd.pwrEn &&& 7 ∧
      t = { s with freeCtr := t.freeCtr, pwr := t.pwr, brd := { s.brd with aonUp := true, pwrEn := t.brd.pwrEn } }) ∧
  (∀ s : State, s.brd.aonUp = true →
    ∃ t, exec .vddAonFall s = .next t ∧ t.brd = { perstLow := s.brd.perstLow, noRtc := s.brd.noRtc } ∧
      t.pwr = { pfailLow := s.pwr.pfailLow, rtc0 := s.now } ∧ t.fst.brown = false ∧ t.fst.imgs = s.fst.imgs ∧
      (s.brd.pwrgd = true → t.qs = [] ∧ t.fns = [] ∧ t.sub.slots = []))

/-- 02 R61; 16 R452, R454, R457, R460; 17 R463–R465, R469, R478: THERMTRIP# drops every rail enable, and power where it is good; a lost clock of CPU or MGMT
restarts firmware, of DRA or DRB the controller as a power-on, of another domain as PERST# does, and one that does not come back leaves
a reported fault; a failed crossing is fenced; PMB_ALERT reads the status of each device, and a fault posts a health event; an AVS write of
a step is in force when acknowledged, and after three that are not the rail is at its boot voltage. A read of PWR_XSTAT clears STALE, or
while DORMANT is answered by the shadow and wakes the block; a stale BAR4 read is recorded with its offset. -/
def Obligations.BoardFaults : Prop :=
  (∀ s : State, s.brd.thermtrip = false → s.brd.pwrgd = false →
    exec .thermtrip s = .next { s with brd := { s.brd with thermtrip := true, pwrEn := 0 } }) ∧
  (∀ s : State, s.brd.thermtrip = false → s.brd.pwrgd = true →
    ∃ t, exec .thermtrip s = .next t ∧ t.brd.thermtrip = true ∧ t.brd.pwrEn = 0 ∧ t.fst.imgs = s.fst.imgs ∧
      t.qs = [] ∧ t.fns = [] ∧ t.sub.slots = [] ∧ t.pwr.powerOn = true ∧ t.par = s.par) ∧
  (∀ (s : State) (d : Nat), s.clockDue d = true → (d = 7 ∨ d = 8) →
    ∃ t, exec (.clockLoss d true) s = .next t ∧ t.mode.resetting = true ∧ t.mode.booting = true ∧ t.pwr.kind = 2 ∧ t.qs = s.qs ∧
      s.reached t s.sub.slots 0x303) ∧
  (∀ (s : State) (d : Nat), s.clockDue d = true → (d = 16 ∨ d = 17) →
    ∃ t, exec (.clockLoss d true) s = .next t ∧ t.pwr.powerOn = true ∧ t.qs = [] ∧ t.fns = [] ∧ t.sub.slots = [] ∧
      t.par = s.par) ∧
  (∀ (s : State) (d : Nat), s.clockDue d = true → d ≠ 7 → d ≠ 8 → d ≠ 16 → d ≠ 17 →
    ∃ t, exec (.clockLoss d true) s = .next t ∧ t.mode.booting = true ∧ t.ready = false ∧ t.brd.released = false ∧
      t.brd.perstLow = s.brd.perstLow ∧ t.sub.slots = [] ∧ ∀ k, (t.link k).st = 0) ∧
  (∀ (s : State) (d : Nat), s.clockDue d = true →
    ∃ t, exec (.clockLoss d false) s = .next t ∧ t.pwr.fault = true ∧ t.pwr.fcause = true ∧ t.pwr.fstate = s.pwr.cur ∧
      t.brd.faultN = true ∧ t.pwr.stuck = true ∧ t.mode.booting = true ∧ t.brd.released = false ∧ t.sub.slots = []) ∧
  (∀ (s : State) (x : Nat),
    ∃ t, exec (.crossingFence x) s = .next t ∧ x % 256 ∈ t.pwr.xfenced ∧ (∀ y ∈ s.pwr.xfenced, y ∈ t.pwr.xfenced) ∧
      t = { s with pwr := { s.pwr with xfenced := t.pwr.xfenced, xid := BitVec.ofNat 8 x } }) ∧
  (∀ (s : State) (st : List (Nat × Nat)), s.brd.released = true → s.pwr.cur.toNat < 3 →
    (∀ i, i < 8 → s.pv (pPmbus i) ≠ 0xFF → railFault (tget st i 0) = false) →
    ∃ t, exec (.pmbAlert st) s = .next t ∧ t = { s with out := t.out } ∧
      ∀ i, i < 8 → s.pv (pPmbus i) ≠ 0xFF → Output.pmbus (s.pv (pPmbus i)) 0x79 0 ∈ t.out) ∧
  (∀ (s : State) (st : List (Nat × Nat)) (i : Nat), s.brd.released = true → s.pwr.cur.toNat < 3 →
    i < 8 → s.pv (pPmbus i) ≠ 0xFF → railFault (tget st i 0) = true →
    ∃ t, exec (.pmbAlert st) s = .next t ∧ (∀ p, p < s.nPf → (t.fn p).acount = (s.fn p).acount + 1) ∧
      Output.pmbus (s.pv (pPmbus i)) 0x79 0 ∈ t.out ∧ t = { s with fns := t.fns, out := t.out, freeCtr := t.freeCtr }) ∧
  (∀ (s : State) (r mv : Nat), r < 2 → s.pf (pAvs r) ≠ 0xFF → s.brd.released = true → s.pwr.cur.toNat < 3 → mvOk r mv = true →
    (∀ v, tfind s.brd.avsMv r = some v → mv ≤ v + 10 ∧ v ≤ mv + 10) → tget s.brd.avsTries r 0 < 3 →
    ∃ t, exec (.avsCorrection r mv true) s = .next t ∧ tfind t.brd.avsMv r = some mv ∧ tget t.brd.avsTries r 0 = 0 ∧
      t.out = s.out ++ [.pmbus (s.pf (pAvs r)) 0x21 mv] ∧
      t = { s with brd := { s.brd with avsMv := t.brd.avsMv, avsTries := t.brd.avsTries }, out := t.out }) ∧
  (∀ (s : State) (r mv : Nat), r < 2 → s.pf (pAvs r) ≠ 0xFF → s.brd.released = true → s.pwr.cur.toNat < 3 → mvOk r mv = true →
    (∀ v, tfind s.brd.avsMv r = some v → mv ≤ v + 10 ∧ v ≤ mv + 10) → tget s.brd.avsTries r 0 < 2 →
    ∃ t, exec (.avsCorrection r mv false) s = .next t ∧ tget t.brd.avsTries r 0 = tget s.brd.avsTries r 0 + 1 ∧
      t.out = s.out ++ [.pmbus (s.pf (pAvs r)) 0x21 mv] ∧
      t = { s with brd := { s.brd with avsTries := t.brd.avsTries }, out := t.out }) ∧
  (∀ (s : State) (r mv : Nat), r < 2 → s.pf (pAvs r) ≠ 0xFF → s.brd.released = true → s.pwr.cur.toNat < 3 → mvOk r mv = true →
    (∀ v, tfind s.brd.avsMv r = some v → mv ≤ v + 10 ∧ v ≤ mv + 10) → tget s.brd.avsTries r 0 = 2 →
    ∃ t, exec (.avsCorrection r mv false) s = .next t ∧ tfind t.brd.avsMv r = some (if r = 0 then 800 else 900) ∧
      tget t.brd.avsTries r 0 = 3 ∧ Output.pmbus (s.pf (pAvs r)) 0x21 mv ∈ t.out) ∧
  (∀ (s : State) (g : Nat), s.reach g = true → s.isPf g = true → s.modeOf ≠ 5 →
    ∃ t, exec (.pwrXstatRead g) s = .next t ∧ t.lastRead = BitVec.ofNat 64 (s.pwrWord 0x30) ∧ t.pwr = { s.pwr with stale := false } ∧
      t = { s with lastRead := t.lastRead, pwr := t.pwr }) ∧
  (∀ (s : State) (g : Nat), s.reach g = true → s.isPf g = true → s.modeOf = 5 → s.pwr.phase = 0 → s.pwr.stuck = false →
    ∃ t, exec (.pwrXstatRead g) s = .next t ∧ t.lastRead = 0 ∧ t.pwr.stale = s.pwr.stale ∧ t.pwr.phase = 3 ∧ t.pwr.first = 6 ∧
      t = { s with lastRead := t.lastRead, pwr := t.pwr, brd := t.brd }) ∧
  (∀ (s : State) (g off : Nat), s.reach g = true → s.isPf g = true → s.modeOf ≠ 5 →
    ∃ t, exec (.bar4StaleRead g off) s = .next t ∧
      t.pwr = { s.pwr with stale := true, staleOff := BitVec.ofNat 24 off } ∧
      t = { s with lastRead := t.lastRead, freeCtr := t.freeCtr, pwr := t.pwr })

/-- 01 R18, R21, R24; 09 R249, R251; 10 R295; 11 R320, R322; 12 R354: an assembled sheet's program is queued at its link, and an encoder that
fails twice is fenced; a write at the head of its queue takes a free token; the served channel's head gets a tag, but an erase does not start
after PFAIL#; a quire whose sheets are all programmed is verified, and releases the staged blocks that no read holds; a busy die without a
deadline, or free again within the slack, is waited for; a good decode passes its block on, and a bad one is counted and read again at the
next rung. -/
def Obligations.MediaUnits : Prop :=
  (∀ (s : State) (id q p e b f : Nat) (r : Ream), tfind s.media.reams id = some r → s.progBlk r p = some b →
    s.mediaRuns = true → r.kind ≠ 3 → r.kind < 5 → q < r.quireCount → p < 32 → (r.quire q).issued.getLsbD p = false → s.sheetFull id r q p = true →
    s.encoderFor (32 * r.deckle + p) = some e → f < 2 →
    ∃ t r' op, exec (.sheetProgramIssue id q p f) s = .next t ∧ t = { s with media := t.media, links := t.links } ∧
      tfind t.media.reams id = some r' ∧ (r'.quire q).issued.getLsbD p = true ∧ op.opc = 3 ∧ op.owner = .sheet id q p ∧
      op.die = b / 8192 % 128 ∧ op.block = b % 8192 ∧ op.reloc = (r.target || r.gc) ∧
      tget (t.link (32 * r.deckle + p)).queues (2 * (op.die / 16 % 8) + 1) [] =
        tget (s.link (32 * r.deckle + p)).queues (2 * (op.die / 16 % 8) + 1) [] ++ [op]) ∧
  (∀ (s : State) (id q p e b f : Nat) (r : Ream), tfind s.media.reams id = some r → s.progBlk r p = some b →
    s.mediaRuns = true → r.kind ≠ 3 → r.kind < 5 → q < r.quireCount → p < 32 → (r.quire q).issued.getLsbD p = false → s.sheetFull id r q p = true →
    s.encoderFor (32 * r.deckle + p) = some e → 2 ≤ f → s.ldp.encFenced.contains (e ^^^ 1) = false →
    ∃ t r', exec (.sheetProgramIssue id q p f) s = .next t ∧ t.ldp.encFenced.contains e = true ∧
      t.ldp.encFence = satInc s.ldp.encFence ∧ tfind t.media.reams id = some r' ∧ (r'.quire q).issued.getLsbD p = true) ∧
  (∀ (s : State) (k q : Nat) (op : LinkOp) (l : List LinkOp), tget (s.link k).queues q [] = op :: l → op.token = false →
    q % 2 = 1 → s.tokenFor k op = true →
    ∃ t, exec (.admissionTokenRequest k q) s = .next t ∧ tget (t.link k).queues q [] = { op with token := true } :: l ∧
      (t.link k).tokens = (s.link k).tokens + 1 ∧ t = { s with links := t.links } ∧ ∀ j, j ≠ k → t.link j = s.link j) ∧
  (∀ (s : State) (k c q : Nat) (op : LinkOp) (l : List LinkOp),
    ((List.range 8).map (fun i => ((s.link k).nextChan + i) % 8)).findSome? (fun c => (s.chanServes k c).map (fun q => (c, q)))
      = some (c, q) → tget (s.link k).queues q [] = op :: l → (s.pwr.pfailLow = false ∨ op.opc ≠ 4) →
    ∃ t g, exec (.linkQueueServe k) s = .next t ∧ tget (t.link k).queues q [] = l ∧ (t.link k).nextChan = (c + 1) % 8 ∧
      tfind (t.link k).tags (tfree (s.link k).tags 1024 0) = some g ∧ g.op = op ∧
      g.gen = tget (s.link k).gens (tfree (s.link k).tags 1024 0) 0 + 1 ∧ ∀ j, j ≠ k → t.link j = s.link j) ∧
  (∀ (s : State) (k c q : Nat) (op : LinkOp) (l : List LinkOp),
    ((List.range 8).map (fun i => ((s.link k).nextChan + i) % 8)).findSome? (fun c => (s.chanServes k c).map (fun q => (c, q)))
      = some (c, q) → tget (s.link k).queues q [] = op :: l → s.pwr.pfailLow = true → op.opc = 4 →
    exec (.linkQueueServe k) s = .next s) ∧
  (∀ (s : State) (id q : Nat) (r : Ream), tfind s.media.reams id = some r → (∀ x ∈ s.media.reams, x.1 = id → x.2.kind < 3 ∧ s.runEmpty id x.2 = false) →
    (r.quire q).programmed = 0xFFFFFFFF#32 → (r.quire q).verified = false →
    ∃ t r', exec (.quireVerified id q) s = .next t ∧ tfind t.media.reams id = some r' ∧ (r'.quire q).verified = true ∧
      (r'.quire q).extra = 0 ∧
      ∀ k b g, tfind s.media.blks k = some b → b.staged = some g → g.loc.ream = id → g.loc.quire = q → g.programming = true →
        ∃ b', tfind t.media.blks k = some b' ∧ b'.media = some (g.ver, g.loc) ∧ b'.native = none ∧
          b'.staged = (if s.readHolds (k / 2 ^ 40) (k % 2 ^ 40) then some g else none)) ∧
  (∀ (s : State) (id q : Nat) (r : Ream), tfind s.media.reams id = some r → r.kind = 4 → (r.quire q).programmed = 0xFFFFFFFF#32 →
    (r.quire q).verified = false →
    ∃ t, exec (.quireVerified id q) s = .next t ∧
      ∀ k b g l, tfind s.media.blks k = some b → b.staged = some g → g.loc.ream ≠ id → g.flush = some l → l.ream = id → l.quire = q →
        ∃ b', tfind t.media.blks k = some b' ∧ b'.media = some (g.ver, l) ∧ b'.native = some g.loc ∧
          b'.staged = (if s.readHolds (k / 2 ^ 40) (k % 2 ^ 40) then some g else none)) ∧
  (∀ (s : State) (k c e m p i idx : Nat) (op : LinkOp) (l : List LinkOp) (x : Slot) (loc : MediaLoc),
    tget (s.link k).queues (2 * c) [] = op :: l → opIsRead op.opc = true → op.waits = false → (s.die k op.die).op.isSome = true →
    ((s.die k op.die).st = 2 ∨ (s.die k op.die).st = 3) → op.owner = .unit i idx → s.slot i = some x →
    s.unitLoc i idx = some loc → (∀ sl, s.slackOf x e = some sl → (m : Int) ≤ sl) →
    ∃ t, exec (.busyDieDecision k c e m p) s = .next t ∧ tget (t.link k).queues (2 * c) [] = { op with waits := true } :: l ∧
      (t.die k op.die).remainUs = m ∧ (t.die k op.die).remainAt = s.now ∧ t = { s with links := t.links }) ∧
  (∀ (s : State) (i idx : Nat) (cw : CwMeta) (x : Slot) (u : IoUnit) (v : BlkVer) (loc : MediaLoc), s.slot i = some x →
    x.stop = none → tfind x.units idx = some u → u.st = .decode → u.recon = false → u.rung < 2 → u.rung < x.relocRung →
    s.ldp.decoding { slot := i, idx := idx, soft := false } = true →
    (s.blk u.nsid u.lba).media = some (v, loc) → cw.slice = none → cw.conv = true → cwGood cw (s.epochAt loc) u.nsid u.lba = true →
    cw.kind ≠ 1 → cw.kind ≠ 5 → v.lost = false →
    ∃ t y, exec (.decodeDone i idx cw) s = .next t ∧ t = { s with sub := t.sub, ldp := t.ldp, cip := t.cip } ∧ t.slot i = some y ∧
      tfind y.units idx = some { u with st := .cipher, recon := false }) ∧
  (∀ (s : State) (i idx k : Nat) (cw : CwMeta) (x : Slot) (u : IoUnit) (v : BlkVer) (loc : MediaLoc) (n : Nat × Nat × Nat × Nat)
    (op : LinkOp), s.slot i = some x → x.stop = none → tfind x.units idx = some u → u.st = .decode → u.recon = false →
    (s.blk u.nsid u.lba).media = some (v, loc) → cw.slice = none →
    (cw.conv && cwGood cw (s.epochAt loc) u.nsid u.lba) = false → nextRead u.rung u.lset u.tries x.retryMax = some n →
    s.ldp.decoding { slot := i, idx := idx, soft := false } = true →
    s.readOp loc n.2.2.2 n.2.1 (.unit i idx) = some (k, op) →
    ∃ t y, exec (.decodeDone i idx cw) s = .next t ∧ t.ldp.hardFail = satInc s.ldp.hardFail ∧
      t.ldp.mdFail = (if cw.conv then satInc s.ldp.mdFail else s.ldp.mdFail) ∧ t.slot i = some y ∧
      tfind y.units idx = some { u with st := .media, rung := n.1, lset := n.2.1, tries := n.2.2.1, recon := false } ∧
      op ∈ tget (t.link k).queues (2 * (op.die / 16 % 8)) [] ∧ t = { s with sub := t.sub, links := t.links, ldp := t.ldp })

/-- 09 R242, R246, R252–R261, R264, R266: a replaced block's ream holds its spare; a ream formed takes 32 blocks, and a scheduled refresh its
target; an erase is counted, or retires its block; a finished relocation switches its zones and blocks and releases the source; collection
takes its victim and moves bundles to new places; the block of a partial quire goes to the flush area; dump reams, checkpoints, journals and
intents advance. -/
def Obligations.MediaProgress : Prop :=
  (∀ (s : State) (b c id p nb : Nat) (r : Ream), tfind s.media.bad b = some c → s.reamOf b = some (id, r, p) →
    tfind s.media.reams id = some r → s.sparePick b = some nb → (s.mblk nb).asStamped = true → tfind s.media.repls b = none →
    s.replOld b = none → r.programmedAt p ≠ [] →
    ∃ t r', exec (.blockReplacement b c) s = .next t ∧
      tfind t.media.repls b = some { new := nb, todo := r.programmedAt p, quire := r.failedQuire p, cause := c } ∧
      (t.mblk nb).st = .inReam ∧ tfind t.media.reams id = some r' ∧ r'.entries = r.entries ∧
      (∀ q ∈ r.programmedAt p, ∃ op, op.opc = 3 ∧ op.owner = .copy b q ∧ op.die = nb / 8192 % 128 ∧ op.block = nb % 8192 ∧
        op.reloc = true ∧ op ∈ tget (t.link (32 * r.deckle + p)).queues (2 * (op.die / 16 % 8) + 1) []) ∧
      t.qs = s.qs ∧ t.sub = s.sub) ∧
  (∀ (s : State) (b c id p nb : Nat) (r : Ream), tfind s.media.bad b = some c → s.reamOf b = some (id, r, p) →
    tfind s.media.reams id = some r → s.sparePick b = some nb → nb ≠ b → p < r.entries.length → (s.mblk nb).asStamped = true →
    tfind s.media.repls b = none → s.replOld b = none → r.programmedAt p = [] → r.failedQuire p = none →
    ∃ t r', exec (.blockReplacement b c) s = .next t ∧ tfind t.media.bad b = none ∧
      (t.mblk b).st = (if c = 1 then .waitErase else .retired) ∧ (t.mblk nb).st = .inReam ∧ tfind t.media.reams id = some r' ∧
      r'.entries = r.entries.set p (some nb) ∧ t.qs = s.qs ∧ t.sub = s.sub) ∧
  (∀ (s : State) (d kind g n z id : Nat) (u : State), s.mediaRuns = true → d < 3 → s.ownWanted d kind = true →
    s.formReam d kind g 0 0 0 = .ok u id →
    ∃ r, exec (.reamFormation d kind g n z) s = .next u ∧ tfind u.media.reams id = some r ∧ r.deckle = d ∧ r.kind = kind ∧
      r.entries.length = 32 ∧ (∀ b, some b ∈ r.entries → (u.mblk b).st = .inReam) ∧
      u = { s with media := u.media, links := u.links }) ∧
  (∀ (s : State) (d kind g n z id tgt : Nat) (r : Ream) (u : State), s.mediaRuns = true → d < 3 → (kind = 1 ∨ kind = 2) →
    s.refreshPick kind g n z = some id → tfind s.media.reams id = some r →
    s.formReam r.deckle r.kind r.grp r.nsid r.zslba 0 = .ok u tgt →
    ∃ t, exec (.reamFormation d kind g n z) s = .next t ∧
      t.media.relocs = s.media.relocs ++ [{ src := id, tgt := tgt, cause := 0 }] ∧ id ∉ t.media.refresh ∧
      (tfind t.media.reams tgt).map Ream.target = some true ∧ t = { s with media := t.media, links := t.links }) ∧
  (∀ (s : State) (b : Nat), (s.mblk b).st = .erasing → (∀ x ∈ (s.link (b / 2 ^ 20)).tags, x.2.op.owner ≠ .erase b) →
    ∃ t, exec (.eraseDone b true) s = .next t ∧ (t.mblk b).erases = (s.mblk b).erases + 1 ∧
      t.media.erasesDone = s.media.erasesDone + 1 ∧ b ∈ (t.dk (b / 2 ^ 25)).doneWait ∧
      (s.media.reams = [] → (t.mblk b).st = (s.mblk b).role ∧ (t.mblk b).asStamped = true) ∧
      t.qs = s.qs ∧ t.sub = s.sub) ∧
  (∀ (s : State) (b : Nat), (s.mblk b).st = .erasing → (∀ x ∈ (s.link (b / 2 ^ 20)).tags, x.2.op.owner ≠ .erase b) →
    ∃ t, exec (.eraseDone b false) s = .next t ∧ (t.mblk b).st = .retired ∧ tfind t.media.bad b = some 2 ∧
      t = { s with media := t.media }) ∧
  (∀ (s : State) (src : Nat) (m : Reloc) (r w : Ream), s.media.relocs.find? (fun (m : Reloc) => m.src == src) = some m →
    tfind s.media.reams src = some r → tfind s.media.reams m.tgt = some w → s.mediaRuns = true → relocReady r w = true →
    ∃ t, exec (.relocationSwitch src) s = .next t ∧ (m.cause ≠ 1 → tfind t.media.reams src = none) ∧
      (∀ k z, tfind s.zones k = some z → z.ream = some src → ∃ z', tfind t.zones k = some z' ∧ z'.ream = some m.tgt) ∧
      (∀ k b v l, tfind s.media.blks k = some b → b.media = some (v, l) → l.ream = src →
        ∃ b' v', tfind t.media.blks k = some b' ∧ b'.media = some (v', { l with ream := m.tgt })) ∧
      t.qs = s.qs ∧ t.sub = s.sub) ∧
  (∀ (s : State) (g v : Nat), g < 16 → (s.grp g).victim = none → ((s.grp g).gcOn = true ∨ s.freePct g < s.pvA pGcStart ∨ s.hasEvac g = true) →
    s.gcVictim g = some v →
    ∃ t, exec (.gcStart g) s = .next t ∧ (t.grp g).gcOn = true ∧ (t.grp g).victim = some v ∧ t = { s with media := t.media }) ∧
  (∀ (s : State) (nsid b g v : Nat) (ns : Ns) (u w : State) (locs : List MediaLoc), tfind s.nss nsid = some ns →
    (List.range 16).find? (fun g => match (s.grp g).victim with | some v => s.bundleIn nsid b v | none => false) = some g →
    (s.grp g).victim = some v → s.gcPlaces g nsid ns = .ok u locs → u.bundleTo nsid b locs [] false = some w →
    ∃ t, exec (.gcBundleMove nsid b) s = .next t ∧ (t.bun nsid b).loc = locs.getD 0 { ream := 0 } ∧
      ((s.bun nsid b).st = 1 → (t.bun nsid b).st = 1) ∧ ((t.bun nsid b).st = 1 ∨ (t.bun nsid b).st = 2) ∧
      ∀ i, i < 16 → ((s.blk nsid (16 * b + i)).staged.isSome = true ∨ (s.blk nsid (16 * b + i)).media.isSome = true) →
        ∃ y, (t.blk nsid (16 * b + i)).staged = some y ∧ y.loc = locs.getD i { ream := 0 }) ∧
  (∀ (s : State) (d nsid lba : Nat) (b : Blk) (g : Staged) (u : State) (l : MediaLoc), s.mediaRuns = true → d < 3 →
    lba < 2 ^ 40 → s.evictAll (bkey nsid lba) = true → s.media.blks = [(bkey nsid lba, b)] → b.staged = some g → g.deckle = d →
    s.isPartial g = true → b.onMedia = false → (s.flushPad d 64).flushPlace d g.loc.cw = (u, some l) →
    ∃ t, exec (.stagingEviction d) s = .next t ∧ t.blk nsid lba = { b with staged := some { g with flush := some l } } ∧
      l.cw % 16 = g.loc.cw % 16 ∧ (tfind t.media.reams l.ream).map Ream.kind = some 4 ∧ t.qs = s.qs ∧ t.sub = s.sub) ∧
  (∀ (s : State) (d : Nat), s.mediaRuns = true → d < 3 → (s.dk d).dumpReady < dumpWanted s.media.cap0 →
    (s.dk d).dumpReady + (s.dk d).dumpHeld < s.dumpReams d →
    ∃ t, exec (.dumpReamReady d) s = .next t ∧ (t.dk d).dumpReady = (s.dk d).dumpReady + 1 ∧ t.qs = s.qs ∧ t.sub = s.sub) ∧
  (∀ (s : State) (d id : Nat) (u : State), s.mediaRuns = true → d < 3 → (s.dk d).dumpReady < dumpWanted s.media.cap0 →
    s.dumpReams d ≤ (s.dk d).dumpReady + (s.dk d).dumpHeld → s.formReam d 5 0 0 0 0 = .ok u id →
    ∃ t, exec (.dumpReamReady d) s = .next t ∧ (t.dk d).dumpReady = (s.dk d).dumpReady + 1 ∧
      (tfind t.media.reams id).map Ream.kind = some 5 ∧ t.qs = s.qs ∧ t.sub = s.sub) ∧
  (∀ (s : State) (d : Nat), s.mediaRuns = true → d < 3 →
    ∃ t, exec (.mapCheckpoint d) s = .next t ∧ t = { s with media := t.media } ∧
      t.dk d = { s.dk d with ckptSeq := (s.dk d).jseq, ckpts := (s.dk d).ckpts + 1 }) ∧
  (∀ (s : State) (d : Nat), s.mediaRuns = true → d < 3 → s.journalToken d = true →
    ∃ t, exec (.journalProgram d) s = .next t ∧ t = { s with media := t.media } ∧
      t.dk d = { s.dk d with jprog := (s.dk d).jbuf }) ∧
  (∀ (s : State) (d : Nat), s.mediaRuns = true → d < 3 →
    ∃ t, exec (.intentBatch d) s = .next t ∧ t = { s with media := t.media, links := t.links } ∧ (t.dk d).intentWait = [] ∧
      ∀ b ∈ (s.dk d).intentWait, b ∈ (t.dk d).intentSet ∧
        ∃ op, op.opc = 4 ∧ op.owner = .erase b ∧
          op ∈ tget (t.link (b / 2 ^ 20)).queues (2 * (b / 8192 % 128 / 16 % 8) + 1) [])

/-- 10 R273–R277, R282, R304, R308–R311, R315: the link states: DETECT after eight JTS1, preset requests met in TRAIN, ALIGN after eight JTS2,
electrical idle, ALIGN and its acknowledgement; timeouts retrain or fail a bring-up, and the third failure is a FAULT; silence retrains,
and the third retrain within 1 s without progress resets the hub; the replay timer sends again; a lost hub's tags end; a sideband reset is
tried and a configuration request sent again once. -/
def Obligations.LinkStates : Prop :=
  (∀ (s : State) (k a b : Nat) (e : Bool), (s.link k).st = 1 → (s.link k).jts1 < 7 →
    ∃ t, exec (.jts1Receive k a b e) s = .next t ∧ t.link k = { s.link k with jts1 := (s.link k).jts1 + 1 } ∧
      t = { s with links := t.links } ∧ ∀ j, j ≠ k → t.link j = s.link j) ∧
  (∀ (s : State) (k a b : Nat) (e : Bool), (s.link k).st = 1 → 7 ≤ (s.link k).jts1 →
    ∃ t, exec (.jts1Receive k a b e) s = .next t ∧ (t.link k).st = 2 ∧ (t.link k).jts1 = 0 ∧
      t.out = s.out ++ [.link k kindJts1 [0, (s.link k).preset, 0xFF, 0]] ∧ t = { s with links := t.links, out := t.out }) ∧
  (∀ (s : State) (k a b : Nat), (s.link k).st = 2 → a ≤ 10 → b ≤ 10 → (s.link k).eqReqs < 4 →
    ∃ t, exec (.jts1Receive k a b false) s = .next t ∧
      t.link k = { s.link k with preset := b, eqReqs := (s.link k).eqReqs + 1 } ∧
      t.out = s.out ++ [.link k kindJts1 [0, b, 0xFF, 0]] ∧ t = { s with links := t.links, out := t.out }) ∧
  (∀ (s : State) (k : Nat), (s.link k).st = 2 → (s.link k).jts2 < 7 →
    ∃ t, exec (.jts2Receive k) s = .next t ∧ t.link k = { s.link k with jts2 := (s.link k).jts2 + 1 } ∧
      t = { s with links := t.links }) ∧
  (∀ (s : State) (k : Nat), (s.link k).st = 2 → 7 ≤ (s.link k).jts2 →
    ∃ t, exec (.jts2Receive k) s = .next t ∧ (t.link k).st = 3 ∧ (t.link k).gotAlign = false ∧ (t.link k).sentAck = false ∧
      16 ≤ (t.link k).jts2Sent ∧
      t = { s with links := t.links, out := t.out }) ∧
  (∀ (s : State) (k : Nat), (s.link k).st ≠ 6 →
    ∃ t, exec (.eiosReceive k) s = .next t ∧ t.link k = { s.link k with idle := true } ∧ t = { s with links := t.links } ∧
      ∀ j, j ≠ k → t.link j = s.link j) ∧
  (∀ (s : State) (k : Nat) (b : List Byte), (s.link k).st = 3 →
    ∃ t, exec (.alignReceive k b) s = .next t ∧ t = { s with links := t.links, out := t.out } ∧
      if ctrlOk b 1 = true then
        (if byteAt b 6 = 0x10 then (t.link k).gotAlign = true ∧ (t.link k).sentAck = true ∧
          (t.link k).limits = creditRecord (sliceB b 16 16) ∧ (t.link k).peerSession = BitVec.ofNat 16 (fieldLe b 8 2) ∧
          (t.link k).alignPark = BitVec.ofNat 2 (byteAt b 12) ∧
          (t.link k).st = 3
         else (t.link k).st = 2)
      else t.link k = { s.link k with badflit := satInc (s.link k).badflit }) ∧
  (∀ (s : State) (k : Nat) (b : List Byte), (s.link k).st = 3 → (s.link k).gotAlign = true → (s.link k).sentAck = true →
    ∃ t, exec (.alignAckReceive k b) s = .next t ∧
      if ctrlOk b 2 = true then
        (t.link k).st = (if (s.link k).alignPark = 1 ∨ (s.link k).alignPark = 2 then 5 else 4) ∧ (t.link k).idle = false ∧
        ((s.link k).continues = false → (t.link k).session = (s.link k).peerSession ∧ (t.link k).stateLost = false)
      else t.link k = { s.link k with badflit := satInc (s.link k).badflit }) ∧
  (∀ (s : State) (k : Nat), (s.link k).st = 3 →
    ∃ t, exec (.linkStateTimeout k) s = .next t ∧ (t.link k).st = 2 ∧ t = { s with links := t.links, out := t.out }) ∧
  (∀ (s : State) (k : Nat), ((s.link k).st = 1 ∨ (s.link k).st = 2) → satInc (s.link k).bringfail ≠ 3 →
    ∃ t, exec (.linkStateTimeout k) s = .next t ∧ (t.link k).st = 1 ∧ (t.link k).bring = 1 ∧
      (t.link k).bringfail = satInc (s.link k).bringfail ∧ t = { s with links := t.links, out := t.out }) ∧
  (∀ (s : State) (k : Nat), (s.link k).bring ≠ 0 → (s.link k).bring ≠ 8 → (s.link k).st ≠ 6 → satInc (s.link k).bringfail ≠ 3 →
    ∃ t, exec (.bringupTimeout k) s = .next t ∧ (t.link k).st = 1 ∧ (t.link k).bring = 1 ∧
      (t.link k).bringfail = satInc (s.link k).bringfail ∧ t = { s with links := t.links, out := t.out }) ∧
  (∀ (s : State) (k : Nat), (s.link k).bring ≠ 0 → (s.link k).bring ≠ 8 → (s.link k).st ≠ 6 → satInc (s.link k).bringfail = 3 →
    ∃ t, exec (.bringupTimeout k) s = .next t ∧ (t.link k).st = 6 ∧ (t.link k).bringfail = 3 ∧ (t.link k).tags = [] ∧
      t.qs = s.qs) ∧
  (∀ (s : State) (k : Nat), (s.link k).st = 6 → (s.link k).faultOver = false →
    ∃ t, exec (.faultHoldExpiry k) s = .next t ∧ (t.link k).st = 6 ∧ (t.link k).faultOver = true ∧
      (s.media.reams = [] → t.link k = { s.link k with faultOver := true, queues := [] } ∧ t = { s with links := t.links })) ∧
  (∀ (s : State) (k : Nat), (s.link k).flows = true →
    ((s.link k).stalled.filter (fun t => decide (s.now - t ≤ 10000000))).length < 2 →
    ∃ t, exec (.linkSilenceTimeout k) s = .next t ∧ (t.link k).st = 2 ∧ (t.link k).retrains = satInc (s.link k).retrains ∧
      t = { s with links := t.links, out := t.out, sub := t.sub }) ∧
  (∀ (s : State) (k : Nat), (s.link k).flows = true →
    2 ≤ ((s.link k).stalled.filter (fun t => decide (s.now - t ≤ 10000000))).length →
    ∃ t, exec (.linkSilenceTimeout k) s = .next t ∧ (t.link k).st = 0 ∧ (t.link k).bring = 8 ∧ (t.link k).lost = true ∧
      (t.link k).hubresets = satInc (s.link k).hubresets ∧ t.qs = s.qs) ∧
  (∀ (s : State) (k : Nat) (f : TxFlit), (s.link k).flows = true → (s.link k).replay = [f] → f.retx < 4 →
    ∃ t, exec (.replayTimerExpiry k) s = .next t ∧ (t.link k).replay = [{ f with retx := f.retx + 1 }] ∧
      (t.link k).replays = satInc (s.link k).replays ∧ (t.link k).st = (s.link k).st ∧
      t = { s with links := t.links, out := t.out }) ∧
  (∀ (s : State) (k : Nat), (s.link k).st ≠ 0 → (s.link k).st ≠ 6 →
    ∃ t, exec (.hubLost k) s = .next t ∧ (t.link k).lost = true ∧ (t.link k).tags = [] ∧ (t.link k).st = (s.link k).st ∧
      ((s.link k).tags = [] → (s.link k).dies.all (fun d => d.2.lostOps.isEmpty && d.2.busyOps.isEmpty) = true →
        t = { s with links := t.links })) ∧
  (∀ (s : State) (k : Nat), (s.link k).bring = 8 →
    ∃ t, exec (.hubSidebandReset k true) s = .next t ∧ (t.link k).bring = 1 ∧ (t.link k).reqTries = 0 ∧
      t = { s with links := t.links }) ∧
  (∀ (s : State) (k : Nat), (s.link k).bring = 8 → (s.link k).reqTries < 2 →
    ∃ t, exec (.hubSidebandReset k false) s = .next t ∧ t.link k = { s.link k with reqTries := (s.link k).reqTries + 1 } ∧
      t.out = s.out ++ [.sideband (k / 24) (0x20 + k % 24) 0x11 (some 0xA5) 1] ∧ t = { s with links := t.links, out := t.out }) ∧
  (∀ (s : State) (k : Nat), (s.link k).reqOut ≠ 0 → (s.link k).reqTries = 0 →
    ∃ t, exec (.hubCfgTimeout k) s = .next t ∧ (t.link k).reqTries = 1 ∧ (t.link k).st = (s.link k).st ∧
      t = { s with links := t.links, out := t.out }) ∧
  (∀ (s : State) (k : Nat), (s.link k).reqOut ≠ 0 → (s.link k).reqTries ≠ 0 → (s.link k).st ≠ 6 →
    ∃ t, exec (.hubCfgTimeout k) s = .next t ∧ (t.link k).st = 0 ∧ (t.link k).bring = 8 ∧ (t.link k).lost = true ∧
      (t.link k).hubresets = satInc (s.link k).hubresets ∧ t.qs = s.qs)

/-- 10 R281, R292, R294, R296–R303, R306–R308, R314; 12 R351: what arrives from a hub: a sound flit in order is counted and a bad one asks
again; a completion that no tag waits for is discarded, and that of a sheet's program ends its tag; data counts toward its read; heartbeats,
a missing one, a die that is late, events, telemetry, park, identity and firmware replies change the link and its dies; a hub temperature
comes in by interrupt or is read over the sideband. -/
def Obligations.HubMessages : Prop :=
  (∀ (s : State) (k : Nat) (b : List Byte), (s.link k).flows = true →
    ∃ t, exec (.flitReceive k b) s = .next t ∧
      (flitSound b = false → (t.link k).badflit = satInc (s.link k).badflit ∧ (t.link k).nakPend = true ∧
        t = { s with links := t.links, out := t.out }) ∧
      (flitSound b = true → (flitHead b).typ = 0 → (flitHead b).seq = (s.link k).rxExp → (flitHead b).nak = false →
        (segsOf 0 116 (sliceB b 4 116) { asm := (s.link k).asm }).isSome = true →
        (t.link k).rxExp = (s.link k).rxExp + 1 ∧ (t.link k).nakPend = false)) ∧
  (∀ (s : State) (k : Nat) (m : List Byte), s.fwAway = false → s.rxFirst k 0 = some m → (s.link k).tagOf (cmplOf m).tag = none →
    ∃ t, exec (.cmpl k) s = .next t ∧ (t.link k).discard = satInc (s.link k).discard ∧ (t.link k).tags = (s.link k).tags ∧
      t = { s with links := t.links, out := t.out, pwr := { s.pwr with gated := false } }) ∧
  (∀ (s : State) (k slot r q p : Nat) (m : List Byte) (g : Tag) (x : Ream), s.fwAway = false → s.rxFirst k 0 = some m →
    (s.link k).tagOf (cmplOf m).tag = some (slot, g) → g.op.opc = 3 → g.op.owner = .sheet r q p → (cmplOf m).opc = 3 →
    (cmplOf m).die = g.op.die → (cmplOf m).res = 0 → (cmplOf m).dst ≠ 6 → tfind s.media.reams r = some x → p < 32 →
    ∃ t x', exec (.cmpl k) s = .next t ∧ tfind (t.link k).tags slot = none ∧ tfind t.media.reams r = some x' ∧
      (x'.quire q).programmed.getLsbD p = true ∧ t = { s with links := t.links, out := t.out, media := t.media, pwr := { s.pwr with gated := false } }) ∧
  (∀ (s : State) (k slot : Nat) (m : List Byte) (g : Tag), s.fwAway = false → s.rxFirst k 2 = some m → (s.link k).tagOf (fieldLe m 2 2) = some (slot, g) →
    opIsRead g.op.opc = true → g.cmplLen = none →
    ∃ t, exec (.dataRd k) s = .next t ∧ tfind (t.link k).tags slot = some { g with got := g.got + fieldLe m 8 4 } ∧
      t = { s with links := t.links, out := t.out }) ∧
  (∀ (s : State) (k : Nat), (s.link k).flows = true →
    ∃ t, exec (.heartbeatSend k) s = .next t ∧ (t.link k).hbseq = (s.link k).hbseq + 1 ∧
      t = { s with links := t.links, out := t.out }) ∧
  (∀ (s : State) (k : Nat) (m : List Byte), s.rxFirst k 3 = some m → byteAt m 0 = 0x12 →
    ∃ t, exec (.heartbeat k) s = .next t ∧ (t.link k).hbSeen = true ∧ (t.link k).hbRow = 0 ∧
      (t.link k).hpark = BitVec.ofNat 2 (byteAt m 1) ∧ t = { s with links := t.links, out := t.out }) ∧
  (∀ (s : State) (k : Nat), (s.link k).flows = true → (s.link k).hbSeen = false → (s.link k).hbRow < 2 →
    ∃ t, exec (.heartbeatWindowExpiry k) s = .next t ∧
      t.link k = { s.link k with hbmiss := satInc (s.link k).hbmiss, hbRow := (s.link k).hbRow + 1 } ∧
      t = { s with links := t.links, out := t.out }) ∧
  (∀ (s : State) (k : Nat), (s.link k).flows = true → (s.link k).hbSeen = false → 2 ≤ (s.link k).hbRow →
    ∃ t, exec (.heartbeatWindowExpiry k) s = .next t ∧ (t.link k).hbmiss = satInc (s.link k).hbmiss ∧ (t.link k).st = 0 ∧
      (t.link k).bring = 8 ∧ t.qs = s.qs) ∧
  (∀ (s : State) (k : Nat), (s.link k).flows = true → (s.link k).hbSeen = true →
    ∃ t, exec (.heartbeatWindowExpiry k) s = .next t ∧ t.link k = { s.link k with hbSeen := false, hbRow := 0 } ∧
      t = { s with links := t.links, out := t.out }) ∧
  (∀ (s : State) (k d : Nat), (s.link k).flows = true → (s.die k d).op.isSome = true → (s.die k d).unknown = false →
    (s.die k d).retired = false → inR 4 5 (s.die k d).st = false →
    ∃ t, exec (.dieTimerExpiry k d) s = .next t ∧ (t.die k d).unknown = true ∧ (t.link k).badstat = satInc (s.link k).badstat ∧
      t.qs = s.qs) ∧
  (∀ (s : State) (k : Nat) (m : List Byte), s.rxFirst k 3 = some m → byteAt m 0 = 0x10 → byteAt m 1 = 1 →
    ∃ t, exec (.dieFail k) s = .next t ∧ (t.die k (byteAt m 4 % 128)).retired = true ∧ t.qs = s.qs) ∧
  (∀ (s : State) (k : Nat) (m : List Byte), s.rxFirst k 3 = some m → byteAt m 0 = 0x10 → byteAt m 1 = 2 →
    ∃ t, exec (.temp k) s = .next t ∧ (t.link k).temp = sx8 (byteAt m 8) ∧ (t.link k).tempAt = some s.now ∧
      (t.link k).evseq = BitVec.ofNat 16 (fieldLe m 2 2) ∧ t.qs = s.qs) ∧
  (∀ (s : State) (k : Nat) (m : List Byte), s.rxFirst k 3 = some m → byteAt m 0 = 0x10 → byteAt m 1 = 3 →
    ∃ t, exec (.power k) s = .next t ∧ (t.link k).rails = byteAt m 8 ∧ t.qs = s.qs) ∧
  (∀ (s : State) (k : Nat) (m : List Byte), s.rxFirst k 3 = some m → byteAt m 0 = 0x10 → byteAt m 1 = 4 →
    (s.link k).lost = false → (s.link k).bring = 0 →
    ∃ t, exec (.hubReset k) s = .next t ∧ (t.link k).lost = true ∧ (t.link k).bring = 2 ∧ (t.link k).reqOut = 1 ∧
      (t.link k).hubresets = satInc (s.link k).hubresets ∧ t.qs = s.qs) ∧
  (∀ (s : State) (k : Nat) (m : List Byte), s.rxFirst k 3 = some m → byteAt m 0 = 0x10 → byteAt m 1 = 5 →
    ∃ t, exec (.eraseInt k) s = .next t ∧ t = { s with links := t.links, media := t.media, out := t.out } ∧
      blockKey k (byteAt m 4 % 128) (fieldLe m 8 2 % 8192) ∈ (t.dk (k / 32)).reErase) ∧
  (∀ (s : State) (k : Nat) (m : List Byte), s.rxFirst k 3 = some m → byteAt m 0 = 0x10 → byteAt m 1 = 6 →
    ∃ t, exec (.chanFault k) s = .next t ∧ (∀ i, i < 16 → (t.die k (16 * (byteAt m 4 % 8) + i)).retired = true) ∧ t.qs = s.qs) ∧
  (∀ (s : State) (k : Nat) (m : List Byte), s.rxFirst k 3 = some m → byteAt m 0 = 0x11 →
    ∃ t, exec (.telemetry k) s = .next t ∧ (t.link k).temp = sx8 (byteAt m 20) ∧ (t.link k).rails = byteAt m 29 ∧
      (t.link k).currents = (List.range 8).map (fun c => fieldLe m (4 + 2 * c) 2) ∧
      (t.link k).hottest = (List.range 8).map (fun c => sx8 (byteAt m (21 + c))) ∧ t.qs = s.qs) ∧
  (∀ (s : State) (k : Nat) (m : List Byte), s.rxFirst k 3 = some m → byteAt m 0 = 0x13 → bitN (byteAt m 1) 0 = true →
    byteAt m 2 = 2 → (s.link k).st = 4 →
    ∃ t, exec (.parkReply k) s = .next t ∧ (t.link k).parkDone = true ∧ (t.link k).st = 5 ∧ (t.link k).hpark = (s.link k).hpark ∧
      t = { s with links := t.links, out := t.out }) ∧
  (∀ (s : State) (k : Nat) (m : List Byte), s.rxFirst k 3 = some m → byteAt m 0 = 0x13 → bitN (byteAt m 1) 0 = true →
    byteAt m 2 ≠ 2 →
    ∃ t, exec (.parkReply k) s = .next t ∧ (t.link k).parkDone = true ∧ (t.link k).st = (s.link k).st ∧
      t = { s with links := t.links, out := t.out }) ∧
  (∀ (s : State) (k : Nat) (m : List Byte), s.rxFirst k 3 = some m → byteAt m 0 = 0x14 → bitN (byteAt m 1) 0 = true →
    ∃ t, exec (.unparkReply k) s = .next t ∧ (t.link k).lost = false ∧ (t.link k).bring = 0 ∧ (t.link k).bringfail = 0 ∧
      (t.link k).hpark = (s.link k).hpark ∧ ((s.link k).st = 5 → (t.link k).st = 4) ∧ t = { s with links := t.links, out := t.out }) ∧
  (∀ (s : State) (k : Nat) (m : List Byte), s.rxFirst k 3 = some m → byteAt m 0 = 0x15 → bitN (byteAt m 1) 0 = true →
    (s.link k).reqOut = 2 → byteAt m 2 = 2 → fieldLe m 4 2 = 0 →
    ∃ t, exec (.hubCfgReply k) s = .next t ∧ (t.link k).reqOut = 0 ∧ (t.link k).bring = 5 ∧ t.qs = s.qs) ∧
  (∀ (s : State) (k : Nat) (m : List Byte), s.rxFirst k 3 = some m → byteAt m 0 = 0x15 → bitN (byteAt m 1) 0 = true →
    (s.link k).reqOut = 1 → byteAt m 2 = 0 → m.length = 72 →
    ∃ t, exec (.hubCfgReply k) s = .next t ∧ (identOk m = false → (t.link k).st = 6 ∧ (t.link k).bring = 0) ∧
      (identOk m = true → t.media.rated = fieldLe m 26 2 ∧
        (t.link k).typUs = [fieldLe m 28 2, fieldLe m 30 2, fieldLe m 32 2] ∧
        ∀ d, d < 128 → bitN (fieldLe m 40 16) d = false → (t.die k d).retired = true) ∧ t.qs = s.qs) ∧
  (∀ (s : State) (k : Nat) (m : List Byte), s.rxFirst k 3 = some m → byteAt m 0 = 0x16 → bitN (byteAt m 1) 0 = true →
    (s.link k).reqOut = 3 → fieldLe m 12 4 = 4 →
    ∃ t, exec (.hubFwReply k) s = .next t ∧ (t.link k).fwState = 1 ∧ (t.link k).bring = 4 ∧ (t.link k).reqOut = 2 ∧ t.qs = s.qs) ∧
  (∀ (s : State) (k : Nat) (m : List Byte), s.rxFirst k 3 = some m → byteAt m 0 = 0x16 → bitN (byteAt m 1) 0 = true →
    (s.link k).reqOut = 3 → fieldLe m 12 4 ≠ 3 → fieldLe m 12 4 ≠ 4 →
    ∃ t, exec (.hubFwReply k) s = .next t ∧ (t.link k).fwNext = fieldLe m 8 4 ∧ (t.link k).bring = 3 ∧ (t.link k).reqOut = 3 ∧
      t = { s with links := t.links, out := t.out }) ∧
  (∀ (s : State) (k v : Nat), k < 96 →
    ∃ t, exec (.hubIbi k 2 v) s = .next t ∧ (t.link k).temp = sx8 (v % 256) ∧ (t.link k).tempAt = some s.now ∧ t.qs = s.qs) ∧
  (∀ (s : State) (k v : Nat), k < 96 →
    ∃ t, exec (.hubIbi k 3 v) s = .next t ∧ (t.link k).rails = v % 256 ∧ t.qs = s.qs) ∧
  (∀ (s : State) (k : Nat), k < 96 → (∀ a, (s.link k).tempAt = some a → 10000000 ≤ s.now - a) →
    ∃ t, exec (.hubSidebandTemperatureRead k none) s = .next t ∧ (t.link k).tempLeft = true ∧ Output.sideband (k / 24) (0x20 + k % 24) 0x20 none 9 ∈ t.out ∧
      t.qs = s.qs) ∧
  (∀ (s : State) (k : Nat) (vs : List Int), k < 96 → (∀ a, (s.link k).tempAt = some a → 10000000 ≤ s.now - a) →
    ∃ t, exec (.hubSidebandTemperatureRead k (some vs)) s = .next t ∧ (t.link k).tempLeft = false ∧
      (t.link k).temp = vs.getD 0 0 ∧ (t.link k).hottest = (List.range 8).map (fun c => vs.getD (c + 1) 0) ∧
      Output.sideband (k / 24) (0x20 + k % 24) 0x20 none 9 ∈ t.out ∧ t.qs = s.qs) ∧
  (∀ (s : State) (k : Nat), s.fwAway = true → exec (.cmpl k) s = .next s ∧ exec (.dataRd k) s = .next s)

/-- 12 R349, R350, R353, R355, R361, R362, R364, R365; 05 R162: a sample puts the kept class settings of its slot in force, latches its
input, takes the pending target, clamps its output to the slot's range and writes its actuator; a held slot leaves every actuator; a
generator in mode 0 follows the target and the error is clamped; a refreshed measurement is delivered, a junction temperature of 108 °C or
more sets THERMAL; a class that no slot drives has its bucket credited for 1 ms, and a driven one not. -/
def Obligations.CalenderSamples : Prop :=
  (∀ (s b : State) (c : LoopCfg) (n : Nat) (late : Nat × Nat), s.calRuns = true → n < 32 →
    (s.latch n).2.clsBoundary n = b → b.loopCfg n = c →
    ∃ t, exec (.loopSample n late) s = .next t ∧ t.cal.kept = b.cal.kept ∧ (t.loop n).x = (s.latch n).1.1 ∧
      (t.loop n).cfg = c ∧ (t.loop n).tgt = c.tgt ∧ (t.loop n).enabled = c.on ∧
      (t.loop n).late = satAdd (s.loop n).late late.1 ∧ (t.loop n).skip = satAdd (s.loop n).skip (min late.1 late.2) ∧
      (s.heldAs c (s.loop n).holdLeft = true → t.cal.acts = s.cal.acts) ∧
      (∀ j, j ≠ n → t.loop j = s.loop j) ∧
      (∀ a, a ≠ c.act → t.act a = s.act a) ∧
      t.qs = s.qs ∧ t.sub = s.sub ∧ t.media = s.media ∧ t.drc = s.drc) ∧
  (∀ (s b : State) (c : LoopCfg) (n : Nat) (late : Nat × Nat), s.calRuns = true → n < 32 →
    (s.latch n).2.clsBoundary n = b → b.loopCfg n = c → s.heldAs c (s.loop n).holdLeft = false → c.on = true →
    ∃ t, exec (.loopSample n late) s = .next t ∧
      (c.ymin ≤ c.ymax → c.ymin ≤ (t.loop n).u ∧ (t.loop n).u ≤ c.ymax) ∧
      (c.act % 256 ≠ 0 → t.act c.act = (t.loop n).u) ∧
      (c.mode = 0 → (t.loop n).sp = c.tgt ∧ (t.loop n).v = 0 ∧ (t.loop n).a = 0) ∧
      (c.mode = 0 → c.dir = 0 → c.cls = none → (s.latch n).1.2.2 = false →
        (s.loop n).inj = none → (s.loop n).injPend = none →
        (t.loop n).e = clampI (sat32 (sat32 c.tgt - (s.latch n).1.1)) (-c.emax) c.emax)) ∧
  (∀ (s : State) (input : Nat) (v : Int), s.calRuns = true → (input = 1 ∨ input = 5) →
    ∃ t, exec (.calenderInputRefresh input (some v)) s = .next t ∧
      tfind t.cal.inputs input = some (sat32 v, s.now) ∧ t.cal.inStale.contains input = false ∧
      (∀ j, j ≠ input → tfind t.cal.inputs j = tfind s.cal.inputs j) ∧
      (input = 5 → 108 * 65536 ≤ v → t.glb.thermal = true) ∧ t.cal.acts = s.cal.acts ∧ t.cal.loops = s.cal.loops ∧
      t.qs = s.qs ∧ t.sub = s.sub ∧ t.media = s.media ∧ t.drc = s.drc) ∧
  (∀ (s : State) (input : Nat), s.calRuns = true → (input = 1 ∨ input = 5) →
    exec (.calenderInputRefresh input none) s = .next { s with cal := { s.cal with inStale := addOnce s.cal.inStale input } }) ∧
  (∀ (s : State) (input : Nat) (v : Option Int), s.calRuns = true → refreshed input = true → input ≠ 1 → input ≠ 5 →
    ∃ t, exec (.calenderInputRefresh input v) s = .next t ∧
      (input % 256 = 6 → tfind t.cal.inputs input = some (sat32 (s.freeReamsIn (input / 256)), s.now)) ∧
      (input % 256 = 7 → tfind t.cal.inputs input = some (sat32 (s.backlogIn (input / 256)), s.now)) ∧
      (input = 0x0A → tfind t.cal.inputs input = some (sat32 s.hostRateIn, s.now)) ∧
      (input = 0x0B → tfind t.cal.inputs input = some (sat32 (s.drainIn t.cal.prog10), s.now) ∧
        t.cal.prog10 = (s.media.progBytes :: s.cal.prog10).take 10) ∧
      (∀ j, j ≠ input → tfind t.cal.inputs j = tfind s.cal.inputs j) ∧
      t.media = { s.media with hostBytes := t.media.hostBytes, progBytes := t.media.progBytes } ∧
      t = { s with cal := t.cal, media := t.media } ∧ t.cal.acts = s.cal.acts ∧ t.cal.loops = s.cal.loops) ∧
  (∀ (s : State) (c : Nat), s.calRuns = true → c < 64 → s.undriven c = true →
    ∃ t, exec (.reconstructBucketCredit c) s = .next t ∧
      tget t.cal.buckets c 0 =
        min (tget s.cal.buckets c 0 + s.pvA pRbMax * (s.pressure c).toNat * 1000) (s.pvA pRbMax * 524288000) ∧
      (∀ j, j ≠ c → tget t.cal.buckets j 0 = tget s.cal.buckets j 0) ∧
      t = { s with cal := { s.cal with buckets := t.cal.buckets } }) ∧
  (∀ (s : State) (c : Nat), s.undriven c = false → exec (.reconstructBucketCredit c) s = .next s)

/-- 13 R373, R379, R386, R388: a channel serves a queued read with the line's bytes and a due write by storing them; a narrow write waits in a
merge entry, a full line joins its channel's queue, an address not in service is refused as poisoned and counted; a merge entry that
times out over a clean line is laid over it. Bytes outside the line written stand. -/
def Obligations.DramCommands : Prop :=
  (∀ (s : State) (ch : Nat) (q : DReq), (s.chan ch).st = 1 → (s.chan ch).reqs = [q] → q.isWrite = false → paCh q.addr = ch →
    s.paUp (paLine q.addr) = true → tget s.drc.errs (paLine q.addr) [] = [] → s.mergeOf (paLine q.addr) = none →
    ∃ t, exec (.dramSchedule ch [] []) s = .next t ∧ t = { s with drc := t.drc } ∧ t.drc.mem = s.drc.mem ∧
      t.drc.lastPoison = false ∧ t.drc.lastRead = (List.range 128).map (fun k => memByte s.drc.mem (paLine q.addr + k)) ∧
      (t.chan ch).reqs = [] ∧ ∀ c, c ≠ ch → t.chan c = s.chan c) ∧
  (∀ (s : State) (ch : Nat) (q : DReq), (s.chan ch).st = 1 → (s.chan ch).reqs = [q] → q.isWrite = true → paCh q.addr = ch →
    s.urg q = 3 →
    ∃ t, exec (.dramSchedule ch [] []) s = .next t ∧ t = { s with drc := t.drc } ∧
      t.drc.mem = memWrite s.drc.mem (paLine q.addr) (padTo 128 q.bytes) ∧
      (∀ a, a < paLine q.addr ∨ paLine q.addr + 128 ≤ a → memByte t.drc.mem a = memByte s.drc.mem a) ∧
      (t.chan ch).reqs = [] ∧ ∀ c, c ≠ ch → t.chan c = s.chan c) ∧
  (∀ (s : State) (port a : Nat) (bytes : List Byte), s.paUp a = true → bytes ≠ [] → bytes.length < 128 →
    a + bytes.length ≤ paLine a + 128 → s.mergeOf (paLine a) = none → s.drc.merge.length < 64 →
    ∃ t k e, exec (.narrowWrite port a bytes []) s = .next t ∧ t = { s with drc := { s.drc with merge := t.drc.merge } } ∧
      tfind t.drc.merge k = some e ∧ e.line = paLine a ∧ e.since = s.now ∧
      ∀ i, i < bytes.length → tfind e.bytes (a - paLine a + i) = some (bytes.getD i 0)) ∧
  (∀ (s : State) (port a : Nat) (bytes : List Byte), s.paUp a = true → bytes.length = 128 → a % 128 = 0 → s.mergeOf a = none →
    ∃ t, exec (.narrowWrite port a bytes []) s = .next t ∧ t = { s with drc := { s.drc with chans := t.drc.chans } } ∧
      (t.chan (paCh a)).reqs = (s.chan (paCh a)).reqs ++
        [{ port := port, addr := a, isWrite := true, bytes := bytes, at_ := s.now }]) ∧
  (∀ (s : State) (port a : Nat) (bytes : List Byte), s.paUp a = false → bytes ≠ [] → a + bytes.length ≤ paLine a + 128 →
    ∃ t, exec (.narrowWrite port a bytes []) s = .next t ∧ t = { s with drc := t.drc } ∧ t.drc.mem = s.drc.mem ∧
      t.drc.lastPoison = true ∧ (t.chan (paCh a)).ue = satInc (s.chan (paCh a)).ue) ∧
  (∀ (s : State) (k : Nat) (e : Merge), tfind s.drc.merge k = some e → s.paUp e.line = true →
    tget s.drc.errs e.line [] = [] → (s.chan (paCh e.line)).reqs = [] → s.memOk →
    ∃ t, exec (.mergeEntryTimeout k []) s = .next t ∧ t = { s with drc := t.drc } ∧ tfind t.drc.merge k = none ∧
      t.drc.lastPoison = false ∧
      (∀ i, i < 128 → memByte t.drc.mem (e.line + i) = (tfind e.bytes i).getD (memByte s.drc.mem (e.line + i))) ∧
      ∀ a, a < e.line ∨ e.line + 128 ≤ a → memByte t.drc.mem a = memByte s.drc.mem a)

/-- 13 R380–R385, R387: the scrubber reads a clean line and goes on, or skips a rank; a migration copies a clean line and ends with the spare in
the rank's place; parity errors are counted, and over the limit the rank leaves, by migration where a spare is unused; retrains take turns,
a failure is tried again and the third failed retry fences the channel; the row-hammer tables clear at their window; a refresh request is
counted. -/
def Obligations.DramMaintenance : Prop :=
  (∀ (s : State) (ch : Nat), (s.chan ch).st = 1 → (s.chan ch).scrubs (s.chan ch).scrubAt.1 = true →
    tget s.drc.errs (paOf ch (s.chan ch).scrubAt.1 (s.chan ch).scrubAt.2) [] = [] →
    ∃ t, exec (.scrubLine ch []) s = .next t ∧ t = { s with drc := t.drc } ∧ t.drc.mem = s.drc.mem ∧
      t.chan ch = (s.chan ch).scrubTo ((s.chan ch).scrubAt.1 * (s.chan ch).lines + (s.chan ch).scrubAt.2 + 1)) ∧
  (∀ (s : State) (ch : Nat), (s.chan ch).st = 1 → (s.chan ch).scrubs (s.chan ch).scrubAt.1 = false →
    ∃ t, exec (.scrubLine ch []) s = .next t ∧ t = { s with drc := { s.drc with chans := t.drc.chans } } ∧
      t.chan ch = (s.chan ch).scrubTo (((s.chan ch).scrubAt.1 + 1) * (s.chan ch).lines)) ∧
  (∀ (s : State) (ch : Nat), (s.chan ch).st = 1 → (s.chan ch).migr = true → (s.chan ch).ptr.toNat < (s.chan ch).lines →
    tget s.drc.errs (paOf ch (s.chan ch).migRank (s.chan ch).ptr.toNat) [] = [] → s.memOk →
    ∃ t, exec (.rankMigrationLine ch []) s = .next t ∧ t = { s with drc := t.drc } ∧
      (t.chan ch).ptr = (s.chan ch).ptr + 1 ∧ (t.chan ch).poisoned = (s.chan ch).poisoned ∧
      ∀ a, memByte t.drc.mem a = memByte s.drc.mem a) ∧
  (∀ (s : State) (ch : Nat), (s.chan ch).migr = true → (s.chan ch).lines ≤ (s.chan ch).ptr.toNat →
    ∃ t, exec (.rankMigrationDone ch) s = .next t ∧ (t.chan ch).migr = false ∧ (t.chan ch).spareOk = false ∧
      (∃ n, (ch, tget (s.chan ch).rankMap (s.chan ch).migRank (s.chan ch).migRank, n) ∈ t.drc.failed) ∧
      tfind (t.chan ch).rankMap (s.chan ch).migRank = some (s.chan ch).spare ∧
      (t.chan ch).insvc = (s.chan ch).insvc ∧ t.drc.mem = s.drc.mem ∧ t.qs = s.qs ∧ t.sub = s.sub) ∧
  (∀ (s : State) (ch rank : Nat) (again : Bool), (s.chan ch).st = 1 → rank < 4 → tfind (s.chan ch).caparWin rank = none →
    2 ≤ s.pvA pCaparLimit →
    ∃ t, exec (.caparError ch rank again) s = .next t ∧
      (t.chan ch).capar = satAdd (s.chan ch).capar (if again then 2 else 1) ∧
      t = { s with drc := { s.drc with chans := t.drc.chans } }) ∧
  (∀ (s : State) (ch rank k at_ : Nat), (s.chan ch).st = 1 → rank < 4 → tfind (s.chan ch).caparWin rank = some (k, at_) →
    s.now - at_ ≤ 10000000 → s.pvA pCaparLimit ≤ k → (s.chan ch).insvc.getLsbD rank = true → (s.chan ch).migr = false →
    (s.chan ch).spareOk = false →
    ∃ t, exec (.caparError ch rank false) s = .next t ∧ (t.chan ch).insvc.getLsbD rank = false ∧
      (t.chan ch).capar = satInc (s.chan ch).capar ∧ t.drc.mem = s.drc.mem) ∧
  (∀ (s : State) (ch rank k at_ : Nat), (s.chan ch).st = 1 → rank < 4 → tfind (s.chan ch).caparWin rank = some (k, at_) →
    s.now - at_ ≤ 10000000 → s.pvA pCaparLimit ≤ k → (s.chan ch).insvc.getLsbD rank = true → (s.chan ch).migr = false →
    (s.chan ch).spareOk = true →
    ∃ t, exec (.caparError ch rank false) s = .next t ∧ (t.chan ch).migr = true ∧ (t.chan ch).migRank = rank ∧
      (t.chan ch).ptr = 0 ∧ (t.chan ch).insvc = (s.chan ch).insvc ∧ t.drc.mem = s.drc.mem) ∧
  (∀ (s : State) (ch : Nat) (ok : Bool), s.trainTurn = some ch → (s.chan ch).retryAt = none →
    ∃ t, exec (.dramRetrain ch ok) s = .next t ∧ t = { s with drc := t.drc } ∧ t.drc.nextTrain = (ch + 1) % 8 ∧
      (t.chan ch).rtfail = (if ok then 0 else 1) ∧ (t.chan ch).retryAt = (if ok then none else some s.now) ∧
      t.drc.mem = s.drc.mem) ∧
  (∀ (s : State) (ch : Nat), (s.chan ch).st = 1 → (s.chan ch).retryAt.isSome = true →
    ∃ t, exec (.dramRetrainRetry ch true) s = .next t ∧ t = { s with drc := { s.drc with chans := t.drc.chans } } ∧
      t.chan ch = { s.chan ch with rtfail := 0, retryAt := none }) ∧
  (∀ (s : State) (ch : Nat), (s.chan ch).st = 1 → (s.chan ch).retryAt.isSome = true → (s.chan ch).rtfail ≠ 3 →
    ∃ t, exec (.dramRetrainRetry ch false) s = .next t ∧ t = { s with drc := { s.drc with chans := t.drc.chans } } ∧
      t.chan ch = { s.chan ch with rtfail := satInc (s.chan ch).rtfail, retryAt := some s.now }) ∧
  (∀ (s : State) (ch : Nat), (s.chan ch).st = 1 → (s.chan ch).retryAt.isSome = true → (s.chan ch).rtfail = 3 →
    ∃ t, exec (.dramRetrainRetry ch false) s = .next t ∧ (t.chan ch).st = 2 ∧ (t.chan ch).insvc = 0 ∧ t.drc.mem = s.drc.mem) ∧
  (∀ (s : State) (ch : Nat), exec (.rhWindowClear ch) s = .next (s.modChan ch (fun c => { c with rows := [] }))) ∧
  (∀ (s : State) (ch : Nat), (s.chan ch).st = 1 →
    exec (.rfmRequest ch) s = .next (s.modChan ch (fun c => { c with rfm := satInc c.rfm })))

/-- 13 R375, R376: any error of one device is corrected: the one wrong symbol of a codeword is found, with its value. -/
def Obligations.OneDeviceCorrected : Prop :=
  ∀ (e : Nat → Nat) (i v : Nat), i < 20 → 0 < v → v < 256 → (∀ j, e j = if j = i then v else 0) →
    cwDecode e none = { out := 1, fix := [(i, v)] }

/-- 13 R387: an ACT of a row in the table adds one to its count; one of a new row in a table with room begins at 1, and in a full table takes
the place of the lowest count and counts from there; no other row's count moves. -/
def Obligations.RowTable : Prop :=
  (∀ (l : List (Nat × Nat)) (row n : Nat), l.find? (fun p => p.1 == row) = some (row, n) →
    (rhAct l row).2 = n + 1 ∧ (rhAct l row).1.length = l.length ∧
    ∀ r k, r ≠ row → ((r, k) ∈ (rhAct l row).1 ↔ (r, k) ∈ l)) ∧
  (∀ (l : List (Nat × Nat)) (row : Nat), l.find? (fun p => p.1 == row) = none → l.length = 16 →
    ∃ i p, l[i]? = some p ∧ (∀ q ∈ l, p.2 ≤ q.2) ∧ rhAct l row = (l.set i (row, p.2 + 1), p.2 + 1)) ∧
  (∀ (l : List (Nat × Nat)) (row : Nat), l.find? (fun p => p.1 == row) = none → l.length < 16 →
    rhAct l row = (l ++ [(row, 1)], 1))

/-- 15 R407–R411: a VDD_FST reading sets the wait states by its band, below 1.60 V it is a brown-out; a brown-out ends a running erase where the mode records it; a read
suspends the erase of another sector, from 1 ms after a resume on, and waits for the end of its own; an erase that ends, with no request
that waits for it, leaves its sector verified and the next one starts; a suspended erase resumes. -/
def Obligations.StoreCommands : Prop :=
  (∀ (s : State) (cv : Nat), 160 ≤ cv → cv < 256 →
    ∃ t, exec (.fstVddMeasure cv) s = .next t ∧ t = { s with fst := t.fst } ∧ t.fst.vdd = cv ∧ t.fst.low = false ∧
      t.fst.wait = fstWait cv t.fst.clk ∧ (cv < 170 → t.fst.clk = max s.fst.clk (fstFastest cv)) ∧
      (170 ≤ cv → 170 ≤ s.fst.vdd → s.fst.vddSince + 10000 ≤ s.now → t.fst.clk = 0)) ∧
  (∀ (s : State) (cv : Nat), cv < 160 → (s.fst.erasing = none ∨ s.cleanMode = false) →
    exec (.fstVddMeasure cv) s = .next { s with fst := { s.fst with vdd := cv, vddSince := 0, brown := true, low := true } }) ∧
  (fstWait 175 0 = 14 ∧ fstWait 175 1 = 12 ∧ fstWait 175 2 = 10 ∧ fstWait 175 3 = 8 ∧ fstWait 174 0 = 15 ∧ fstWait 174 1 = 13 ∧
    fstWait 174 2 = 11 ∧ fstWait 174 3 = 8 ∧ fstWait 169 1 = 14 ∧ fstWait 169 2 = 12 ∧ fstWait 169 3 = 9 ∧ fstWait 161 2 = 15 ∧
    fstWait 161 3 = 11) ∧
  (∀ (s : State) (k : Nat), s.fst.erasing = some k → s.cleanMode = true → flagSector k = false → s.fst.cells.length < flagCells →
    ∃ t, exec .fstBrownout s = .next t ∧ t = { s with fst := t.fst } ∧ t.fst.brown = true ∧ t.fst.low = true ∧
      t.fst.erasing = none ∧ t.fst.cells = s.fst.cells ++ [(k, 0xBF)] ∧ k ∈ t.fst.eraseQ) ∧
  (∀ (s : State), (s.fst.erasing = none ∨ s.cleanMode = false) →
    exec .fstBrownout s = .next { s with fst := { s.fst with brown := true, low := true } }) ∧
  (∀ (s : State) (k e : Nat), s.fst.erasing = some e → k ≠ e → s.fst.susp = false →
    (s.fst.resumed = false ∨ s.fst.erResume + 10000 ≤ s.now) →
    ∃ t, exec (.fstReadRequest k) s = .next t ∧ t = { s with fst := t.fst } ∧ t.fst.susp = true ∧ t.fst.erasing = some e ∧
      t.fst.cells = s.fst.cells) ∧
  (∀ (s : State) (k e : Nat), s.fst.erasing = some e →
    (k = e ∨ s.fst.susp = false ∧ s.fst.resumed = true ∧ s.now < s.fst.erResume + 10000) →
    exec (.fstReadRequest k) s = .next { s with fst := { s.fst with reads := s.fst.reads ++ [k] } }) ∧
  (∀ (s : State) (k : Nat), (s.fst.erasing = none ∨ s.fst.susp = true ∧ s.fst.erasing ≠ some k) →
    exec (.fstReadRequest k) s = .next s) ∧
  (∀ (s : State) (k : Nat), s.fst.erasing = some k → s.fst.susp = false → s.storeUp = true → s.waiters (.storeErase k) = [] →
    s.fst.eraseQ = [] →
    ∃ t, exec .fstEraseDone s = .next t ∧ t = { s with fst := t.fst } ∧ t.fst.erasing = none ∧ k ∈ t.fst.verified ∧
      t.fst.cells = (if s.flagMode && !flagSector k then markLast k 0 s.fst.cells else s.fst.cells)) ∧
  (∀ (s : State) (k q : Nat) (r : List Nat), s.fst.erasing = some k → s.fst.susp = false → s.storeUp = true →
    s.waiters (.storeErase k) = [] → s.fst.eraseQ = q :: r → s.fst.cells.length < flagCells →
    ∃ t, exec .fstEraseDone s = .next t ∧ t = { s with fst := t.fst } ∧ t.fst.erasing = some q ∧ t.fst.eraseQ = r ∧
      (k ≠ q → k ∈ t.fst.verified) ∧ q ∉ t.fst.verified) ∧
  (∀ (s : State), s.fst.susp = true →
    exec .fstEraseResume s = .next { s with fst := { s.fst with susp := false, resumed := true, erResume := s.now } }) ∧
  (∀ (s : State) (cv k : Nat), cv < 160 → s.fst.erasing = some k → s.cleanMode = true → flagSector k = false →
    s.fst.cells.length < flagCells →
    ∃ t, exec (.fstVddMeasure cv) s = .next t ∧ t = { s with fst := t.fst } ∧ t.fst.vdd = cv ∧ t.fst.brown = true ∧
      t.fst.low = true ∧ t.fst.erasing = none ∧ t.fst.cells = s.fst.cells ++ [(k, 0xBF)] ∧ k ∈ t.fst.eraseQ)

/-- 15 R421–R424, R427, R428: an event starts a record at the price of a token, is dropped and counted without one, folds into the head free of
charge, or waits in the program stage; a record that ends its program is linked to the chain, a repeat bit counts, a torn slot stays, and
after the third programs stop; a token comes back, and pays for the report of dropped events where one is owed. -/
def Obligations.LedgerCommands : Prop :=
  (∀ (s : State) (code : Nat) (arg : List Byte), code < 0xF000 → s.led.frozen = false → s.led.prog = none → s.led.stage = [] →
    s.led.matchesHead { code := code, arg := arg } = false → s.led.takes (ledClass code) = true →
    ledFree (ledClass code) = false → s.ledTokens (ledClass code) ≠ 0 → tget s.led.drops (ledClass code) 0 = 0 →
    ∃ t, exec (.ledgerEvent code arg) s = .next t ∧ t = { s with led := t.led } ∧
      t.led = { s.led with prog := some { code := code, arg := arg }, tokens := t.led.tokens } ∧
      t.ledTokens (ledClass code) = s.ledTokens (ledClass code) - 1) ∧
  (∀ (s : State) (code : Nat) (arg : List Byte), code < 0xF000 → s.led.frozen = false → s.led.prog = none → s.led.stage = [] →
    s.led.matchesHead { code := code, arg := arg } = false → s.led.takes (ledClass code) = true →
    ledFree (ledClass code) = false → s.ledTokens (ledClass code) = 0 →
    ∃ t, exec (.ledgerEvent code arg) s = .next t ∧ t = { s with led := t.led } ∧
      t.led = { s.led with drops := t.led.drops, dropTotal := s.led.dropTotal + 1, dropSrc := 0, dropCnt := satAdd s.led.dropCnt 1 } ∧
      tget t.led.drops (ledClass code) 0 = min 255 (tget s.led.drops (ledClass code) 0 + 1)) ∧
  (∀ (s : State) (code : Nat) (arg : List Byte), code < 0xF000 → s.led.frozen = false → s.led.prog = none → s.led.stage = [] →
    s.led.matchesHead { code := code, arg := arg } = true → s.led.reps < 32 →
    exec (.ledgerEvent code arg) s = .next { s with led := { s.led with prog := some { code := code, arg := arg } } }) ∧
  (∀ (s : State) (code : Nat) (arg : List Byte) (e : LedEv), code < 0xF000 → s.led.frozen = false → s.led.prog = some e →
    s.led.stage = [] →
    exec (.ledgerEvent code arg) s = .next { s with led := { s.led with stage := [{ code := code, arg := arg }] } }) ∧
  (∀ (s : State) (e : LedEv), s.led.prog = some e → s.led.stage = [] → e.tally = 1 →
    (s.led.matchesHead e && decide (s.led.reps < 32)) = false → s.led.head + 1 < 195840 →
    ∃ t, exec (.ledgerProgramDone true) s = .next t ∧ t = { s with led := t.led } ∧ t.led.prog = none ∧
      t.led.seq = s.led.nextSeq ∧ t.led.code = e.code ∧ t.led.reps = 0 ∧ t.led.sealed = false ∧ t.led.any = true ∧
      t.led.link = first16 (Config.sha384 (s.led.headLink s.fst.fuses.serial ++ s.led.headRep ++
        ledBody e.code s.led.boot s.rtc s.led.nextSeq e.arg)) ∧
      t.led.slots = ([0x3C#8] ++ ledBody e.code s.led.boot s.rtc s.led.nextSeq e.arg ++ t.led.link ++ repBytes 0) :: s.led.slots) ∧
  (∀ (s : State) (e : LedEv), s.led.prog = some e → s.led.stage = [] → e.tally = 1 → s.led.matchesHead e = true →
    s.led.reps < 32 →
    ∃ t, exec (.ledgerProgramDone true) s = .next t ∧ t = { s with led := t.led } ∧ t.led.prog = none ∧
      t.led.reps = s.led.reps + 1 ∧ t.led.seq = s.led.seq ∧ t.led.slots.length = s.led.slots.length) ∧
  (∀ (s : State) (e : LedEv), s.led.prog = some e → (s.led.matchesHead e && decide (s.led.reps < 32)) = false → s.led.torn ≠ 2 →
    ∃ t sl, exec (.ledgerProgramDone false) s = .next t ∧ t = { s with led := t.led } ∧ t.led.prog = some e ∧
      t.led.slots = sl :: s.led.slots ∧ sl.head? = some 0 ∧ t.led.torn = s.led.torn + 1 ∧ t.led.seq = s.led.seq ∧
      t.led.link = s.led.link) ∧
  (∀ (s : State) (e : LedEv), s.led.prog = some e → (s.led.matchesHead e && decide (s.led.reps < 32)) = false → s.led.torn = 2 →
    ∃ t, exec (.ledgerProgramDone false) s = .next t ∧ t.led.fail = true ∧ t.led.prog = none ∧ t.glb.ledger = true ∧
      t.qs = s.qs ∧ t.sub = s.sub) ∧
  (∀ (s : State) (f : Nat), f < 16 → ledFree f = false → s.ledTokens f < s.ledBurst f → tget s.led.drops f 0 = 0 →
    ∃ t, exec (.ledgerTokenRefill f) s = .next t ∧ t = { s with led := { s.led with tokens := t.led.tokens } } ∧
      t.ledTokens f = s.ledTokens f + 1 ∧ ∀ g, g ≠ f → tfind t.led.tokens g = tfind s.led.tokens g) ∧
  (∀ (s : State) (f : Nat) (p : LedEv), f < 16 → ledFree f = false → s.ledTokens f < s.ledBurst f → tget s.led.drops f 0 ≠ 0 →
    s.led.frozen = false → s.led.prog = some p →
    ∃ t, exec (.ledgerTokenRefill f) s = .next t ∧ t.ledTokens f = s.ledTokens f ∧ t.led.drops = [] ∧ t.led.dropTotal = 0 ∧
      t.led.stage = s.led.stage ++
        [{ code := 0xF004, arg := overflowArg s.led.dropSrc s.led.dropTotal s.led.drops, paid := true }])

/-- 03 R91: a valid CR_HEAD write that leaves no unconsumed entry clears the pending count and stops the timer; nothing goes out, and no
other queue moves. (A write behind one that still waits in its link group, 03 R84, comes later.) -/
def Obligations.HeadUpdateQuietsRing : Prop :=
  ∀ (s : State) (g qid value : Nat) (q : Queue), s.reach g = true → s.intakeMode = true → s.q g qid = some q →
    s.stalledOf (s.portOf g) = [] → headValid q (value % 65536) = true → ({ q with head := value % 65536 } : Queue).unconsumed = 0 →
    ∃ t q', exec (.crHeadWrite g qid value) s = .next t ∧ t.q g qid = some q' ∧ q'.pend = 0 ∧ q'.timer = none ∧
      q'.head = value % 65536 ∧ t = { s with qs := t.qs } ∧
      ∀ g' qid', qkey g' qid' ≠ qkey g qid → t.q g' qid' = s.q g' qid'

/-- 02 R36: FN_ID reports the number of a function; PF p has number p; the VFs of PF p follow each other from 8 plus the VFs of the PFs
before it; in a valid profile every number is below 1,024. -/
def Obligations.FunctionNumbers : Prop :=
  (∀ (s : State) (g : Nat), g < 1024 → s.fnIdWord g % 1024 = g) ∧
  (∀ (s : State) (p : Nat), p < s.nPf → s.isPf p = true ∧ s.pfOf p = some p) ∧
  (∀ (s : State) (p k : Nat), p < s.nPf → k < s.totalVfs p →
    s.isPf (8 + ((List.range p).map s.totalVfs).sum + k) = false ∧ s.pfOf (8 + ((List.range p).map s.totalVfs).sum + k) = some p) ∧
  (∀ (s : State) (g p : Nat), ((List.range s.nPf).map s.totalVfs).sum ≤ 1016 → s.pfOf g = some p → g < 1024)

/-- 01 R15: the order of the modes; the reason bitmap does not depend on the mode; with no cause of another mode left MODE is LIMITED
where a reason bit is set, else SERVICE. -/
def Obligations.ModeOrder : Prop :=
  (∀ s : State, s.mode.rescue = true → s.modeOf = 4) ∧
  (∀ s : State, s.mode.rescue = false → s.mode.booting = true → s.modeOf = 0) ∧
  (∀ s : State, s.mode.rescue = false → s.mode.booting = false → s.mode.dormant = true → s.modeOf = 5) ∧
  (∀ s : State, s.mode.rescue = false → s.mode.booting = false → s.mode.dormant = false → s.mode.hold ≠ 0 → s.modeOf = 3) ∧
  (∀ s : State, s.mode.rescue = false → s.mode.booting = false → s.mode.dormant = false → s.mode.hold = 0 →
    s.modeOf = if s.limited % 32 = 0 then 1 else 2) ∧
  (∀ (s : State) (m : Mode), ({ s with mode := m } : State).limited = s.limited)

/-- The register tables' reset values (01 R13; 02 R43–R47; 03 R66; 13 R390; 15 R435; 16 R460): MODE is BOOT, every mailbox shows BUSY,
no error, no abort, PWR_STEEP 60 s, FST_BOOT.SLOT 3, FST_WAIT 15 at 100 MHz, nothing waits. -/
def Obligations.ResetValues : Prop :=
  (∀ g, State.reset.fnStatusWord g % 256 = 0 ∧ State.reset.mbxWord g = 1 ∧ (State.reset.fn g).ctrl = 0 ∧
    (State.reset.fn g).err = 0 ∧ (State.reset.fn g).errAddrWord = 0 ∧ (State.reset.fn g).abortWord = 0) ∧
  (∀ g qid, State.reset.q g qid = none) ∧ State.reset.limited = 0 ∧
  State.reset.pwrWord 0x00 = 0 ∧ State.reset.pwrWord 0x08 = 0 ∧ State.reset.pwrWord 0x10 = 0 ∧ State.reset.pwrWord 0x18 = 60 ∧
  State.reset.pwrWord 0x20 = 0 ∧ State.reset.pwrWord 0x28 = 0 ∧ State.reset.pwrWord 0x30 = 0 ∧
  (∀ c off, (State.reset.chan c).word off = 0) ∧
  State.reset.fstWord 0x00 % 2 ^ 13 = 3 ∧ State.reset.fstWord 0x08 = 15 + 16 * 3 ∧ State.reset.fstWord 0x10 = 0 ∧
  State.reset.ledWord 0x00 = 0 ∧ State.reset.ledWord 0x08 = 0 ∧ State.reset.ledWord 0x10 = 0 ∧
  (∀ k off, State.reset.mlkWord k off = 0) ∧ State.reset.pending = []

/-- Reset memory has the canonical form. -/
def Obligations.ResetMemory : Prop := State.reset.memOk

/-- 13 R378, R379: every step keeps DRAM in its canonical form, whatever the command. -/
def Obligations.StepsKeepMemory : Prop := ∀ (s t : State), s.memOk → step s = .next t → t.memOk
end

