-- ==== Sys2Proof/Laws/Tbl.lean ====
section
/-! SUPPORT. Reading a table after a write: the entry written holds the value, every other entry stands. -/

namespace Sys2Proof

@[simp] theorem tfind_nil {α : Type} (k : Nat) : tfind ([] : Tbl α) k = none := rfl

theorem tfind_cons {α : Type} (j : Nat) (v : α) (r : Tbl α) (k : Nat) :
    tfind ((j, v) :: r) k = if j = k then some v else tfind r k := rfl

@[simp] theorem tfind_tset_same {α : Type} (t : Tbl α) (k : Nat) (v : α) : tfind (tset t k v) k = some v := by
  induction t with
  | nil => simp [tset, tfind]
  | cons p r ih =>
    obtain ⟨j, w⟩ := p
    unfold tset
    split
    · simp [tfind]
    · split
      · simp [tfind]
      · rename_i h
        simp [tfind, ih, Ne.symm h]

theorem tfind_tset_other {α : Type} (t : Tbl α) (k k' : Nat) (v : α) (h : k' ≠ k) :
    tfind (tset t k v) k' = tfind t k' := by
  induction t with
  | nil => simp [tset, tfind, Ne.symm h]
  | cons p r ih =>
    obtain ⟨j, w⟩ := p
    unfold tset
    split
    · simp [tfind, Ne.symm h]
    · split
      · rename_i e
        subst e
        simp [tfind, Ne.symm h]
      · simp [tfind, ih]

@[simp] theorem tget_tset_same {α : Type} (t : Tbl α) (k : Nat) (v d : α) : tget (tset t k v) k d = v := by
  simp [tget]

theorem tget_tset_other {α : Type} (t : Tbl α) (k k' : Nat) (v d : α) (h : k' ≠ k) :
    tget (tset t k v) k' d = tget t k' d := by
  simp [tget, tfind_tset_other t k k' v h]

@[simp] theorem tget_nil {α : Type} (k : Nat) (d : α) : tget ([] : Tbl α) k d = d := rfl

@[simp] theorem tfind_tdel_same {α : Type} (t : Tbl α) (k : Nat) : tfind (tdel t k) k = none := by
  induction t with
  | nil => rfl
  | cons p r ih =>
    obtain ⟨j, w⟩ := p
    by_cases h : j = k
    · subst h
      simpa [tdel, List.filter_cons] using ih
    · simp [tdel, h, tfind]
      simpa [tdel] using ih

theorem tfind_tdel_other {α : Type} (t : Tbl α) (k k' : Nat) (h : k' ≠ k) : tfind (tdel t k) k' = tfind t k' := by
  induction t with
  | nil => rfl
  | cons p r ih =>
    obtain ⟨j, w⟩ := p
    by_cases e : j = k
    · subst e
      simp [tdel, tfind, Ne.symm h]
      simpa [tdel] using ih
    · simp [tdel, e, tfind]
      simpa [tdel] using congrArg (fun x => if j = k' then some w else x) ih

theorem tget_tdel_other {α : Type} (t : Tbl α) (k k' : Nat) (d : α) (h : k' ≠ k) : tget (tdel t k) k' d = tget t k' d := by
  simp [tget, tfind_tdel_other t k k' h]

@[simp] theorem tfind_tmap {α β : Type} (t : Tbl α) (f : Nat → α → β) (k : Nat) :
    tfind (tmap t f) k = (tfind t k).map (f k) := by
  induction t with
  | nil => rfl
  | cons p r ih =>
    obtain ⟨j, w⟩ := p
    by_cases h : j = k
    · subst h
      simp [tmap, tfind]
    · simp only [tmap, List.map_cons, tfind, h, if_false]
      simpa [tmap] using ih

end Sys2Proof
end

