-- ==== Sys2Proof/Laws/Mem.lean ====
section
/-! SUPPORT. Byte memories: read after write, and every operation keeps the canonical form. -/

namespace Sys2Proof

theorem memByte_nil (a : Nat) : memByte [] a = Memory.unlisted := rfl

theorem memByte_cons (k : Nat) (c : Byte) (r : Memory) (a : Nat) :
    memByte ((k, c) :: r) a = if k = a then c else memByte r a := by
  simp only [memByte, tget, tfind]
  split <;> rfl

/-- Below every listed address a memory reads as unlisted. -/
theorem memByte_below (m : Memory) (lo : Option Nat) (a : Nat) (h : memWfFrom lo m = true)
    (ha : ∀ l, lo = some l → a ≤ l) (hn : lo ≠ none) : memByte m a = Memory.unlisted := by
  induction m generalizing lo with
  | nil => rfl
  | cons p r ih =>
    obtain ⟨k, c⟩ := p
    cases lo with
    | none => exact absurd rfl hn
    | some l =>
      simp only [memWfFrom, Bool.and_eq_true, decide_eq_true_eq] at h
      have hl := ha l rfl
      rw [memByte_cons, if_neg (by omega)]
      exact ih (some k) h.2 (fun x hx => by cases hx; omega) (by simp)

/-- The byte written reads back, in a memory of canonical form. -/
theorem memByte_memSet_same (m : Memory) (lo : Option Nat) (a : Nat) (b : Byte) (h : memWfFrom lo m = true) :
    memByte (memSet m a b) a = b := by
  induction m generalizing lo with
  | nil =>
    unfold memSet
    split
    · simp_all [memByte_nil]
    · simp [memByte_cons]
  | cons p r ih =>
    obtain ⟨k, c⟩ := p
    simp only [memWfFrom, Bool.and_eq_true, decide_eq_true_eq] at h
    have hr := h.2
    unfold memSet
    split
    · split
      · rw [memByte_cons, if_neg (by omega)]
        rename_i hb
        rw [hb]
        exact memByte_below r (some k) a hr (fun x hx => by cases hx; omega) (by simp)
      · simp [memByte_cons]
    · split
      · split
        · rename_i he hb
          rw [hb]
          exact memByte_below r (some k) a hr (fun x hx => by cases hx; omega) (by simp)
        · simp [memByte_cons]
      · rename_i h1 h2
        rw [memByte_cons, if_neg (by omega)]
        exact ih (some k) hr

/-- A write of one byte leaves every other byte. -/
theorem memByte_memSet_other (m : Memory) (a a' : Nat) (b : Byte) (h : a' ≠ a) :
    memByte (memSet m a b) a' = memByte m a' := by
  induction m with
  | nil =>
    unfold memSet
    split
    · rfl
    · simp [memByte_cons, Ne.symm h, memByte_nil]
  | cons p r ih =>
    obtain ⟨k, c⟩ := p
    unfold memSet
    split
    · split
      · rfl
      · rw [memByte_cons, if_neg (Ne.symm h)]
    · split
      · rename_i he
        subst he
        split
        · rw [memByte_cons, if_neg (Ne.symm h)]
        · rw [memByte_cons, memByte_cons, if_neg (Ne.symm h), if_neg (Ne.symm h)]
      · rw [memByte_cons, memByte_cons, ih]

theorem memWfFrom_weaken (m : Memory) (l l' : Nat) (h : memWfFrom (some l) m = true) (hl : l' ≤ l) :
    memWfFrom (some l') m = true := by
  cases m with
  | nil => rfl
  | cons p r =>
    obtain ⟨k, c⟩ := p
    simp only [memWfFrom, Bool.and_eq_true, decide_eq_true_eq] at h ⊢
    exact ⟨⟨by omega, h.1.2⟩, h.2⟩

theorem memWfFrom_memSet (m : Memory) (lo : Option Nat) (a : Nat) (b : Byte) (h : memWfFrom lo m = true)
    (ha : ∀ l, lo = some l → l < a) : memWfFrom lo (memSet m a b) = true := by
  induction m generalizing lo with
  | nil =>
    unfold memSet
    split
    · rfl
    · cases lo with
      | none => simp_all [memWfFrom]
      | some l => simp_all [memWfFrom]
  | cons p r ih =>
    obtain ⟨k, c⟩ := p
    have h' := h
    simp only [memWfFrom, Bool.and_eq_true, decide_eq_true_eq] at h
    unfold memSet
    split
    · split
      · exact h'
      · rename_i hlt hb
        cases lo with
        | none => simp [memWfFrom, hb, hlt, h.1.2, h.2]
        | some l =>
          have := ha l rfl
          simp [memWfFrom, hb, hlt, h.1.2, h.2, this]
    · split
      · split
        · cases lo with
          | none =>
            cases r with
            | nil => rfl
            | cons q r' =>
              obtain ⟨k', c'⟩ := q
              have h2 := h.2
              simp only [memWfFrom, Bool.and_eq_true, decide_eq_true_eq] at h2 ⊢
              exact ⟨⟨trivial, h2.1.2⟩, h2.2⟩
          | some l =>
            have := ha l rfl
            exact memWfFrom_weaken r k l h.2 (by omega)
        · rename_i he hb
          subst he
          cases lo with
          | none => simp [memWfFrom, hb, h.2]
          | some l =>
            have := ha l rfl
            simp [memWfFrom, hb, h.2, this]
      · rename_i h1 h2
        have hk : k < a := by omega
        have := ih (some k) h.2 (fun l hl => by cases hl; exact hk)
        cases lo with
        | none => simp [memWfFrom, h.1.2, this]
        | some l =>
          have hlk := h.1.1
          simp [memWfFrom, h.1.2, this, hlk]

/-- A byte write keeps the canonical form. -/
@[simp] theorem memSet_wf (m : Memory) (a : Nat) (b : Byte) (h : m.wf = true) : Memory.wf (memSet m a b) = true :=
  memWfFrom_memSet m none a b h (fun _ hl => by cases hl)

/-- A write of bytes keeps the canonical form. -/
@[simp] theorem memWrite_wf (m : Memory) (a : Nat) (l : List Byte) (h : m.wf = true) : Memory.wf (memWrite m a l) = true := by
  induction l generalizing m a with
  | nil => exact h
  | cons b r ih => exact ih (memSet m a b) (a + 1) (memSet_wf m a b h)

/-- A write of bytes leaves every byte outside them. -/
theorem memByte_memWrite_other (m : Memory) (a a' : Nat) (l : List Byte) (h : a' < a ∨ a + l.length ≤ a') :
    memByte (memWrite m a l) a' = memByte m a' := by
  induction l generalizing m a with
  | nil => rfl
  | cons b r ih =>
    simp only [List.length_cons] at h
    rw [memWrite, ih (memSet m a b) (a + 1) (by omega)]
    exact memByte_memSet_other m a a' b (by omega)

/-- The bytes written read back, in a memory of canonical form. -/
theorem memByte_memWrite_same (m : Memory) (a i : Nat) (l : List Byte) (h : m.wf = true) (hi : i < l.length) :
    memByte (memWrite m a l) (a + i) = l[i] := by
  induction l generalizing m a i with
  | nil => simp at hi
  | cons b r ih =>
    cases i with
    | zero =>
      rw [memWrite, memByte_memWrite_other _ _ _ _ (by omega)]
      simpa using memByte_memSet_same m none a b h
    | succ n =>
      simp only [List.length_cons] at hi
      have := ih (memSet m a b) (a + 1) n (memSet_wf m a b h) (by omega)
      rw [memWrite, show a + (n + 1) = a + 1 + n by omega, this]
      rfl

theorem memRead_length (m : Memory) (a n : Nat) : (memRead m a n).length = n := by
  induction n generalizing a with
  | zero => rfl
  | succ n ih => simp [memRead, ih]

/-- Reading back what was written. -/
theorem memRead_memWrite (m : Memory) (a : Nat) (l : List Byte) (h : m.wf = true) :
    memRead (memWrite m a l) a l.length = l := by
  induction l generalizing m a with
  | nil => rfl
  | cons b r ih =>
    simp only [List.length_cons, memRead, memWrite]
    rw [ih (memSet m a b) (a + 1) (memSet_wf m a b h), memByte_memWrite_other _ _ _ _ (by omega)]
    congr 1
    exact memByte_memSet_same m none a b h

end Sys2Proof
end

