-- ==== Sys2Proof/Laws/Ops.lean ====
section
/-! SUPPORT. What the shared operations can do: functions, interrupts, mailbox replies, fixed results. -/

namespace Sys2Proof.Machine

/-! ### Functions -/

@[simp] theorem isPf_fns (s : State) (t : Tbl Fn) (g : Nat) : ({ s with fns := t } : State).isPf g = s.isPf g := rfl

theorem fn_modFn_same (s : State) (g : Nat) (f : Fn → Fn) : (s.modFn g f).fn g = f (s.fn g) := by
  simp [State.modFn, State.fn, tget_tset_same]

theorem fn_modFn_other (s : State) (g g' : Nat) (f : Fn → Fn) (h : g' ≠ g) : (s.modFn g f).fn g' = s.fn g' := by
  simp only [State.modFn, State.fn]
  exact tget_tset_other _ _ _ _ _ h

theorem modFn_fns (s : State) (g : Nat) (f : Fn → Fn) : s.modFn g f = { s with fns := (s.modFn g f).fns } := rfl

/-- Two states differ only in what goes out and in the functions, and a function only in FN_ERR with its address and in
its vectors: what interrupts and sticky errors may change (02 R44, R47, R51). -/
def onlyIrq (s t : State) : Prop :=
  t = { s with out := t.out, fns := t.fns } ∧
  ∀ g, t.fn g = { s.fn g with err := (t.fn g).err, errOff := (t.fn g).errOff, errBar := (t.fn g).errBar, vecs := (t.fn g).vecs }

theorem onlyIrq_refl (s : State) : onlyIrq s s := ⟨rfl, fun _ => rfl⟩

theorem onlyIrq_trans {s t u : State} (h : onlyIrq s t) (k : onlyIrq t u) : onlyIrq s u := by
  obtain ⟨h1, h2⟩ := h
  obtain ⟨k1, k2⟩ := k
  refine ⟨?_, fun g => ?_⟩
  · rw [k1, h1]
  · rw [k2 g, h2 g]

theorem onlyIrq_emit (s : State) (o : Output) : onlyIrq s (s.emit o) := ⟨rfl, fun _ => rfl⟩

theorem onlyIrq_modFn (s : State) (g : Nat) (f : Fn → Fn)
    (h : ∀ x : Fn, f x = { x with err := (f x).err, errOff := (f x).errOff, errBar := (f x).errBar, vecs := (f x).vecs }) :
    onlyIrq s (s.modFn g f) := by
  refine ⟨rfl, fun g' => ?_⟩
  by_cases e : g' = g
  · subst e
    rw [fn_modFn_same]
    exact h _
  · rw [fn_modFn_other s g g' f e]

theorem msixSend_onlyIrq (s : State) (g v : Nat) : onlyIrq s (s.msixSend g v) := by
  unfold State.msixSend
  refine onlyIrq_trans (t := if s.dmaOk g then s.emit _ else s) ?_ (onlyIrq_modFn _ _ _ (fun _ => rfl))
  split
  · exact onlyIrq_emit _ _
  · exact onlyIrq_refl _

theorem msixCore_onlyIrq (s : State) (g v : Nat) : onlyIrq s (s.msixCore g v) := by
  unfold State.msixCore
  dsimp only
  split
  · exact onlyIrq_modFn _ _ _ (fun _ => rfl)
  · split
    · exact onlyIrq_modFn _ _ _ (fun _ => rfl)
    · exact msixSend_onlyIrq _ _ _

/-- A sticky error bit touches nothing but FN_ERR and vector 0 of its function (02 R44, R47). -/
theorem errSet_onlyIrq (s : State) (g bit : Nat) : onlyIrq s (s.errSet g bit) := by
  unfold State.errSet
  dsimp only
  split
  · exact onlyIrq_refl _
  · refine onlyIrq_trans (onlyIrq_modFn s g (fun f => { f with err := f.err ||| (1#10 <<< bit) }) (fun _ => rfl)) ?_
    split
    · refine onlyIrq_trans ?_ (msixCore_onlyIrq _ _ _)
      split
      · exact onlyIrq_modFn _ _ _ (fun _ => rfl)
      · exact onlyIrq_refl _
    · exact onlyIrq_refl _

/-- A message that is due touches nothing but what goes out, vectors and FN_ERR (02 R51). -/
theorem msixDue_onlyIrq (s : State) (g v : Nat) : onlyIrq s (s.msixDue g v) := by
  unfold State.msixDue
  refine onlyIrq_trans (t := if s.msixNoAddr g v then s.errSet g 6 else s) ?_ (msixCore_onlyIrq _ _ _)
  split
  · exact errSet_onlyIrq _ _ _
  · exact onlyIrq_refl _

theorem errAccess_onlyIrq (s : State) (g bit bar off : Nat) : onlyIrq s (s.errAccess g bit bar off) := by
  unfold State.errAccess
  dsimp only
  refine onlyIrq_trans ?_ (errSet_onlyIrq _ _ _)
  split
  · exact onlyIrq_modFn _ _ _ (fun _ => rfl)
  · exact onlyIrq_refl _

theorem releaseVec_onlyIrq (s : State) (g v : Nat) : onlyIrq s (s.releaseVec g v) := by
  unfold State.releaseVec
  split
  · exact msixDue_onlyIrq _ _ _
  · exact onlyIrq_refl _

/-! ### Replies -/

/-- A reply to a function writes its response buffer and ends its conversation; besides, only interrupts move
(06 R163). -/
theorem replyWith_some (s : State) (g : Nat) (r : Req) (fl st d : Nat) (p : List Byte) :
    onlyIrq (s.modFn g (fun f => { f with
      respBuf := memWrite f.respBuf 0 (replyBytes r fl st d p),
      mbDone := true, mbSeq := BitVec.ofNat 16 r.seq, mbBusy := false, mbRelayed := false, req := none, wait := none,
      torn := false })) (s.replyWith (some g) r fl st d p) := by
  unfold State.replyWith
  dsimp only
  split
  · exact msixDue_onlyIrq _ _ _
  · exact onlyIrq_refl _

/-- Two states agree in what mailboxes show and hold, and what went out stays (06 R163). -/
def keepsMail (s t : State) : Prop :=
  (∀ g, (t.fn g).mbBusy = (s.fn g).mbBusy ∧ (t.fn g).mbRelayed = (s.fn g).mbRelayed ∧ (t.fn g).mbDone = (s.fn g).mbDone ∧
    (t.fn g).mbSeq = (s.fn g).mbSeq ∧ (t.fn g).req = (s.fn g).req ∧ (t.fn g).respBuf = (s.fn g).respBuf) ∧
  t.adm.oob = s.adm.oob ∧ s.out <+: t.out

theorem keepsMail_refl (s : State) : keepsMail s s := ⟨fun _ => ⟨rfl, rfl, rfl, rfl, rfl, rfl⟩, rfl, List.prefix_rfl⟩

theorem keepsMail_trans {s t u : State} (h : keepsMail s t) (k : keepsMail t u) : keepsMail s u := by
  obtain ⟨h1, h2, h3⟩ := h
  obtain ⟨k1, k2, k3⟩ := k
  refine ⟨fun g => ?_, k2.trans h2, h3.trans k3⟩
  have a := h1 g
  have b := k1 g
  exact ⟨b.1.trans a.1, b.2.1.trans a.2.1, b.2.2.1.trans a.2.2.1, b.2.2.2.1.trans a.2.2.2.1,
    b.2.2.2.2.1.trans a.2.2.2.2.1, b.2.2.2.2.2.trans a.2.2.2.2.2⟩

theorem keepsMail_modFn (s : State) (g : Nat) (f : Fn → Fn)
    (h : ∀ x : Fn, (f x).mbBusy = x.mbBusy ∧ (f x).mbRelayed = x.mbRelayed ∧ (f x).mbDone = x.mbDone ∧ (f x).mbSeq = x.mbSeq ∧
      (f x).req = x.req ∧ (f x).respBuf = x.respBuf) : keepsMail s (s.modFn g f) := by
  refine ⟨fun g' => ?_, rfl, List.prefix_rfl⟩
  by_cases e : g' = g
  · subst e
    rw [fn_modFn_same]
    exact h _
  · rw [fn_modFn_other s g g' f e]
    exact ⟨rfl, rfl, rfl, rfl, rfl, rfl⟩

theorem keepsMail_emit (s : State) (o : Output) : keepsMail s (s.emit o) :=
  ⟨fun _ => ⟨rfl, rfl, rfl, rfl, rfl, rfl⟩, rfl, List.prefix_append _ _⟩

theorem msixSend_keepsMail (s : State) (g v : Nat) : keepsMail s (s.msixSend g v) := by
  unfold State.msixSend
  refine keepsMail_trans (t := if s.dmaOk g then s.emit _ else s) ?_
    (keepsMail_modFn _ _ _ (fun _ => ⟨rfl, rfl, rfl, rfl, rfl, rfl⟩))
  split
  · exact keepsMail_emit _ _
  · exact keepsMail_refl _

theorem msixCore_keepsMail (s : State) (g v : Nat) : keepsMail s (s.msixCore g v) := by
  unfold State.msixCore
  dsimp only
  split
  · exact keepsMail_modFn _ _ _ (fun _ => ⟨rfl, rfl, rfl, rfl, rfl, rfl⟩)
  · split
    · exact keepsMail_modFn _ _ _ (fun _ => ⟨rfl, rfl, rfl, rfl, rfl, rfl⟩)
    · exact msixSend_keepsMail _ _ _

theorem errSet_keepsMail (s : State) (g bit : Nat) : keepsMail s (s.errSet g bit) := by
  unfold State.errSet
  dsimp only
  split
  · exact keepsMail_refl _
  · refine keepsMail_trans (keepsMail_modFn s g (fun f => { f with err := f.err ||| (1#10 <<< bit) })
      (fun _ => ⟨rfl, rfl, rfl, rfl, rfl, rfl⟩)) ?_
    split
    · refine keepsMail_trans ?_ (msixCore_keepsMail _ _ _)
      split
      · exact keepsMail_modFn _ _ _ (fun _ => ⟨rfl, rfl, rfl, rfl, rfl, rfl⟩)
      · exact keepsMail_refl _
    · exact keepsMail_refl _

theorem msixDue_keepsMail (s : State) (g v : Nat) : keepsMail s (s.msixDue g v) := by
  unfold State.msixDue
  refine keepsMail_trans (t := if s.msixNoAddr g v then s.errSet g 6 else s) ?_ (msixCore_keepsMail _ _ _)
  split
  · exact errSet_keepsMail _ _ _
  · exact keepsMail_refl _

/-- An asynchronous event leaves every mailbox as it is (06 R186). -/
theorem asyncPost_keepsMail (s : State) (g code nsid arg st : Nat) : keepsMail s (s.asyncPost g code nsid arg st) := by
  have k : ∀ f : Fn → Fn, (∀ x : Fn, (f x).mbBusy = x.mbBusy ∧ (f x).mbRelayed = x.mbRelayed ∧ (f x).mbDone = x.mbDone ∧
      (f x).mbSeq = x.mbSeq ∧ (f x).req = x.req ∧ (f x).respBuf = x.respBuf) → ∀ c : Bool,
      keepsMail s (if c then (s.modFn g f).msixDue g 0 else s.modFn g f) := by
    intro f hf c
    have a := keepsMail_modFn s g f hf
    generalize s.modFn g f = m at a ⊢
    split
    · exact keepsMail_trans a (msixDue_keepsMail m g 0)
    · exact a
  exact k (fun f => { f with
      alog := asyncAdd f.alog { code := code, count := (s.fn g).acount, nsid := nsid, arg := arg, st := st, time := s.bootUs }
      acount := f.acount + 1 }) (fun _ => ⟨rfl, rfl, rfl, rfl, rfl, rfl⟩) ((s.fn g).ctrl.getLsbD 2)

theorem asyncAll_keepsMail (s : State) (l : List Nat) (code nsid arg st : Nat) : keepsMail s (s.asyncAll l code nsid arg st) := by
  unfold State.asyncAll
  induction l generalizing s with
  | nil => exact keepsMail_refl s
  | cons g r ih => exact keepsMail_trans (asyncPost_keepsMail s g code nsid arg st) (ih _)

theorem asyncFree_keepsMail (s : State) (l : List Nat) (code nsid : Nat) : keepsMail s (s.asyncFree l code nsid) :=
  asyncAll_keepsMail { s with freeCtr := s.freeCtr + 1 } l code nsid _ _

theorem reply_eq (s : State) (src : Src) (r : Req) (st d : Nat) (p : List Byte) (h : s.reqOf src = some r) :
    s.reply src st d p = s.replyWith src r 0 st d p := by
  simp [State.reply, h]

/-- What a reply leaves with its sender (02 R46; 06 R163, R164, R192). -/
theorem reply_answered (s : State) (src : Src) (r : Req) (st d : Nat) (p : List Byte) (h : s.reqOf src = some r) :
    State.answered s (s.reply src st d p) src r st d p := by
  rw [reply_eq s src r st d p h]
  cases src with
  | some g =>
    have k := (replyWith_some s g r 0 st d p).2 g
    rw [fn_modFn_same] at k
    generalize s.replyWith (some g) r 0 st d p = t at k ⊢
    unfold State.answered
    simp only
    rw [k]
    simp
  | none => exact ⟨List.infix_append' _ _ [] |> fun h => by simpa [State.replyWith, State.mctpSend] using h, rfl⟩

/-- A reply stays through whatever leaves the mailboxes. -/
theorem answered_keepsMail {s t u : State} {src : Src} {r : Req} {st d : Nat} {p : List Byte}
    (h : State.answered s t src r st d p) (k : keepsMail t u) : State.answered s u src r st d p := by
  obtain ⟨k1, k2, k3⟩ := k
  cases src with
  | some g =>
    obtain ⟨h1, h2, h3, h4, h5, h6⟩ := h
    obtain ⟨a1, a2, a3, a4, a5, a6⟩ := k1 g
    exact ⟨a1.trans h1, a2.trans h2, a3.trans h3, a4.trans h4, a5.trans h5, a6.trans h6⟩
  | none => exact ⟨h.1.trans k3.isInfix, k2.trans h.2⟩

/-- A reply is the same reply from any state with the same mailboxes. -/
theorem answered_from {s s' t : State} {src : Src} {r : Req} {st d : Nat} {p : List Byte}
    (h : State.answered s' t src r st d p) (k : ∀ g, (s'.fn g).respBuf = (s.fn g).respBuf) :
    State.answered s t src r st d p := by
  cases src with
  | some g =>
    obtain ⟨h1, h2, h3, h4, h5, h6⟩ := h
    exact ⟨h1, h2, h3, h4, h5, by rw [h6, k g]⟩
  | none => exact h

/-- A reply changes nothing but functions, what goes out, and what the MCTP endpoint serves. -/
theorem reply_frame (s : State) (src : Src) (st d : Nat) (p : List Byte) :
    s.reply src st d p = { s with out := (s.reply src st d p).out, fns := (s.reply src st d p).fns,
                                  adm := (s.reply src st d p).adm } := by
  unfold State.reply
  split
  · cases src with
    | some g =>
      have := (replyWith_some s g ‹Req› 0 st d p).1
      rw [this]
      rfl
    | none => rfl
  · rfl

/-- Another function's mailbox and state stay through a reply to a function, its vectors and errors apart. -/
theorem reply_other (s : State) (g g' : Nat) (st d : Nat) (p : List Byte) (h : g' ≠ g) :
    ∃ e o b v, (s.reply (some g) st d p).fn g' = { s.fn g' with err := e, errOff := o, errBar := b, vecs := v } := by
  unfold State.reply
  split
  · have k := (replyWith_some s g ‹Req› 0 st d p).2 g'
    rw [fn_modFn_other _ _ _ _ h] at k
    exact ⟨_, _, _, _, k⟩
  · exact ⟨_, _, _, _, rfl⟩

/-- A request that stands is taken by its message's own rules (06 R163, R165). -/
theorem serve_stands (s : State) (src : Src) (r : Req) (typ need : Nat) (fields : List (Nat × Nat)) (k : State → Req → State)
    (h : s.stands src r typ need) (hf : ∀ f ∈ fields, f.1 + f.2 ≤ need) : s.serve src typ fields k = k (s.tookTurn src) r := by
  obtain ⟨h1, h3, h4, h4t, h4u, h5, h6, h7⟩ := h
  have hs : shortAt r.len fields = none := by
    simp only [shortAt, Option.map_eq_none_iff, List.find?_eq_none, decide_eq_true_eq, Nat.not_lt]
    intro f hf'
    have := hf f hf'
    omega
  have hn : ¬ (4080 < r.len) := by omega
  have h1' : (s.tookTurn src).reqOf src = some r := by rw [← h1]; cases src <;> rfl
  have h4' : (s.tookTurn src).tornOf src = false := by rw [← h4u]; cases src <;> rfl
  unfold State.serve
  subst h3
  simp [h1, h1', h4, h4t, h4u, h4', h5, hs, hn]

/-! ### Slots -/

@[simp] theorem slot_setSlot_same (s : State) (i : Nat) (x : Slot) : (s.setSlot i x).slot i = some x := by
  simp [State.setSlot, State.slot]

theorem slot_setSlot_other (s : State) (i j : Nat) (x : Slot) (h : j ≠ i) : (s.setSlot i x).slot j = s.slot j := by
  simp [State.setSlot, State.slot, tfind_tset_other _ _ _ _ h]

/-! ### Buffers and lanes that commands hold (01 R18; 11 R345) -/

/-- Allocating a buffer changes a command's slot in its buffers alone. -/
theorem takeBuf_slot (s : State) (o : Nat) (r : BufReq) (n idx j : Nat) (y : Slot) (h : s.slot j = some y) :
    ∃ l, (s.takeBuf o r n idx).slot j = some { y with bufs := l } := by
  unfold State.takeBuf
  dsimp only
  split
  · exact ⟨y.bufs, h⟩
  · rename_i i k _
    split
    · exact ⟨y.bufs, h⟩
    · rename_i x hx
      by_cases e : j = i
      · subst e
        have hy : x = y := Option.some.inj (hx.symm.trans h)
        subst hy
        exact ⟨_, slot_setSlot_same _ _ _⟩
      · exact ⟨y.bufs, (slot_setSlot_other _ _ _ _ e).trans h⟩

/-- Allocating a buffer moves the vat and slots alone. -/
theorem takeBuf_frame (s : State) (o : Nat) (r : BufReq) (n idx : Nat) :
    s.takeBuf o r n idx = { s with vat := (s.takeBuf o r n idx).vat, sub := (s.takeBuf o r n idx).sub } := by
  unfold State.takeBuf State.setSlot
  dsimp only
  split
  · rfl
  · split <;> rfl

/-- A buffer that goes back changes a command's slot in its buffers alone: it may be granted to a request that waits. -/
theorem bufBack_slot (s : State) (h j : Nat) (y : Slot) (hy : s.slot j = some y) :
    ∃ l, (s.bufBack h).slot j = some { y with bufs := l } := by
  unfold State.bufBack
  dsimp only
  split
  · unfold State.freeBuf State.vatOffer
    dsimp only
    split
    · exact ⟨y.bufs, hy⟩
    · split
      · exact ⟨y.bufs, hy⟩
      · exact takeBuf_slot _ _ _ _ _ _ _ hy
  · exact ⟨y.bufs, hy⟩

/-- A buffer that goes back moves the vat and slots alone. -/
theorem bufBack_frame (s : State) (h : Nat) : s.bufBack h = { s with vat := (s.bufBack h).vat, sub := (s.bufBack h).sub } := by
  unfold State.bufBack
  dsimp only
  split
  · unfold State.freeBuf State.vatOffer
    dsimp only
    split
    · rfl
    · split
      · rfl
      · rw [takeBuf_frame]
  · rfl

/-- A command's buffers go back: every slot changes in its buffers alone. -/
theorem bufsBack_slot (s : State) (i j : Nat) (x y : Slot) (h : s.slot j = some y) :
    ∃ l, (s.bufsBack i x).slot j = some { y with bufs := l } := by
  unfold State.bufsBack
  have key : ∀ (bs : Tbl Nat) (t : State) (m : Tbl Nat), t.slot j = some { y with bufs := m } →
      ∃ l, (bs.foldl (fun s p => s.bufBack p.2) t).slot j = some { y with bufs := l } := by
    intro bs
    induction bs with
    | nil => intro t m ht; exact ⟨m, ht⟩
    | cons p bs ih =>
      intro t m ht
      obtain ⟨l, hl⟩ := bufBack_slot t p.2 j _ ht
      exact ih _ l hl
  exact key x.bufs _ y.bufs h

/-- They move the vat and slots alone. -/
theorem bufsBack_frame (s : State) (i : Nat) (x : Slot) :
    s.bufsBack i x = { s with vat := (s.bufsBack i x).vat, sub := (s.bufsBack i x).sub } := by
  unfold State.bufsBack
  have key : ∀ (bs : Tbl Nat) (t : State), bs.foldl (fun s p => s.bufBack p.2) t =
      { t with vat := (bs.foldl (fun s p => s.bufBack p.2) t).vat, sub := (bs.foldl (fun s p => s.bufBack p.2) t).sub } := by
    intro bs
    induction bs with
    | nil => intro t; rfl
    | cons p bs ih =>
      intro t
      rw [List.foldl_cons, ih, bufBack_frame]
  rw [key]

/-- A command leaves the lanes: nothing but they change. -/
theorem lanesLeave_frame (s : State) (i : Nat) : s.lanesLeave i = { s with cip := (s.lanesLeave i).cip } := by
  unfold State.lanesLeave
  split <;> rfl

/-- What fixing a result does to its slot, and what it leaves (08 R222). -/
theorem fix_slot (s : State) (i st : Nat) (r : BitVec 64) (x : Slot) (h : s.slot i = some x) (hp : x.phase ≠ .fixed) :
    ∃ l, (s.fix i st r).slot i = some { x with phase := .fixed, status := st, result := r, readyAt := s.sub.nextReady,
                                               adv := 0, resv := 0, stop := none, bufs := l } := by
  have e1 : ∀ t : State, ((t.dropAdvance x).dropReserve x).sub.nextReady = t.sub.nextReady := by
    intro t
    unfold State.dropReserve State.dropAdvance State.modZone
    dsimp only
    split <;> split <;> rfl
  unfold State.fix
  rw [h]
  dsimp only
  rw [if_neg hp]
  refine Exists.imp (fun l hl => hl) (bufsBack_slot _ i i x
    { x with phase := .fixed, status := st, result := r, readyAt := s.sub.nextReady, adv := 0, resv := 0, stop := none, bufs := [] } ?_)
  rw [lanesLeave_frame]
  refine (slot_setSlot_same _ _ _).trans ?_
  simp [e1]

theorem fix_fixedAs (s : State) (i st : Nat) (r : BitVec 64) (x : Slot) (h : s.slot i = some x) (hp : x.phase ≠ .fixed) :
    (s.fix i st r).fixedAs i st r :=
  let ⟨_, hl⟩ := fix_slot s i st r x h hp
  ⟨_, hl, rfl, rfl, rfl⟩

/-- Fixing a result touches the commands' slots, the waiters of hazard entries, what the command had reserved, and the buffers, lanes
and decoders that it leaves. -/
theorem fix_frame (s : State) (i st : Nat) (r : BitVec 64) :
    s.fix i st r = { s with sub := (s.fix i st r).sub, hz := (s.fix i st r).hz, zones := (s.fix i st r).zones,
                            media := (s.fix i st r).media, vat := (s.fix i st r).vat, ldp := (s.fix i st r).ldp,
                            cip := (s.fix i st r).cip } := by
  unfold State.fix
  split
  · rfl
  · dsimp only
    split
    · rfl
    · rw [bufsBack_frame, lanesLeave_frame]
      unfold State.dropReserve State.dropAdvance State.modZone State.setSlot
      dsimp only
      split <;> split <;> rfl

/-- Fixing a result that no zone sequence waits for leaves every other command's slot, but for a buffer that it may get. -/
theorem fix_other (s : State) (i j st : Nat) (r : BitVec 64) (x y : Slot) (hx : s.slot i = some x) (ha : x.adv = 0) (h : j ≠ i)
    (hy : s.slot j = some y) : ∃ l, (s.fix i st r).slot j = some { y with bufs := l } := by
  unfold State.fix
  rw [hx]
  dsimp only
  split
  · exact ⟨y.bufs, hy⟩
  · refine bufsBack_slot _ i j x y ?_
    rw [lanesLeave_frame]
    refine (slot_setSlot_other _ _ _ _ h).trans ?_
    unfold State.dropReserve State.dropAdvance State.slot
    simp only [ha]
    split <;> exact hy

/-! ### Queues -/

theorem q_modQ_same (s : State) (g qid : Nat) (f : Queue → Queue) : (s.modQ g qid f).q g qid = (s.q g qid).map f := by
  unfold State.modQ
  cases h : s.q g qid with
  | none => simp [h]
  | some q => simp [State.q]

theorem q_modQ_other (s : State) (g qid g' qid' : Nat) (f : Queue → Queue) (h : qkey g' qid' ≠ qkey g qid) :
    (s.modQ g qid f).q g' qid' = s.q g' qid' := by
  unfold State.modQ
  cases e : s.q g qid with
  | none => rfl
  | some q => simp [State.q, tfind_tset_other _ _ _ _ h]

theorem modQ_frame (s : State) (g qid : Nat) (f : Queue → Queue) : s.modQ g qid f = { s with qs := (s.modQ g qid f).qs } := by
  unfold State.modQ
  split <;> rfl

end Sys2Proof.Machine
end

