-- ==== Sys2Proof/Laws/State.lean ====
section
/-! SUPPORT. What each update of the state leaves: one lemma per update and field. -/

namespace Sys2Proof.Machine

/-! ### The memory of the block is written by the DRAM operations only -/

@[simp] theorem State.modChan_mem (s : State) (c : Nat) (f : Chan → Chan) : (s.modChan c f).drc.mem = s.drc.mem := rfl
@[simp] theorem State.fresh_value (s : State) : s.fresh.1 = Config.freeValue s.freeCtr := rfl
@[simp] theorem State.fresh_state (s : State) : s.fresh.2 = { s with freeCtr := s.freeCtr + 1 } := rfl

/-! ### `modFn` -/

theorem State.modFn_frame (s : State) (g : Nat) (f : Fn → Fn) : s.modFn g f = { s with fns := (s.modFn g f).fns } := rfl

@[simp] theorem State.modFn_pending (s : State) (g : Nat) (f : Fn → Fn) : (s.modFn g f).pending = s.pending := rfl
@[simp] theorem State.modFn_now (s : State) (g : Nat) (f : Fn → Fn) : (s.modFn g f).now = s.now := rfl
@[simp] theorem State.modFn_freeCtr (s : State) (g : Nat) (f : Fn → Fn) : (s.modFn g f).freeCtr = s.freeCtr := rfl
@[simp] theorem State.modFn_out (s : State) (g : Nat) (f : Fn → Fn) : (s.modFn g f).out = s.out := rfl
@[simp] theorem State.modFn_lastRead (s : State) (g : Nat) (f : Fn → Fn) : (s.modFn g f).lastRead = s.lastRead := rfl
@[simp] theorem State.modFn_mode (s : State) (g : Nat) (f : Fn → Fn) : (s.modFn g f).mode = s.mode := rfl
@[simp] theorem State.modFn_glb (s : State) (g : Nat) (f : Fn → Fn) : (s.modFn g f).glb = s.glb := rfl
@[simp] theorem State.modFn_par (s : State) (g : Nat) (f : Fn → Fn) : (s.modFn g f).par = s.par := rfl
@[simp] theorem State.modFn_adm (s : State) (g : Nat) (f : Fn → Fn) : (s.modFn g f).adm = s.adm := rfl
@[simp] theorem State.modFn_hif (s : State) (g : Nat) (f : Fn → Fn) : (s.modFn g f).hif = s.hif := rfl
@[simp] theorem State.modFn_qs (s : State) (g : Nat) (f : Fn → Fn) : (s.modFn g f).qs = s.qs := rfl
@[simp] theorem State.modFn_sub (s : State) (g : Nat) (f : Fn → Fn) : (s.modFn g f).sub = s.sub := rfl
@[simp] theorem State.modFn_hz (s : State) (g : Nat) (f : Fn → Fn) : (s.modFn g f).hz = s.hz := rfl
@[simp] theorem State.modFn_nss (s : State) (g : Nat) (f : Fn → Fn) : (s.modFn g f).nss = s.nss := rfl
@[simp] theorem State.modFn_zones (s : State) (g : Nat) (f : Fn → Fn) : (s.modFn g f).zones = s.zones := rfl
@[simp] theorem State.modFn_media (s : State) (g : Nat) (f : Fn → Fn) : (s.modFn g f).media = s.media := rfl
@[simp] theorem State.modFn_links (s : State) (g : Nat) (f : Fn → Fn) : (s.modFn g f).links = s.links := rfl
@[simp] theorem State.modFn_cip (s : State) (g : Nat) (f : Fn → Fn) : (s.modFn g f).cip = s.cip := rfl
@[simp] theorem State.modFn_vat (s : State) (g : Nat) (f : Fn → Fn) : (s.modFn g f).vat = s.vat := rfl
@[simp] theorem State.modFn_ldp (s : State) (g : Nat) (f : Fn → Fn) : (s.modFn g f).ldp = s.ldp := rfl
@[simp] theorem State.modFn_hist (s : State) (g : Nat) (f : Fn → Fn) : (s.modFn g f).hist = s.hist := rfl
@[simp] theorem State.modFn_cal (s : State) (g : Nat) (f : Fn → Fn) : (s.modFn g f).cal = s.cal := rfl
@[simp] theorem State.modFn_drc (s : State) (g : Nat) (f : Fn → Fn) : (s.modFn g f).drc = s.drc := rfl
@[simp] theorem State.modFn_fst (s : State) (g : Nat) (f : Fn → Fn) : (s.modFn g f).fst = s.fst := rfl
@[simp] theorem State.modFn_led (s : State) (g : Nat) (f : Fn → Fn) : (s.modFn g f).led = s.led := rfl
@[simp] theorem State.modFn_pwr (s : State) (g : Nat) (f : Fn → Fn) : (s.modFn g f).pwr = s.pwr := rfl
@[simp] theorem State.modFn_brd (s : State) (g : Nat) (f : Fn → Fn) : (s.modFn g f).brd = s.brd := rfl

/-! ### `setPv` -/

theorem State.setPv_frame (s : State) (id v : Nat) : s.setPv id v = { s with par := (s.setPv id v).par } := rfl

@[simp] theorem State.setPv_pending (s : State) (id v : Nat) : (s.setPv id v).pending = s.pending := rfl
@[simp] theorem State.setPv_now (s : State) (id v : Nat) : (s.setPv id v).now = s.now := rfl
@[simp] theorem State.setPv_freeCtr (s : State) (id v : Nat) : (s.setPv id v).freeCtr = s.freeCtr := rfl
@[simp] theorem State.setPv_out (s : State) (id v : Nat) : (s.setPv id v).out = s.out := rfl
@[simp] theorem State.setPv_lastRead (s : State) (id v : Nat) : (s.setPv id v).lastRead = s.lastRead := rfl
@[simp] theorem State.setPv_mode (s : State) (id v : Nat) : (s.setPv id v).mode = s.mode := rfl
@[simp] theorem State.setPv_glb (s : State) (id v : Nat) : (s.setPv id v).glb = s.glb := rfl
@[simp] theorem State.setPv_adm (s : State) (id v : Nat) : (s.setPv id v).adm = s.adm := rfl
@[simp] theorem State.setPv_hif (s : State) (id v : Nat) : (s.setPv id v).hif = s.hif := rfl
@[simp] theorem State.setPv_fns (s : State) (id v : Nat) : (s.setPv id v).fns = s.fns := rfl
@[simp] theorem State.setPv_qs (s : State) (id v : Nat) : (s.setPv id v).qs = s.qs := rfl
@[simp] theorem State.setPv_sub (s : State) (id v : Nat) : (s.setPv id v).sub = s.sub := rfl
@[simp] theorem State.setPv_hz (s : State) (id v : Nat) : (s.setPv id v).hz = s.hz := rfl
@[simp] theorem State.setPv_nss (s : State) (id v : Nat) : (s.setPv id v).nss = s.nss := rfl
@[simp] theorem State.setPv_zones (s : State) (id v : Nat) : (s.setPv id v).zones = s.zones := rfl
@[simp] theorem State.setPv_media (s : State) (id v : Nat) : (s.setPv id v).media = s.media := rfl
@[simp] theorem State.setPv_links (s : State) (id v : Nat) : (s.setPv id v).links = s.links := rfl
@[simp] theorem State.setPv_cip (s : State) (id v : Nat) : (s.setPv id v).cip = s.cip := rfl
@[simp] theorem State.setPv_vat (s : State) (id v : Nat) : (s.setPv id v).vat = s.vat := rfl
@[simp] theorem State.setPv_ldp (s : State) (id v : Nat) : (s.setPv id v).ldp = s.ldp := rfl
@[simp] theorem State.setPv_hist (s : State) (id v : Nat) : (s.setPv id v).hist = s.hist := rfl
@[simp] theorem State.setPv_cal (s : State) (id v : Nat) : (s.setPv id v).cal = s.cal := rfl
@[simp] theorem State.setPv_drc (s : State) (id v : Nat) : (s.setPv id v).drc = s.drc := rfl
@[simp] theorem State.setPv_fst (s : State) (id v : Nat) : (s.setPv id v).fst = s.fst := rfl
@[simp] theorem State.setPv_led (s : State) (id v : Nat) : (s.setPv id v).led = s.led := rfl
@[simp] theorem State.setPv_pwr (s : State) (id v : Nat) : (s.setPv id v).pwr = s.pwr := rfl
@[simp] theorem State.setPv_brd (s : State) (id v : Nat) : (s.setPv id v).brd = s.brd := rfl

/-! ### `modPort` -/

theorem State.modPort_frame (s : State) (p : Nat) (f : Port → Port) : s.modPort p f = { s with hif := (s.modPort p f).hif } := rfl

@[simp] theorem State.modPort_pending (s : State) (p : Nat) (f : Port → Port) : (s.modPort p f).pending = s.pending := rfl
@[simp] theorem State.modPort_now (s : State) (p : Nat) (f : Port → Port) : (s.modPort p f).now = s.now := rfl
@[simp] theorem State.modPort_freeCtr (s : State) (p : Nat) (f : Port → Port) : (s.modPort p f).freeCtr = s.freeCtr := rfl
@[simp] theorem State.modPort_out (s : State) (p : Nat) (f : Port → Port) : (s.modPort p f).out = s.out := rfl
@[simp] theorem State.modPort_lastRead (s : State) (p : Nat) (f : Port → Port) : (s.modPort p f).lastRead = s.lastRead := rfl
@[simp] theorem State.modPort_mode (s : State) (p : Nat) (f : Port → Port) : (s.modPort p f).mode = s.mode := rfl
@[simp] theorem State.modPort_glb (s : State) (p : Nat) (f : Port → Port) : (s.modPort p f).glb = s.glb := rfl
@[simp] theorem State.modPort_par (s : State) (p : Nat) (f : Port → Port) : (s.modPort p f).par = s.par := rfl
@[simp] theorem State.modPort_adm (s : State) (p : Nat) (f : Port → Port) : (s.modPort p f).adm = s.adm := rfl
@[simp] theorem State.modPort_fns (s : State) (p : Nat) (f : Port → Port) : (s.modPort p f).fns = s.fns := rfl
@[simp] theorem State.modPort_qs (s : State) (p : Nat) (f : Port → Port) : (s.modPort p f).qs = s.qs := rfl
@[simp] theorem State.modPort_sub (s : State) (p : Nat) (f : Port → Port) : (s.modPort p f).sub = s.sub := rfl
@[simp] theorem State.modPort_hz (s : State) (p : Nat) (f : Port → Port) : (s.modPort p f).hz = s.hz := rfl
@[simp] theorem State.modPort_nss (s : State) (p : Nat) (f : Port → Port) : (s.modPort p f).nss = s.nss := rfl
@[simp] theorem State.modPort_zones (s : State) (p : Nat) (f : Port → Port) : (s.modPort p f).zones = s.zones := rfl
@[simp] theorem State.modPort_media (s : State) (p : Nat) (f : Port → Port) : (s.modPort p f).media = s.media := rfl
@[simp] theorem State.modPort_links (s : State) (p : Nat) (f : Port → Port) : (s.modPort p f).links = s.links := rfl
@[simp] theorem State.modPort_cip (s : State) (p : Nat) (f : Port → Port) : (s.modPort p f).cip = s.cip := rfl
@[simp] theorem State.modPort_vat (s : State) (p : Nat) (f : Port → Port) : (s.modPort p f).vat = s.vat := rfl
@[simp] theorem State.modPort_ldp (s : State) (p : Nat) (f : Port → Port) : (s.modPort p f).ldp = s.ldp := rfl
@[simp] theorem State.modPort_hist (s : State) (p : Nat) (f : Port → Port) : (s.modPort p f).hist = s.hist := rfl
@[simp] theorem State.modPort_cal (s : State) (p : Nat) (f : Port → Port) : (s.modPort p f).cal = s.cal := rfl
@[simp] theorem State.modPort_drc (s : State) (p : Nat) (f : Port → Port) : (s.modPort p f).drc = s.drc := rfl
@[simp] theorem State.modPort_fst (s : State) (p : Nat) (f : Port → Port) : (s.modPort p f).fst = s.fst := rfl
@[simp] theorem State.modPort_led (s : State) (p : Nat) (f : Port → Port) : (s.modPort p f).led = s.led := rfl
@[simp] theorem State.modPort_pwr (s : State) (p : Nat) (f : Port → Port) : (s.modPort p f).pwr = s.pwr := rfl
@[simp] theorem State.modPort_brd (s : State) (p : Nat) (f : Port → Port) : (s.modPort p f).brd = s.brd := rfl

/-! ### `modQ` -/

theorem State.modQ_frame (s : State) (g qid : Nat) (f : Queue → Queue) : s.modQ g qid f = { s with qs := (s.modQ g qid f).qs } := by
  unfold State.modQ; split <;> rfl

@[simp] theorem State.modQ_pending (s : State) (g qid : Nat) (f : Queue → Queue) : (s.modQ g qid f).pending = s.pending := by rw [State.modQ_frame]
@[simp] theorem State.modQ_now (s : State) (g qid : Nat) (f : Queue → Queue) : (s.modQ g qid f).now = s.now := by rw [State.modQ_frame]
@[simp] theorem State.modQ_freeCtr (s : State) (g qid : Nat) (f : Queue → Queue) : (s.modQ g qid f).freeCtr = s.freeCtr := by rw [State.modQ_frame]
@[simp] theorem State.modQ_out (s : State) (g qid : Nat) (f : Queue → Queue) : (s.modQ g qid f).out = s.out := by rw [State.modQ_frame]
@[simp] theorem State.modQ_lastRead (s : State) (g qid : Nat) (f : Queue → Queue) : (s.modQ g qid f).lastRead = s.lastRead := by rw [State.modQ_frame]
@[simp] theorem State.modQ_mode (s : State) (g qid : Nat) (f : Queue → Queue) : (s.modQ g qid f).mode = s.mode := by rw [State.modQ_frame]
@[simp] theorem State.modQ_glb (s : State) (g qid : Nat) (f : Queue → Queue) : (s.modQ g qid f).glb = s.glb := by rw [State.modQ_frame]
@[simp] theorem State.modQ_par (s : State) (g qid : Nat) (f : Queue → Queue) : (s.modQ g qid f).par = s.par := by rw [State.modQ_frame]
@[simp] theorem State.modQ_adm (s : State) (g qid : Nat) (f : Queue → Queue) : (s.modQ g qid f).adm = s.adm := by rw [State.modQ_frame]
@[simp] theorem State.modQ_hif (s : State) (g qid : Nat) (f : Queue → Queue) : (s.modQ g qid f).hif = s.hif := by rw [State.modQ_frame]
@[simp] theorem State.modQ_fns (s : State) (g qid : Nat) (f : Queue → Queue) : (s.modQ g qid f).fns = s.fns := by rw [State.modQ_frame]
@[simp] theorem State.modQ_sub (s : State) (g qid : Nat) (f : Queue → Queue) : (s.modQ g qid f).sub = s.sub := by rw [State.modQ_frame]
@[simp] theorem State.modQ_hz (s : State) (g qid : Nat) (f : Queue → Queue) : (s.modQ g qid f).hz = s.hz := by rw [State.modQ_frame]
@[simp] theorem State.modQ_nss (s : State) (g qid : Nat) (f : Queue → Queue) : (s.modQ g qid f).nss = s.nss := by rw [State.modQ_frame]
@[simp] theorem State.modQ_zones (s : State) (g qid : Nat) (f : Queue → Queue) : (s.modQ g qid f).zones = s.zones := by rw [State.modQ_frame]
@[simp] theorem State.modQ_media (s : State) (g qid : Nat) (f : Queue → Queue) : (s.modQ g qid f).media = s.media := by rw [State.modQ_frame]
@[simp] theorem State.modQ_links (s : State) (g qid : Nat) (f : Queue → Queue) : (s.modQ g qid f).links = s.links := by rw [State.modQ_frame]
@[simp] theorem State.modQ_cip (s : State) (g qid : Nat) (f : Queue → Queue) : (s.modQ g qid f).cip = s.cip := by rw [State.modQ_frame]
@[simp] theorem State.modQ_vat (s : State) (g qid : Nat) (f : Queue → Queue) : (s.modQ g qid f).vat = s.vat := by rw [State.modQ_frame]
@[simp] theorem State.modQ_ldp (s : State) (g qid : Nat) (f : Queue → Queue) : (s.modQ g qid f).ldp = s.ldp := by rw [State.modQ_frame]
@[simp] theorem State.modQ_hist (s : State) (g qid : Nat) (f : Queue → Queue) : (s.modQ g qid f).hist = s.hist := by rw [State.modQ_frame]
@[simp] theorem State.modQ_cal (s : State) (g qid : Nat) (f : Queue → Queue) : (s.modQ g qid f).cal = s.cal := by rw [State.modQ_frame]
@[simp] theorem State.modQ_drc (s : State) (g qid : Nat) (f : Queue → Queue) : (s.modQ g qid f).drc = s.drc := by rw [State.modQ_frame]
@[simp] theorem State.modQ_fst (s : State) (g qid : Nat) (f : Queue → Queue) : (s.modQ g qid f).fst = s.fst := by rw [State.modQ_frame]
@[simp] theorem State.modQ_led (s : State) (g qid : Nat) (f : Queue → Queue) : (s.modQ g qid f).led = s.led := by rw [State.modQ_frame]
@[simp] theorem State.modQ_pwr (s : State) (g qid : Nat) (f : Queue → Queue) : (s.modQ g qid f).pwr = s.pwr := by rw [State.modQ_frame]
@[simp] theorem State.modQ_brd (s : State) (g qid : Nat) (f : Queue → Queue) : (s.modQ g qid f).brd = s.brd := by rw [State.modQ_frame]

/-! ### `setSlot` -/

theorem State.setSlot_frame (s : State) (i : Nat) (x : Slot) : s.setSlot i x = { s with sub := (s.setSlot i x).sub } := rfl

@[simp] theorem State.setSlot_pending (s : State) (i : Nat) (x : Slot) : (s.setSlot i x).pending = s.pending := rfl
@[simp] theorem State.setSlot_now (s : State) (i : Nat) (x : Slot) : (s.setSlot i x).now = s.now := rfl
@[simp] theorem State.setSlot_freeCtr (s : State) (i : Nat) (x : Slot) : (s.setSlot i x).freeCtr = s.freeCtr := rfl
@[simp] theorem State.setSlot_out (s : State) (i : Nat) (x : Slot) : (s.setSlot i x).out = s.out := rfl
@[simp] theorem State.setSlot_lastRead (s : State) (i : Nat) (x : Slot) : (s.setSlot i x).lastRead = s.lastRead := rfl
@[simp] theorem State.setSlot_mode (s : State) (i : Nat) (x : Slot) : (s.setSlot i x).mode = s.mode := rfl
@[simp] theorem State.setSlot_glb (s : State) (i : Nat) (x : Slot) : (s.setSlot i x).glb = s.glb := rfl
@[simp] theorem State.setSlot_par (s : State) (i : Nat) (x : Slot) : (s.setSlot i x).par = s.par := rfl
@[simp] theorem State.setSlot_adm (s : State) (i : Nat) (x : Slot) : (s.setSlot i x).adm = s.adm := rfl
@[simp] theorem State.setSlot_hif (s : State) (i : Nat) (x : Slot) : (s.setSlot i x).hif = s.hif := rfl
@[simp] theorem State.setSlot_fns (s : State) (i : Nat) (x : Slot) : (s.setSlot i x).fns = s.fns := rfl
@[simp] theorem State.setSlot_qs (s : State) (i : Nat) (x : Slot) : (s.setSlot i x).qs = s.qs := rfl
@[simp] theorem State.setSlot_hz (s : State) (i : Nat) (x : Slot) : (s.setSlot i x).hz = s.hz := rfl
@[simp] theorem State.setSlot_nss (s : State) (i : Nat) (x : Slot) : (s.setSlot i x).nss = s.nss := rfl
@[simp] theorem State.setSlot_zones (s : State) (i : Nat) (x : Slot) : (s.setSlot i x).zones = s.zones := rfl
@[simp] theorem State.setSlot_media (s : State) (i : Nat) (x : Slot) : (s.setSlot i x).media = s.media := rfl
@[simp] theorem State.setSlot_links (s : State) (i : Nat) (x : Slot) : (s.setSlot i x).links = s.links := rfl
@[simp] theorem State.setSlot_cip (s : State) (i : Nat) (x : Slot) : (s.setSlot i x).cip = s.cip := rfl
@[simp] theorem State.setSlot_vat (s : State) (i : Nat) (x : Slot) : (s.setSlot i x).vat = s.vat := rfl
@[simp] theorem State.setSlot_ldp (s : State) (i : Nat) (x : Slot) : (s.setSlot i x).ldp = s.ldp := rfl
@[simp] theorem State.setSlot_hist (s : State) (i : Nat) (x : Slot) : (s.setSlot i x).hist = s.hist := rfl
@[simp] theorem State.setSlot_cal (s : State) (i : Nat) (x : Slot) : (s.setSlot i x).cal = s.cal := rfl
@[simp] theorem State.setSlot_drc (s : State) (i : Nat) (x : Slot) : (s.setSlot i x).drc = s.drc := rfl
@[simp] theorem State.setSlot_fst (s : State) (i : Nat) (x : Slot) : (s.setSlot i x).fst = s.fst := rfl
@[simp] theorem State.setSlot_led (s : State) (i : Nat) (x : Slot) : (s.setSlot i x).led = s.led := rfl
@[simp] theorem State.setSlot_pwr (s : State) (i : Nat) (x : Slot) : (s.setSlot i x).pwr = s.pwr := rfl
@[simp] theorem State.setSlot_brd (s : State) (i : Nat) (x : Slot) : (s.setSlot i x).brd = s.brd := rfl

/-! ### `emit` -/

theorem State.emit_frame (s : State) (o : Output) : s.emit o = { s with out := (s.emit o).out } := rfl

@[simp] theorem State.emit_pending (s : State) (o : Output) : (s.emit o).pending = s.pending := rfl
@[simp] theorem State.emit_now (s : State) (o : Output) : (s.emit o).now = s.now := rfl
@[simp] theorem State.emit_freeCtr (s : State) (o : Output) : (s.emit o).freeCtr = s.freeCtr := rfl
@[simp] theorem State.emit_lastRead (s : State) (o : Output) : (s.emit o).lastRead = s.lastRead := rfl
@[simp] theorem State.emit_mode (s : State) (o : Output) : (s.emit o).mode = s.mode := rfl
@[simp] theorem State.emit_glb (s : State) (o : Output) : (s.emit o).glb = s.glb := rfl
@[simp] theorem State.emit_par (s : State) (o : Output) : (s.emit o).par = s.par := rfl
@[simp] theorem State.emit_adm (s : State) (o : Output) : (s.emit o).adm = s.adm := rfl
@[simp] theorem State.emit_hif (s : State) (o : Output) : (s.emit o).hif = s.hif := rfl
@[simp] theorem State.emit_fns (s : State) (o : Output) : (s.emit o).fns = s.fns := rfl
@[simp] theorem State.emit_qs (s : State) (o : Output) : (s.emit o).qs = s.qs := rfl
@[simp] theorem State.emit_sub (s : State) (o : Output) : (s.emit o).sub = s.sub := rfl
@[simp] theorem State.emit_hz (s : State) (o : Output) : (s.emit o).hz = s.hz := rfl
@[simp] theorem State.emit_nss (s : State) (o : Output) : (s.emit o).nss = s.nss := rfl
@[simp] theorem State.emit_zones (s : State) (o : Output) : (s.emit o).zones = s.zones := rfl
@[simp] theorem State.emit_media (s : State) (o : Output) : (s.emit o).media = s.media := rfl
@[simp] theorem State.emit_links (s : State) (o : Output) : (s.emit o).links = s.links := rfl
@[simp] theorem State.emit_cip (s : State) (o : Output) : (s.emit o).cip = s.cip := rfl
@[simp] theorem State.emit_vat (s : State) (o : Output) : (s.emit o).vat = s.vat := rfl
@[simp] theorem State.emit_ldp (s : State) (o : Output) : (s.emit o).ldp = s.ldp := rfl
@[simp] theorem State.emit_hist (s : State) (o : Output) : (s.emit o).hist = s.hist := rfl
@[simp] theorem State.emit_cal (s : State) (o : Output) : (s.emit o).cal = s.cal := rfl
@[simp] theorem State.emit_drc (s : State) (o : Output) : (s.emit o).drc = s.drc := rfl
@[simp] theorem State.emit_fst (s : State) (o : Output) : (s.emit o).fst = s.fst := rfl
@[simp] theorem State.emit_led (s : State) (o : Output) : (s.emit o).led = s.led := rfl
@[simp] theorem State.emit_pwr (s : State) (o : Output) : (s.emit o).pwr = s.pwr := rfl
@[simp] theorem State.emit_brd (s : State) (o : Output) : (s.emit o).brd = s.brd := rfl

/-! ### `modDk` -/

theorem State.modDk_frame (s : State) (d : Nat) (f : Deckle → Deckle) : s.modDk d f = { s with media := (s.modDk d f).media } := rfl

@[simp] theorem State.modDk_pending (s : State) (d : Nat) (f : Deckle → Deckle) : (s.modDk d f).pending = s.pending := rfl
@[simp] theorem State.modDk_now (s : State) (d : Nat) (f : Deckle → Deckle) : (s.modDk d f).now = s.now := rfl
@[simp] theorem State.modDk_freeCtr (s : State) (d : Nat) (f : Deckle → Deckle) : (s.modDk d f).freeCtr = s.freeCtr := rfl
@[simp] theorem State.modDk_out (s : State) (d : Nat) (f : Deckle → Deckle) : (s.modDk d f).out = s.out := rfl
@[simp] theorem State.modDk_lastRead (s : State) (d : Nat) (f : Deckle → Deckle) : (s.modDk d f).lastRead = s.lastRead := rfl
@[simp] theorem State.modDk_mode (s : State) (d : Nat) (f : Deckle → Deckle) : (s.modDk d f).mode = s.mode := rfl
@[simp] theorem State.modDk_glb (s : State) (d : Nat) (f : Deckle → Deckle) : (s.modDk d f).glb = s.glb := rfl
@[simp] theorem State.modDk_par (s : State) (d : Nat) (f : Deckle → Deckle) : (s.modDk d f).par = s.par := rfl
@[simp] theorem State.modDk_adm (s : State) (d : Nat) (f : Deckle → Deckle) : (s.modDk d f).adm = s.adm := rfl
@[simp] theorem State.modDk_hif (s : State) (d : Nat) (f : Deckle → Deckle) : (s.modDk d f).hif = s.hif := rfl
@[simp] theorem State.modDk_fns (s : State) (d : Nat) (f : Deckle → Deckle) : (s.modDk d f).fns = s.fns := rfl
@[simp] theorem State.modDk_qs (s : State) (d : Nat) (f : Deckle → Deckle) : (s.modDk d f).qs = s.qs := rfl
@[simp] theorem State.modDk_sub (s : State) (d : Nat) (f : Deckle → Deckle) : (s.modDk d f).sub = s.sub := rfl
@[simp] theorem State.modDk_hz (s : State) (d : Nat) (f : Deckle → Deckle) : (s.modDk d f).hz = s.hz := rfl
@[simp] theorem State.modDk_nss (s : State) (d : Nat) (f : Deckle → Deckle) : (s.modDk d f).nss = s.nss := rfl
@[simp] theorem State.modDk_zones (s : State) (d : Nat) (f : Deckle → Deckle) : (s.modDk d f).zones = s.zones := rfl
@[simp] theorem State.modDk_links (s : State) (d : Nat) (f : Deckle → Deckle) : (s.modDk d f).links = s.links := rfl
@[simp] theorem State.modDk_cip (s : State) (d : Nat) (f : Deckle → Deckle) : (s.modDk d f).cip = s.cip := rfl
@[simp] theorem State.modDk_vat (s : State) (d : Nat) (f : Deckle → Deckle) : (s.modDk d f).vat = s.vat := rfl
@[simp] theorem State.modDk_ldp (s : State) (d : Nat) (f : Deckle → Deckle) : (s.modDk d f).ldp = s.ldp := rfl
@[simp] theorem State.modDk_hist (s : State) (d : Nat) (f : Deckle → Deckle) : (s.modDk d f).hist = s.hist := rfl
@[simp] theorem State.modDk_cal (s : State) (d : Nat) (f : Deckle → Deckle) : (s.modDk d f).cal = s.cal := rfl
@[simp] theorem State.modDk_drc (s : State) (d : Nat) (f : Deckle → Deckle) : (s.modDk d f).drc = s.drc := rfl
@[simp] theorem State.modDk_fst (s : State) (d : Nat) (f : Deckle → Deckle) : (s.modDk d f).fst = s.fst := rfl
@[simp] theorem State.modDk_led (s : State) (d : Nat) (f : Deckle → Deckle) : (s.modDk d f).led = s.led := rfl
@[simp] theorem State.modDk_pwr (s : State) (d : Nat) (f : Deckle → Deckle) : (s.modDk d f).pwr = s.pwr := rfl
@[simp] theorem State.modDk_brd (s : State) (d : Nat) (f : Deckle → Deckle) : (s.modDk d f).brd = s.brd := rfl

/-! ### `modLink` -/

theorem State.modLink_frame (s : State) (k : Nat) (f : Link → Link) : s.modLink k f = { s with links := (s.modLink k f).links } := rfl

@[simp] theorem State.modLink_pending (s : State) (k : Nat) (f : Link → Link) : (s.modLink k f).pending = s.pending := rfl
@[simp] theorem State.modLink_now (s : State) (k : Nat) (f : Link → Link) : (s.modLink k f).now = s.now := rfl
@[simp] theorem State.modLink_freeCtr (s : State) (k : Nat) (f : Link → Link) : (s.modLink k f).freeCtr = s.freeCtr := rfl
@[simp] theorem State.modLink_out (s : State) (k : Nat) (f : Link → Link) : (s.modLink k f).out = s.out := rfl
@[simp] theorem State.modLink_lastRead (s : State) (k : Nat) (f : Link → Link) : (s.modLink k f).lastRead = s.lastRead := rfl
@[simp] theorem State.modLink_mode (s : State) (k : Nat) (f : Link → Link) : (s.modLink k f).mode = s.mode := rfl
@[simp] theorem State.modLink_glb (s : State) (k : Nat) (f : Link → Link) : (s.modLink k f).glb = s.glb := rfl
@[simp] theorem State.modLink_par (s : State) (k : Nat) (f : Link → Link) : (s.modLink k f).par = s.par := rfl
@[simp] theorem State.modLink_adm (s : State) (k : Nat) (f : Link → Link) : (s.modLink k f).adm = s.adm := rfl
@[simp] theorem State.modLink_hif (s : State) (k : Nat) (f : Link → Link) : (s.modLink k f).hif = s.hif := rfl
@[simp] theorem State.modLink_fns (s : State) (k : Nat) (f : Link → Link) : (s.modLink k f).fns = s.fns := rfl
@[simp] theorem State.modLink_qs (s : State) (k : Nat) (f : Link → Link) : (s.modLink k f).qs = s.qs := rfl
@[simp] theorem State.modLink_sub (s : State) (k : Nat) (f : Link → Link) : (s.modLink k f).sub = s.sub := rfl
@[simp] theorem State.modLink_hz (s : State) (k : Nat) (f : Link → Link) : (s.modLink k f).hz = s.hz := rfl
@[simp] theorem State.modLink_nss (s : State) (k : Nat) (f : Link → Link) : (s.modLink k f).nss = s.nss := rfl
@[simp] theorem State.modLink_zones (s : State) (k : Nat) (f : Link → Link) : (s.modLink k f).zones = s.zones := rfl
@[simp] theorem State.modLink_media (s : State) (k : Nat) (f : Link → Link) : (s.modLink k f).media = s.media := rfl
@[simp] theorem State.modLink_cip (s : State) (k : Nat) (f : Link → Link) : (s.modLink k f).cip = s.cip := rfl
@[simp] theorem State.modLink_vat (s : State) (k : Nat) (f : Link → Link) : (s.modLink k f).vat = s.vat := rfl
@[simp] theorem State.modLink_ldp (s : State) (k : Nat) (f : Link → Link) : (s.modLink k f).ldp = s.ldp := rfl
@[simp] theorem State.modLink_hist (s : State) (k : Nat) (f : Link → Link) : (s.modLink k f).hist = s.hist := rfl
@[simp] theorem State.modLink_cal (s : State) (k : Nat) (f : Link → Link) : (s.modLink k f).cal = s.cal := rfl
@[simp] theorem State.modLink_drc (s : State) (k : Nat) (f : Link → Link) : (s.modLink k f).drc = s.drc := rfl
@[simp] theorem State.modLink_fst (s : State) (k : Nat) (f : Link → Link) : (s.modLink k f).fst = s.fst := rfl
@[simp] theorem State.modLink_led (s : State) (k : Nat) (f : Link → Link) : (s.modLink k f).led = s.led := rfl
@[simp] theorem State.modLink_pwr (s : State) (k : Nat) (f : Link → Link) : (s.modLink k f).pwr = s.pwr := rfl
@[simp] theorem State.modLink_brd (s : State) (k : Nat) (f : Link → Link) : (s.modLink k f).brd = s.brd := rfl

/-! ### `modDie` -/

theorem State.modDie_frame (s : State) (k d : Nat) (f : Die → Die) : s.modDie k d f = { s with links := (s.modDie k d f).links } := rfl

@[simp] theorem State.modDie_pending (s : State) (k d : Nat) (f : Die → Die) : (s.modDie k d f).pending = s.pending := rfl
@[simp] theorem State.modDie_now (s : State) (k d : Nat) (f : Die → Die) : (s.modDie k d f).now = s.now := rfl
@[simp] theorem State.modDie_freeCtr (s : State) (k d : Nat) (f : Die → Die) : (s.modDie k d f).freeCtr = s.freeCtr := rfl
@[simp] theorem State.modDie_out (s : State) (k d : Nat) (f : Die → Die) : (s.modDie k d f).out = s.out := rfl
@[simp] theorem State.modDie_lastRead (s : State) (k d : Nat) (f : Die → Die) : (s.modDie k d f).lastRead = s.lastRead := rfl
@[simp] theorem State.modDie_mode (s : State) (k d : Nat) (f : Die → Die) : (s.modDie k d f).mode = s.mode := rfl
@[simp] theorem State.modDie_glb (s : State) (k d : Nat) (f : Die → Die) : (s.modDie k d f).glb = s.glb := rfl
@[simp] theorem State.modDie_par (s : State) (k d : Nat) (f : Die → Die) : (s.modDie k d f).par = s.par := rfl
@[simp] theorem State.modDie_adm (s : State) (k d : Nat) (f : Die → Die) : (s.modDie k d f).adm = s.adm := rfl
@[simp] theorem State.modDie_hif (s : State) (k d : Nat) (f : Die → Die) : (s.modDie k d f).hif = s.hif := rfl
@[simp] theorem State.modDie_fns (s : State) (k d : Nat) (f : Die → Die) : (s.modDie k d f).fns = s.fns := rfl
@[simp] theorem State.modDie_qs (s : State) (k d : Nat) (f : Die → Die) : (s.modDie k d f).qs = s.qs := rfl
@[simp] theorem State.modDie_sub (s : State) (k d : Nat) (f : Die → Die) : (s.modDie k d f).sub = s.sub := rfl
@[simp] theorem State.modDie_hz (s : State) (k d : Nat) (f : Die → Die) : (s.modDie k d f).hz = s.hz := rfl
@[simp] theorem State.modDie_nss (s : State) (k d : Nat) (f : Die → Die) : (s.modDie k d f).nss = s.nss := rfl
@[simp] theorem State.modDie_zones (s : State) (k d : Nat) (f : Die → Die) : (s.modDie k d f).zones = s.zones := rfl
@[simp] theorem State.modDie_media (s : State) (k d : Nat) (f : Die → Die) : (s.modDie k d f).media = s.media := rfl
@[simp] theorem State.modDie_cip (s : State) (k d : Nat) (f : Die → Die) : (s.modDie k d f).cip = s.cip := rfl
@[simp] theorem State.modDie_vat (s : State) (k d : Nat) (f : Die → Die) : (s.modDie k d f).vat = s.vat := rfl
@[simp] theorem State.modDie_ldp (s : State) (k d : Nat) (f : Die → Die) : (s.modDie k d f).ldp = s.ldp := rfl
@[simp] theorem State.modDie_hist (s : State) (k d : Nat) (f : Die → Die) : (s.modDie k d f).hist = s.hist := rfl
@[simp] theorem State.modDie_cal (s : State) (k d : Nat) (f : Die → Die) : (s.modDie k d f).cal = s.cal := rfl
@[simp] theorem State.modDie_drc (s : State) (k d : Nat) (f : Die → Die) : (s.modDie k d f).drc = s.drc := rfl
@[simp] theorem State.modDie_fst (s : State) (k d : Nat) (f : Die → Die) : (s.modDie k d f).fst = s.fst := rfl
@[simp] theorem State.modDie_led (s : State) (k d : Nat) (f : Die → Die) : (s.modDie k d f).led = s.led := rfl
@[simp] theorem State.modDie_pwr (s : State) (k d : Nat) (f : Die → Die) : (s.modDie k d f).pwr = s.pwr := rfl
@[simp] theorem State.modDie_brd (s : State) (k d : Nat) (f : Die → Die) : (s.modDie k d f).brd = s.brd := rfl

/-! ### `modBlk` -/

theorem State.modBlk_frame (s : State) (k : Nat) (f : MBlk → MBlk) : s.modBlk k f = { s with media := (s.modBlk k f).media } := rfl

@[simp] theorem State.modBlk_pending (s : State) (k : Nat) (f : MBlk → MBlk) : (s.modBlk k f).pending = s.pending := rfl
@[simp] theorem State.modBlk_now (s : State) (k : Nat) (f : MBlk → MBlk) : (s.modBlk k f).now = s.now := rfl
@[simp] theorem State.modBlk_freeCtr (s : State) (k : Nat) (f : MBlk → MBlk) : (s.modBlk k f).freeCtr = s.freeCtr := rfl
@[simp] theorem State.modBlk_out (s : State) (k : Nat) (f : MBlk → MBlk) : (s.modBlk k f).out = s.out := rfl
@[simp] theorem State.modBlk_lastRead (s : State) (k : Nat) (f : MBlk → MBlk) : (s.modBlk k f).lastRead = s.lastRead := rfl
@[simp] theorem State.modBlk_mode (s : State) (k : Nat) (f : MBlk → MBlk) : (s.modBlk k f).mode = s.mode := rfl
@[simp] theorem State.modBlk_glb (s : State) (k : Nat) (f : MBlk → MBlk) : (s.modBlk k f).glb = s.glb := rfl
@[simp] theorem State.modBlk_par (s : State) (k : Nat) (f : MBlk → MBlk) : (s.modBlk k f).par = s.par := rfl
@[simp] theorem State.modBlk_adm (s : State) (k : Nat) (f : MBlk → MBlk) : (s.modBlk k f).adm = s.adm := rfl
@[simp] theorem State.modBlk_hif (s : State) (k : Nat) (f : MBlk → MBlk) : (s.modBlk k f).hif = s.hif := rfl
@[simp] theorem State.modBlk_fns (s : State) (k : Nat) (f : MBlk → MBlk) : (s.modBlk k f).fns = s.fns := rfl
@[simp] theorem State.modBlk_qs (s : State) (k : Nat) (f : MBlk → MBlk) : (s.modBlk k f).qs = s.qs := rfl
@[simp] theorem State.modBlk_sub (s : State) (k : Nat) (f : MBlk → MBlk) : (s.modBlk k f).sub = s.sub := rfl
@[simp] theorem State.modBlk_hz (s : State) (k : Nat) (f : MBlk → MBlk) : (s.modBlk k f).hz = s.hz := rfl
@[simp] theorem State.modBlk_nss (s : State) (k : Nat) (f : MBlk → MBlk) : (s.modBlk k f).nss = s.nss := rfl
@[simp] theorem State.modBlk_zones (s : State) (k : Nat) (f : MBlk → MBlk) : (s.modBlk k f).zones = s.zones := rfl
@[simp] theorem State.modBlk_links (s : State) (k : Nat) (f : MBlk → MBlk) : (s.modBlk k f).links = s.links := rfl
@[simp] theorem State.modBlk_cip (s : State) (k : Nat) (f : MBlk → MBlk) : (s.modBlk k f).cip = s.cip := rfl
@[simp] theorem State.modBlk_vat (s : State) (k : Nat) (f : MBlk → MBlk) : (s.modBlk k f).vat = s.vat := rfl
@[simp] theorem State.modBlk_ldp (s : State) (k : Nat) (f : MBlk → MBlk) : (s.modBlk k f).ldp = s.ldp := rfl
@[simp] theorem State.modBlk_hist (s : State) (k : Nat) (f : MBlk → MBlk) : (s.modBlk k f).hist = s.hist := rfl
@[simp] theorem State.modBlk_cal (s : State) (k : Nat) (f : MBlk → MBlk) : (s.modBlk k f).cal = s.cal := rfl
@[simp] theorem State.modBlk_drc (s : State) (k : Nat) (f : MBlk → MBlk) : (s.modBlk k f).drc = s.drc := rfl
@[simp] theorem State.modBlk_fst (s : State) (k : Nat) (f : MBlk → MBlk) : (s.modBlk k f).fst = s.fst := rfl
@[simp] theorem State.modBlk_led (s : State) (k : Nat) (f : MBlk → MBlk) : (s.modBlk k f).led = s.led := rfl
@[simp] theorem State.modBlk_pwr (s : State) (k : Nat) (f : MBlk → MBlk) : (s.modBlk k f).pwr = s.pwr := rfl
@[simp] theorem State.modBlk_brd (s : State) (k : Nat) (f : MBlk → MBlk) : (s.modBlk k f).brd = s.brd := rfl

/-! ### `modNs` -/

theorem State.modNs_frame (s : State) (nsid : Nat) (f : Ns → Ns) : s.modNs nsid f = { s with nss := (s.modNs nsid f).nss } := by
  unfold State.modNs; split <;> rfl

@[simp] theorem State.modNs_pending (s : State) (nsid : Nat) (f : Ns → Ns) : (s.modNs nsid f).pending = s.pending := by rw [State.modNs_frame]
@[simp] theorem State.modNs_now (s : State) (nsid : Nat) (f : Ns → Ns) : (s.modNs nsid f).now = s.now := by rw [State.modNs_frame]
@[simp] theorem State.modNs_freeCtr (s : State) (nsid : Nat) (f : Ns → Ns) : (s.modNs nsid f).freeCtr = s.freeCtr := by rw [State.modNs_frame]
@[simp] theorem State.modNs_out (s : State) (nsid : Nat) (f : Ns → Ns) : (s.modNs nsid f).out = s.out := by rw [State.modNs_frame]
@[simp] theorem State.modNs_lastRead (s : State) (nsid : Nat) (f : Ns → Ns) : (s.modNs nsid f).lastRead = s.lastRead := by rw [State.modNs_frame]
@[simp] theorem State.modNs_mode (s : State) (nsid : Nat) (f : Ns → Ns) : (s.modNs nsid f).mode = s.mode := by rw [State.modNs_frame]
@[simp] theorem State.modNs_glb (s : State) (nsid : Nat) (f : Ns → Ns) : (s.modNs nsid f).glb = s.glb := by rw [State.modNs_frame]
@[simp] theorem State.modNs_par (s : State) (nsid : Nat) (f : Ns → Ns) : (s.modNs nsid f).par = s.par := by rw [State.modNs_frame]
@[simp] theorem State.modNs_adm (s : State) (nsid : Nat) (f : Ns → Ns) : (s.modNs nsid f).adm = s.adm := by rw [State.modNs_frame]
@[simp] theorem State.modNs_hif (s : State) (nsid : Nat) (f : Ns → Ns) : (s.modNs nsid f).hif = s.hif := by rw [State.modNs_frame]
@[simp] theorem State.modNs_fns (s : State) (nsid : Nat) (f : Ns → Ns) : (s.modNs nsid f).fns = s.fns := by rw [State.modNs_frame]
@[simp] theorem State.modNs_qs (s : State) (nsid : Nat) (f : Ns → Ns) : (s.modNs nsid f).qs = s.qs := by rw [State.modNs_frame]
@[simp] theorem State.modNs_sub (s : State) (nsid : Nat) (f : Ns → Ns) : (s.modNs nsid f).sub = s.sub := by rw [State.modNs_frame]
@[simp] theorem State.modNs_hz (s : State) (nsid : Nat) (f : Ns → Ns) : (s.modNs nsid f).hz = s.hz := by rw [State.modNs_frame]
@[simp] theorem State.modNs_zones (s : State) (nsid : Nat) (f : Ns → Ns) : (s.modNs nsid f).zones = s.zones := by rw [State.modNs_frame]
@[simp] theorem State.modNs_media (s : State) (nsid : Nat) (f : Ns → Ns) : (s.modNs nsid f).media = s.media := by rw [State.modNs_frame]
@[simp] theorem State.modNs_links (s : State) (nsid : Nat) (f : Ns → Ns) : (s.modNs nsid f).links = s.links := by rw [State.modNs_frame]
@[simp] theorem State.modNs_cip (s : State) (nsid : Nat) (f : Ns → Ns) : (s.modNs nsid f).cip = s.cip := by rw [State.modNs_frame]
@[simp] theorem State.modNs_vat (s : State) (nsid : Nat) (f : Ns → Ns) : (s.modNs nsid f).vat = s.vat := by rw [State.modNs_frame]
@[simp] theorem State.modNs_ldp (s : State) (nsid : Nat) (f : Ns → Ns) : (s.modNs nsid f).ldp = s.ldp := by rw [State.modNs_frame]
@[simp] theorem State.modNs_hist (s : State) (nsid : Nat) (f : Ns → Ns) : (s.modNs nsid f).hist = s.hist := by rw [State.modNs_frame]
@[simp] theorem State.modNs_cal (s : State) (nsid : Nat) (f : Ns → Ns) : (s.modNs nsid f).cal = s.cal := by rw [State.modNs_frame]
@[simp] theorem State.modNs_drc (s : State) (nsid : Nat) (f : Ns → Ns) : (s.modNs nsid f).drc = s.drc := by rw [State.modNs_frame]
@[simp] theorem State.modNs_fst (s : State) (nsid : Nat) (f : Ns → Ns) : (s.modNs nsid f).fst = s.fst := by rw [State.modNs_frame]
@[simp] theorem State.modNs_led (s : State) (nsid : Nat) (f : Ns → Ns) : (s.modNs nsid f).led = s.led := by rw [State.modNs_frame]
@[simp] theorem State.modNs_pwr (s : State) (nsid : Nat) (f : Ns → Ns) : (s.modNs nsid f).pwr = s.pwr := by rw [State.modNs_frame]
@[simp] theorem State.modNs_brd (s : State) (nsid : Nat) (f : Ns → Ns) : (s.modNs nsid f).brd = s.brd := by rw [State.modNs_frame]

/-! ### `modReam` -/

theorem State.modReam_frame (s : State) (id : Nat) (f : Ream → Ream) : s.modReam id f = { s with media := (s.modReam id f).media } := by
  unfold State.modReam; split <;> rfl

@[simp] theorem State.modReam_pending (s : State) (id : Nat) (f : Ream → Ream) : (s.modReam id f).pending = s.pending := by rw [State.modReam_frame]
@[simp] theorem State.modReam_now (s : State) (id : Nat) (f : Ream → Ream) : (s.modReam id f).now = s.now := by rw [State.modReam_frame]
@[simp] theorem State.modReam_freeCtr (s : State) (id : Nat) (f : Ream → Ream) : (s.modReam id f).freeCtr = s.freeCtr := by rw [State.modReam_frame]
@[simp] theorem State.modReam_out (s : State) (id : Nat) (f : Ream → Ream) : (s.modReam id f).out = s.out := by rw [State.modReam_frame]
@[simp] theorem State.modReam_lastRead (s : State) (id : Nat) (f : Ream → Ream) : (s.modReam id f).lastRead = s.lastRead := by rw [State.modReam_frame]
@[simp] theorem State.modReam_mode (s : State) (id : Nat) (f : Ream → Ream) : (s.modReam id f).mode = s.mode := by rw [State.modReam_frame]
@[simp] theorem State.modReam_glb (s : State) (id : Nat) (f : Ream → Ream) : (s.modReam id f).glb = s.glb := by rw [State.modReam_frame]
@[simp] theorem State.modReam_par (s : State) (id : Nat) (f : Ream → Ream) : (s.modReam id f).par = s.par := by rw [State.modReam_frame]
@[simp] theorem State.modReam_adm (s : State) (id : Nat) (f : Ream → Ream) : (s.modReam id f).adm = s.adm := by rw [State.modReam_frame]
@[simp] theorem State.modReam_hif (s : State) (id : Nat) (f : Ream → Ream) : (s.modReam id f).hif = s.hif := by rw [State.modReam_frame]
@[simp] theorem State.modReam_fns (s : State) (id : Nat) (f : Ream → Ream) : (s.modReam id f).fns = s.fns := by rw [State.modReam_frame]
@[simp] theorem State.modReam_qs (s : State) (id : Nat) (f : Ream → Ream) : (s.modReam id f).qs = s.qs := by rw [State.modReam_frame]
@[simp] theorem State.modReam_sub (s : State) (id : Nat) (f : Ream → Ream) : (s.modReam id f).sub = s.sub := by rw [State.modReam_frame]
@[simp] theorem State.modReam_hz (s : State) (id : Nat) (f : Ream → Ream) : (s.modReam id f).hz = s.hz := by rw [State.modReam_frame]
@[simp] theorem State.modReam_nss (s : State) (id : Nat) (f : Ream → Ream) : (s.modReam id f).nss = s.nss := by rw [State.modReam_frame]
@[simp] theorem State.modReam_zones (s : State) (id : Nat) (f : Ream → Ream) : (s.modReam id f).zones = s.zones := by rw [State.modReam_frame]
@[simp] theorem State.modReam_links (s : State) (id : Nat) (f : Ream → Ream) : (s.modReam id f).links = s.links := by rw [State.modReam_frame]
@[simp] theorem State.modReam_cip (s : State) (id : Nat) (f : Ream → Ream) : (s.modReam id f).cip = s.cip := by rw [State.modReam_frame]
@[simp] theorem State.modReam_vat (s : State) (id : Nat) (f : Ream → Ream) : (s.modReam id f).vat = s.vat := by rw [State.modReam_frame]
@[simp] theorem State.modReam_ldp (s : State) (id : Nat) (f : Ream → Ream) : (s.modReam id f).ldp = s.ldp := by rw [State.modReam_frame]
@[simp] theorem State.modReam_hist (s : State) (id : Nat) (f : Ream → Ream) : (s.modReam id f).hist = s.hist := by rw [State.modReam_frame]
@[simp] theorem State.modReam_cal (s : State) (id : Nat) (f : Ream → Ream) : (s.modReam id f).cal = s.cal := by rw [State.modReam_frame]
@[simp] theorem State.modReam_drc (s : State) (id : Nat) (f : Ream → Ream) : (s.modReam id f).drc = s.drc := by rw [State.modReam_frame]
@[simp] theorem State.modReam_fst (s : State) (id : Nat) (f : Ream → Ream) : (s.modReam id f).fst = s.fst := by rw [State.modReam_frame]
@[simp] theorem State.modReam_led (s : State) (id : Nat) (f : Ream → Ream) : (s.modReam id f).led = s.led := by rw [State.modReam_frame]
@[simp] theorem State.modReam_pwr (s : State) (id : Nat) (f : Ream → Ream) : (s.modReam id f).pwr = s.pwr := by rw [State.modReam_frame]
@[simp] theorem State.modReam_brd (s : State) (id : Nat) (f : Ream → Ream) : (s.modReam id f).brd = s.brd := by rw [State.modReam_frame]

/-! ### `modGrp` -/

theorem State.modGrp_frame (s : State) (g : Nat) (f : Grp → Grp) : s.modGrp g f = { s with media := (s.modGrp g f).media } := rfl

@[simp] theorem State.modGrp_pending (s : State) (g : Nat) (f : Grp → Grp) : (s.modGrp g f).pending = s.pending := rfl
@[simp] theorem State.modGrp_now (s : State) (g : Nat) (f : Grp → Grp) : (s.modGrp g f).now = s.now := rfl
@[simp] theorem State.modGrp_freeCtr (s : State) (g : Nat) (f : Grp → Grp) : (s.modGrp g f).freeCtr = s.freeCtr := rfl
@[simp] theorem State.modGrp_out (s : State) (g : Nat) (f : Grp → Grp) : (s.modGrp g f).out = s.out := rfl
@[simp] theorem State.modGrp_lastRead (s : State) (g : Nat) (f : Grp → Grp) : (s.modGrp g f).lastRead = s.lastRead := rfl
@[simp] theorem State.modGrp_mode (s : State) (g : Nat) (f : Grp → Grp) : (s.modGrp g f).mode = s.mode := rfl
@[simp] theorem State.modGrp_glb (s : State) (g : Nat) (f : Grp → Grp) : (s.modGrp g f).glb = s.glb := rfl
@[simp] theorem State.modGrp_par (s : State) (g : Nat) (f : Grp → Grp) : (s.modGrp g f).par = s.par := rfl
@[simp] theorem State.modGrp_adm (s : State) (g : Nat) (f : Grp → Grp) : (s.modGrp g f).adm = s.adm := rfl
@[simp] theorem State.modGrp_hif (s : State) (g : Nat) (f : Grp → Grp) : (s.modGrp g f).hif = s.hif := rfl
@[simp] theorem State.modGrp_fns (s : State) (g : Nat) (f : Grp → Grp) : (s.modGrp g f).fns = s.fns := rfl
@[simp] theorem State.modGrp_qs (s : State) (g : Nat) (f : Grp → Grp) : (s.modGrp g f).qs = s.qs := rfl
@[simp] theorem State.modGrp_sub (s : State) (g : Nat) (f : Grp → Grp) : (s.modGrp g f).sub = s.sub := rfl
@[simp] theorem State.modGrp_hz (s : State) (g : Nat) (f : Grp → Grp) : (s.modGrp g f).hz = s.hz := rfl
@[simp] theorem State.modGrp_nss (s : State) (g : Nat) (f : Grp → Grp) : (s.modGrp g f).nss = s.nss := rfl
@[simp] theorem State.modGrp_zones (s : State) (g : Nat) (f : Grp → Grp) : (s.modGrp g f).zones = s.zones := rfl
@[simp] theorem State.modGrp_links (s : State) (g : Nat) (f : Grp → Grp) : (s.modGrp g f).links = s.links := rfl
@[simp] theorem State.modGrp_cip (s : State) (g : Nat) (f : Grp → Grp) : (s.modGrp g f).cip = s.cip := rfl
@[simp] theorem State.modGrp_vat (s : State) (g : Nat) (f : Grp → Grp) : (s.modGrp g f).vat = s.vat := rfl
@[simp] theorem State.modGrp_ldp (s : State) (g : Nat) (f : Grp → Grp) : (s.modGrp g f).ldp = s.ldp := rfl
@[simp] theorem State.modGrp_hist (s : State) (g : Nat) (f : Grp → Grp) : (s.modGrp g f).hist = s.hist := rfl
@[simp] theorem State.modGrp_cal (s : State) (g : Nat) (f : Grp → Grp) : (s.modGrp g f).cal = s.cal := rfl
@[simp] theorem State.modGrp_drc (s : State) (g : Nat) (f : Grp → Grp) : (s.modGrp g f).drc = s.drc := rfl
@[simp] theorem State.modGrp_fst (s : State) (g : Nat) (f : Grp → Grp) : (s.modGrp g f).fst = s.fst := rfl
@[simp] theorem State.modGrp_led (s : State) (g : Nat) (f : Grp → Grp) : (s.modGrp g f).led = s.led := rfl
@[simp] theorem State.modGrp_pwr (s : State) (g : Nat) (f : Grp → Grp) : (s.modGrp g f).pwr = s.pwr := rfl
@[simp] theorem State.modGrp_brd (s : State) (g : Nat) (f : Grp → Grp) : (s.modGrp g f).brd = s.brd := rfl

/-! ### `modZone` -/

theorem State.modZone_frame (s : State) (nsid z : Nat) (f : Zone → Zone) : s.modZone nsid z f = { s with zones := (s.modZone nsid z f).zones } := rfl

@[simp] theorem State.modZone_pending (s : State) (nsid z : Nat) (f : Zone → Zone) : (s.modZone nsid z f).pending = s.pending := rfl
@[simp] theorem State.modZone_now (s : State) (nsid z : Nat) (f : Zone → Zone) : (s.modZone nsid z f).now = s.now := rfl
@[simp] theorem State.modZone_freeCtr (s : State) (nsid z : Nat) (f : Zone → Zone) : (s.modZone nsid z f).freeCtr = s.freeCtr := rfl
@[simp] theorem State.modZone_out (s : State) (nsid z : Nat) (f : Zone → Zone) : (s.modZone nsid z f).out = s.out := rfl
@[simp] theorem State.modZone_lastRead (s : State) (nsid z : Nat) (f : Zone → Zone) : (s.modZone nsid z f).lastRead = s.lastRead := rfl
@[simp] theorem State.modZone_mode (s : State) (nsid z : Nat) (f : Zone → Zone) : (s.modZone nsid z f).mode = s.mode := rfl
@[simp] theorem State.modZone_glb (s : State) (nsid z : Nat) (f : Zone → Zone) : (s.modZone nsid z f).glb = s.glb := rfl
@[simp] theorem State.modZone_par (s : State) (nsid z : Nat) (f : Zone → Zone) : (s.modZone nsid z f).par = s.par := rfl
@[simp] theorem State.modZone_adm (s : State) (nsid z : Nat) (f : Zone → Zone) : (s.modZone nsid z f).adm = s.adm := rfl
@[simp] theorem State.modZone_hif (s : State) (nsid z : Nat) (f : Zone → Zone) : (s.modZone nsid z f).hif = s.hif := rfl
@[simp] theorem State.modZone_fns (s : State) (nsid z : Nat) (f : Zone → Zone) : (s.modZone nsid z f).fns = s.fns := rfl
@[simp] theorem State.modZone_qs (s : State) (nsid z : Nat) (f : Zone → Zone) : (s.modZone nsid z f).qs = s.qs := rfl
@[simp] theorem State.modZone_sub (s : State) (nsid z : Nat) (f : Zone → Zone) : (s.modZone nsid z f).sub = s.sub := rfl
@[simp] theorem State.modZone_hz (s : State) (nsid z : Nat) (f : Zone → Zone) : (s.modZone nsid z f).hz = s.hz := rfl
@[simp] theorem State.modZone_nss (s : State) (nsid z : Nat) (f : Zone → Zone) : (s.modZone nsid z f).nss = s.nss := rfl
@[simp] theorem State.modZone_media (s : State) (nsid z : Nat) (f : Zone → Zone) : (s.modZone nsid z f).media = s.media := rfl
@[simp] theorem State.modZone_links (s : State) (nsid z : Nat) (f : Zone → Zone) : (s.modZone nsid z f).links = s.links := rfl
@[simp] theorem State.modZone_cip (s : State) (nsid z : Nat) (f : Zone → Zone) : (s.modZone nsid z f).cip = s.cip := rfl
@[simp] theorem State.modZone_vat (s : State) (nsid z : Nat) (f : Zone → Zone) : (s.modZone nsid z f).vat = s.vat := rfl
@[simp] theorem State.modZone_ldp (s : State) (nsid z : Nat) (f : Zone → Zone) : (s.modZone nsid z f).ldp = s.ldp := rfl
@[simp] theorem State.modZone_hist (s : State) (nsid z : Nat) (f : Zone → Zone) : (s.modZone nsid z f).hist = s.hist := rfl
@[simp] theorem State.modZone_cal (s : State) (nsid z : Nat) (f : Zone → Zone) : (s.modZone nsid z f).cal = s.cal := rfl
@[simp] theorem State.modZone_drc (s : State) (nsid z : Nat) (f : Zone → Zone) : (s.modZone nsid z f).drc = s.drc := rfl
@[simp] theorem State.modZone_fst (s : State) (nsid z : Nat) (f : Zone → Zone) : (s.modZone nsid z f).fst = s.fst := rfl
@[simp] theorem State.modZone_led (s : State) (nsid z : Nat) (f : Zone → Zone) : (s.modZone nsid z f).led = s.led := rfl
@[simp] theorem State.modZone_pwr (s : State) (nsid z : Nat) (f : Zone → Zone) : (s.modZone nsid z f).pwr = s.pwr := rfl
@[simp] theorem State.modZone_brd (s : State) (nsid z : Nat) (f : Zone → Zone) : (s.modZone nsid z f).brd = s.brd := rfl

/-! ### `setBlk` -/

theorem State.setBlk_frame (s : State) (nsid lba : Nat) (b : Blk) : s.setBlk nsid lba b = { s with media := (s.setBlk nsid lba b).media } := rfl

@[simp] theorem State.setBlk_pending (s : State) (nsid lba : Nat) (b : Blk) : (s.setBlk nsid lba b).pending = s.pending := rfl
@[simp] theorem State.setBlk_now (s : State) (nsid lba : Nat) (b : Blk) : (s.setBlk nsid lba b).now = s.now := rfl
@[simp] theorem State.setBlk_freeCtr (s : State) (nsid lba : Nat) (b : Blk) : (s.setBlk nsid lba b).freeCtr = s.freeCtr := rfl
@[simp] theorem State.setBlk_out (s : State) (nsid lba : Nat) (b : Blk) : (s.setBlk nsid lba b).out = s.out := rfl
@[simp] theorem State.setBlk_lastRead (s : State) (nsid lba : Nat) (b : Blk) : (s.setBlk nsid lba b).lastRead = s.lastRead := rfl
@[simp] theorem State.setBlk_mode (s : State) (nsid lba : Nat) (b : Blk) : (s.setBlk nsid lba b).mode = s.mode := rfl
@[simp] theorem State.setBlk_glb (s : State) (nsid lba : Nat) (b : Blk) : (s.setBlk nsid lba b).glb = s.glb := rfl
@[simp] theorem State.setBlk_par (s : State) (nsid lba : Nat) (b : Blk) : (s.setBlk nsid lba b).par = s.par := rfl
@[simp] theorem State.setBlk_adm (s : State) (nsid lba : Nat) (b : Blk) : (s.setBlk nsid lba b).adm = s.adm := rfl
@[simp] theorem State.setBlk_hif (s : State) (nsid lba : Nat) (b : Blk) : (s.setBlk nsid lba b).hif = s.hif := rfl
@[simp] theorem State.setBlk_fns (s : State) (nsid lba : Nat) (b : Blk) : (s.setBlk nsid lba b).fns = s.fns := rfl
@[simp] theorem State.setBlk_qs (s : State) (nsid lba : Nat) (b : Blk) : (s.setBlk nsid lba b).qs = s.qs := rfl
@[simp] theorem State.setBlk_sub (s : State) (nsid lba : Nat) (b : Blk) : (s.setBlk nsid lba b).sub = s.sub := rfl
@[simp] theorem State.setBlk_hz (s : State) (nsid lba : Nat) (b : Blk) : (s.setBlk nsid lba b).hz = s.hz := rfl
@[simp] theorem State.setBlk_nss (s : State) (nsid lba : Nat) (b : Blk) : (s.setBlk nsid lba b).nss = s.nss := rfl
@[simp] theorem State.setBlk_zones (s : State) (nsid lba : Nat) (b : Blk) : (s.setBlk nsid lba b).zones = s.zones := rfl
@[simp] theorem State.setBlk_links (s : State) (nsid lba : Nat) (b : Blk) : (s.setBlk nsid lba b).links = s.links := rfl
@[simp] theorem State.setBlk_cip (s : State) (nsid lba : Nat) (b : Blk) : (s.setBlk nsid lba b).cip = s.cip := rfl
@[simp] theorem State.setBlk_vat (s : State) (nsid lba : Nat) (b : Blk) : (s.setBlk nsid lba b).vat = s.vat := rfl
@[simp] theorem State.setBlk_ldp (s : State) (nsid lba : Nat) (b : Blk) : (s.setBlk nsid lba b).ldp = s.ldp := rfl
@[simp] theorem State.setBlk_hist (s : State) (nsid lba : Nat) (b : Blk) : (s.setBlk nsid lba b).hist = s.hist := rfl
@[simp] theorem State.setBlk_cal (s : State) (nsid lba : Nat) (b : Blk) : (s.setBlk nsid lba b).cal = s.cal := rfl
@[simp] theorem State.setBlk_drc (s : State) (nsid lba : Nat) (b : Blk) : (s.setBlk nsid lba b).drc = s.drc := rfl
@[simp] theorem State.setBlk_fst (s : State) (nsid lba : Nat) (b : Blk) : (s.setBlk nsid lba b).fst = s.fst := rfl
@[simp] theorem State.setBlk_led (s : State) (nsid lba : Nat) (b : Blk) : (s.setBlk nsid lba b).led = s.led := rfl
@[simp] theorem State.setBlk_pwr (s : State) (nsid lba : Nat) (b : Blk) : (s.setBlk nsid lba b).pwr = s.pwr := rfl
@[simp] theorem State.setBlk_brd (s : State) (nsid lba : Nat) (b : Blk) : (s.setBlk nsid lba b).brd = s.brd := rfl

/-! ### `setBun` -/

theorem State.setBun_frame (s : State) (nsid b : Nat) (x : Bun) : s.setBun nsid b x = { s with media := (s.setBun nsid b x).media } := rfl

@[simp] theorem State.setBun_pending (s : State) (nsid b : Nat) (x : Bun) : (s.setBun nsid b x).pending = s.pending := rfl
@[simp] theorem State.setBun_now (s : State) (nsid b : Nat) (x : Bun) : (s.setBun nsid b x).now = s.now := rfl
@[simp] theorem State.setBun_freeCtr (s : State) (nsid b : Nat) (x : Bun) : (s.setBun nsid b x).freeCtr = s.freeCtr := rfl
@[simp] theorem State.setBun_out (s : State) (nsid b : Nat) (x : Bun) : (s.setBun nsid b x).out = s.out := rfl
@[simp] theorem State.setBun_lastRead (s : State) (nsid b : Nat) (x : Bun) : (s.setBun nsid b x).lastRead = s.lastRead := rfl
@[simp] theorem State.setBun_mode (s : State) (nsid b : Nat) (x : Bun) : (s.setBun nsid b x).mode = s.mode := rfl
@[simp] theorem State.setBun_glb (s : State) (nsid b : Nat) (x : Bun) : (s.setBun nsid b x).glb = s.glb := rfl
@[simp] theorem State.setBun_par (s : State) (nsid b : Nat) (x : Bun) : (s.setBun nsid b x).par = s.par := rfl
@[simp] theorem State.setBun_adm (s : State) (nsid b : Nat) (x : Bun) : (s.setBun nsid b x).adm = s.adm := rfl
@[simp] theorem State.setBun_hif (s : State) (nsid b : Nat) (x : Bun) : (s.setBun nsid b x).hif = s.hif := rfl
@[simp] theorem State.setBun_fns (s : State) (nsid b : Nat) (x : Bun) : (s.setBun nsid b x).fns = s.fns := rfl
@[simp] theorem State.setBun_qs (s : State) (nsid b : Nat) (x : Bun) : (s.setBun nsid b x).qs = s.qs := rfl
@[simp] theorem State.setBun_sub (s : State) (nsid b : Nat) (x : Bun) : (s.setBun nsid b x).sub = s.sub := rfl
@[simp] theorem State.setBun_hz (s : State) (nsid b : Nat) (x : Bun) : (s.setBun nsid b x).hz = s.hz := rfl
@[simp] theorem State.setBun_nss (s : State) (nsid b : Nat) (x : Bun) : (s.setBun nsid b x).nss = s.nss := rfl
@[simp] theorem State.setBun_zones (s : State) (nsid b : Nat) (x : Bun) : (s.setBun nsid b x).zones = s.zones := rfl
@[simp] theorem State.setBun_links (s : State) (nsid b : Nat) (x : Bun) : (s.setBun nsid b x).links = s.links := rfl
@[simp] theorem State.setBun_cip (s : State) (nsid b : Nat) (x : Bun) : (s.setBun nsid b x).cip = s.cip := rfl
@[simp] theorem State.setBun_vat (s : State) (nsid b : Nat) (x : Bun) : (s.setBun nsid b x).vat = s.vat := rfl
@[simp] theorem State.setBun_ldp (s : State) (nsid b : Nat) (x : Bun) : (s.setBun nsid b x).ldp = s.ldp := rfl
@[simp] theorem State.setBun_hist (s : State) (nsid b : Nat) (x : Bun) : (s.setBun nsid b x).hist = s.hist := rfl
@[simp] theorem State.setBun_cal (s : State) (nsid b : Nat) (x : Bun) : (s.setBun nsid b x).cal = s.cal := rfl
@[simp] theorem State.setBun_drc (s : State) (nsid b : Nat) (x : Bun) : (s.setBun nsid b x).drc = s.drc := rfl
@[simp] theorem State.setBun_fst (s : State) (nsid b : Nat) (x : Bun) : (s.setBun nsid b x).fst = s.fst := rfl
@[simp] theorem State.setBun_led (s : State) (nsid b : Nat) (x : Bun) : (s.setBun nsid b x).led = s.led := rfl
@[simp] theorem State.setBun_pwr (s : State) (nsid b : Nat) (x : Bun) : (s.setBun nsid b x).pwr = s.pwr := rfl
@[simp] theorem State.setBun_brd (s : State) (nsid b : Nat) (x : Bun) : (s.setBun nsid b x).brd = s.brd := rfl

/-! ### `modChan` -/

theorem State.modChan_frame (s : State) (c : Nat) (f : Chan → Chan) : s.modChan c f = { s with drc := (s.modChan c f).drc } := rfl

@[simp] theorem State.modChan_pending (s : State) (c : Nat) (f : Chan → Chan) : (s.modChan c f).pending = s.pending := rfl
@[simp] theorem State.modChan_now (s : State) (c : Nat) (f : Chan → Chan) : (s.modChan c f).now = s.now := rfl
@[simp] theorem State.modChan_freeCtr (s : State) (c : Nat) (f : Chan → Chan) : (s.modChan c f).freeCtr = s.freeCtr := rfl
@[simp] theorem State.modChan_out (s : State) (c : Nat) (f : Chan → Chan) : (s.modChan c f).out = s.out := rfl
@[simp] theorem State.modChan_lastRead (s : State) (c : Nat) (f : Chan → Chan) : (s.modChan c f).lastRead = s.lastRead := rfl
@[simp] theorem State.modChan_mode (s : State) (c : Nat) (f : Chan → Chan) : (s.modChan c f).mode = s.mode := rfl
@[simp] theorem State.modChan_glb (s : State) (c : Nat) (f : Chan → Chan) : (s.modChan c f).glb = s.glb := rfl
@[simp] theorem State.modChan_par (s : State) (c : Nat) (f : Chan → Chan) : (s.modChan c f).par = s.par := rfl
@[simp] theorem State.modChan_adm (s : State) (c : Nat) (f : Chan → Chan) : (s.modChan c f).adm = s.adm := rfl
@[simp] theorem State.modChan_hif (s : State) (c : Nat) (f : Chan → Chan) : (s.modChan c f).hif = s.hif := rfl
@[simp] theorem State.modChan_fns (s : State) (c : Nat) (f : Chan → Chan) : (s.modChan c f).fns = s.fns := rfl
@[simp] theorem State.modChan_qs (s : State) (c : Nat) (f : Chan → Chan) : (s.modChan c f).qs = s.qs := rfl
@[simp] theorem State.modChan_sub (s : State) (c : Nat) (f : Chan → Chan) : (s.modChan c f).sub = s.sub := rfl
@[simp] theorem State.modChan_hz (s : State) (c : Nat) (f : Chan → Chan) : (s.modChan c f).hz = s.hz := rfl
@[simp] theorem State.modChan_nss (s : State) (c : Nat) (f : Chan → Chan) : (s.modChan c f).nss = s.nss := rfl
@[simp] theorem State.modChan_zones (s : State) (c : Nat) (f : Chan → Chan) : (s.modChan c f).zones = s.zones := rfl
@[simp] theorem State.modChan_media (s : State) (c : Nat) (f : Chan → Chan) : (s.modChan c f).media = s.media := rfl
@[simp] theorem State.modChan_links (s : State) (c : Nat) (f : Chan → Chan) : (s.modChan c f).links = s.links := rfl
@[simp] theorem State.modChan_cip (s : State) (c : Nat) (f : Chan → Chan) : (s.modChan c f).cip = s.cip := rfl
@[simp] theorem State.modChan_vat (s : State) (c : Nat) (f : Chan → Chan) : (s.modChan c f).vat = s.vat := rfl
@[simp] theorem State.modChan_ldp (s : State) (c : Nat) (f : Chan → Chan) : (s.modChan c f).ldp = s.ldp := rfl
@[simp] theorem State.modChan_hist (s : State) (c : Nat) (f : Chan → Chan) : (s.modChan c f).hist = s.hist := rfl
@[simp] theorem State.modChan_cal (s : State) (c : Nat) (f : Chan → Chan) : (s.modChan c f).cal = s.cal := rfl
@[simp] theorem State.modChan_fst (s : State) (c : Nat) (f : Chan → Chan) : (s.modChan c f).fst = s.fst := rfl
@[simp] theorem State.modChan_led (s : State) (c : Nat) (f : Chan → Chan) : (s.modChan c f).led = s.led := rfl
@[simp] theorem State.modChan_pwr (s : State) (c : Nat) (f : Chan → Chan) : (s.modChan c f).pwr = s.pwr := rfl
@[simp] theorem State.modChan_brd (s : State) (c : Nat) (f : Chan → Chan) : (s.modChan c f).brd = s.brd := rfl

/-! ### `modLane` -/

theorem State.modLane_frame (s : State) (k : Nat) (f : Lane → Lane) : s.modLane k f = { s with cip := (s.modLane k f).cip } := rfl

@[simp] theorem State.modLane_pending (s : State) (k : Nat) (f : Lane → Lane) : (s.modLane k f).pending = s.pending := rfl
@[simp] theorem State.modLane_now (s : State) (k : Nat) (f : Lane → Lane) : (s.modLane k f).now = s.now := rfl
@[simp] theorem State.modLane_freeCtr (s : State) (k : Nat) (f : Lane → Lane) : (s.modLane k f).freeCtr = s.freeCtr := rfl
@[simp] theorem State.modLane_out (s : State) (k : Nat) (f : Lane → Lane) : (s.modLane k f).out = s.out := rfl
@[simp] theorem State.modLane_lastRead (s : State) (k : Nat) (f : Lane → Lane) : (s.modLane k f).lastRead = s.lastRead := rfl
@[simp] theorem State.modLane_mode (s : State) (k : Nat) (f : Lane → Lane) : (s.modLane k f).mode = s.mode := rfl
@[simp] theorem State.modLane_glb (s : State) (k : Nat) (f : Lane → Lane) : (s.modLane k f).glb = s.glb := rfl
@[simp] theorem State.modLane_par (s : State) (k : Nat) (f : Lane → Lane) : (s.modLane k f).par = s.par := rfl
@[simp] theorem State.modLane_adm (s : State) (k : Nat) (f : Lane → Lane) : (s.modLane k f).adm = s.adm := rfl
@[simp] theorem State.modLane_hif (s : State) (k : Nat) (f : Lane → Lane) : (s.modLane k f).hif = s.hif := rfl
@[simp] theorem State.modLane_fns (s : State) (k : Nat) (f : Lane → Lane) : (s.modLane k f).fns = s.fns := rfl
@[simp] theorem State.modLane_qs (s : State) (k : Nat) (f : Lane → Lane) : (s.modLane k f).qs = s.qs := rfl
@[simp] theorem State.modLane_sub (s : State) (k : Nat) (f : Lane → Lane) : (s.modLane k f).sub = s.sub := rfl
@[simp] theorem State.modLane_hz (s : State) (k : Nat) (f : Lane → Lane) : (s.modLane k f).hz = s.hz := rfl
@[simp] theorem State.modLane_nss (s : State) (k : Nat) (f : Lane → Lane) : (s.modLane k f).nss = s.nss := rfl
@[simp] theorem State.modLane_zones (s : State) (k : Nat) (f : Lane → Lane) : (s.modLane k f).zones = s.zones := rfl
@[simp] theorem State.modLane_media (s : State) (k : Nat) (f : Lane → Lane) : (s.modLane k f).media = s.media := rfl
@[simp] theorem State.modLane_links (s : State) (k : Nat) (f : Lane → Lane) : (s.modLane k f).links = s.links := rfl
@[simp] theorem State.modLane_vat (s : State) (k : Nat) (f : Lane → Lane) : (s.modLane k f).vat = s.vat := rfl
@[simp] theorem State.modLane_ldp (s : State) (k : Nat) (f : Lane → Lane) : (s.modLane k f).ldp = s.ldp := rfl
@[simp] theorem State.modLane_hist (s : State) (k : Nat) (f : Lane → Lane) : (s.modLane k f).hist = s.hist := rfl
@[simp] theorem State.modLane_cal (s : State) (k : Nat) (f : Lane → Lane) : (s.modLane k f).cal = s.cal := rfl
@[simp] theorem State.modLane_drc (s : State) (k : Nat) (f : Lane → Lane) : (s.modLane k f).drc = s.drc := rfl
@[simp] theorem State.modLane_fst (s : State) (k : Nat) (f : Lane → Lane) : (s.modLane k f).fst = s.fst := rfl
@[simp] theorem State.modLane_led (s : State) (k : Nat) (f : Lane → Lane) : (s.modLane k f).led = s.led := rfl
@[simp] theorem State.modLane_pwr (s : State) (k : Nat) (f : Lane → Lane) : (s.modLane k f).pwr = s.pwr := rfl
@[simp] theorem State.modLane_brd (s : State) (k : Nat) (f : Lane → Lane) : (s.modLane k f).brd = s.brd := rfl

/-! ### `modUnit` -/

theorem State.modUnit_frame (s : State) (i idx : Nat) (f : IoUnit → IoUnit) : s.modUnit i idx f = { s with sub := (s.modUnit i idx f).sub } := by
  unfold State.modUnit; split
  · rfl
  · split <;> rfl

@[simp] theorem State.modUnit_pending (s : State) (i idx : Nat) (f : IoUnit → IoUnit) : (s.modUnit i idx f).pending = s.pending := by rw [State.modUnit_frame]
@[simp] theorem State.modUnit_now (s : State) (i idx : Nat) (f : IoUnit → IoUnit) : (s.modUnit i idx f).now = s.now := by rw [State.modUnit_frame]
@[simp] theorem State.modUnit_freeCtr (s : State) (i idx : Nat) (f : IoUnit → IoUnit) : (s.modUnit i idx f).freeCtr = s.freeCtr := by rw [State.modUnit_frame]
@[simp] theorem State.modUnit_out (s : State) (i idx : Nat) (f : IoUnit → IoUnit) : (s.modUnit i idx f).out = s.out := by rw [State.modUnit_frame]
@[simp] theorem State.modUnit_lastRead (s : State) (i idx : Nat) (f : IoUnit → IoUnit) : (s.modUnit i idx f).lastRead = s.lastRead := by rw [State.modUnit_frame]
@[simp] theorem State.modUnit_mode (s : State) (i idx : Nat) (f : IoUnit → IoUnit) : (s.modUnit i idx f).mode = s.mode := by rw [State.modUnit_frame]
@[simp] theorem State.modUnit_glb (s : State) (i idx : Nat) (f : IoUnit → IoUnit) : (s.modUnit i idx f).glb = s.glb := by rw [State.modUnit_frame]
@[simp] theorem State.modUnit_par (s : State) (i idx : Nat) (f : IoUnit → IoUnit) : (s.modUnit i idx f).par = s.par := by rw [State.modUnit_frame]
@[simp] theorem State.modUnit_adm (s : State) (i idx : Nat) (f : IoUnit → IoUnit) : (s.modUnit i idx f).adm = s.adm := by rw [State.modUnit_frame]
@[simp] theorem State.modUnit_hif (s : State) (i idx : Nat) (f : IoUnit → IoUnit) : (s.modUnit i idx f).hif = s.hif := by rw [State.modUnit_frame]
@[simp] theorem State.modUnit_fns (s : State) (i idx : Nat) (f : IoUnit → IoUnit) : (s.modUnit i idx f).fns = s.fns := by rw [State.modUnit_frame]
@[simp] theorem State.modUnit_qs (s : State) (i idx : Nat) (f : IoUnit → IoUnit) : (s.modUnit i idx f).qs = s.qs := by rw [State.modUnit_frame]
@[simp] theorem State.modUnit_hz (s : State) (i idx : Nat) (f : IoUnit → IoUnit) : (s.modUnit i idx f).hz = s.hz := by rw [State.modUnit_frame]
@[simp] theorem State.modUnit_nss (s : State) (i idx : Nat) (f : IoUnit → IoUnit) : (s.modUnit i idx f).nss = s.nss := by rw [State.modUnit_frame]
@[simp] theorem State.modUnit_zones (s : State) (i idx : Nat) (f : IoUnit → IoUnit) : (s.modUnit i idx f).zones = s.zones := by rw [State.modUnit_frame]
@[simp] theorem State.modUnit_media (s : State) (i idx : Nat) (f : IoUnit → IoUnit) : (s.modUnit i idx f).media = s.media := by rw [State.modUnit_frame]
@[simp] theorem State.modUnit_links (s : State) (i idx : Nat) (f : IoUnit → IoUnit) : (s.modUnit i idx f).links = s.links := by rw [State.modUnit_frame]
@[simp] theorem State.modUnit_cip (s : State) (i idx : Nat) (f : IoUnit → IoUnit) : (s.modUnit i idx f).cip = s.cip := by rw [State.modUnit_frame]
@[simp] theorem State.modUnit_vat (s : State) (i idx : Nat) (f : IoUnit → IoUnit) : (s.modUnit i idx f).vat = s.vat := by rw [State.modUnit_frame]
@[simp] theorem State.modUnit_ldp (s : State) (i idx : Nat) (f : IoUnit → IoUnit) : (s.modUnit i idx f).ldp = s.ldp := by rw [State.modUnit_frame]
@[simp] theorem State.modUnit_hist (s : State) (i idx : Nat) (f : IoUnit → IoUnit) : (s.modUnit i idx f).hist = s.hist := by rw [State.modUnit_frame]
@[simp] theorem State.modUnit_cal (s : State) (i idx : Nat) (f : IoUnit → IoUnit) : (s.modUnit i idx f).cal = s.cal := by rw [State.modUnit_frame]
@[simp] theorem State.modUnit_drc (s : State) (i idx : Nat) (f : IoUnit → IoUnit) : (s.modUnit i idx f).drc = s.drc := by rw [State.modUnit_frame]
@[simp] theorem State.modUnit_fst (s : State) (i idx : Nat) (f : IoUnit → IoUnit) : (s.modUnit i idx f).fst = s.fst := by rw [State.modUnit_frame]
@[simp] theorem State.modUnit_led (s : State) (i idx : Nat) (f : IoUnit → IoUnit) : (s.modUnit i idx f).led = s.led := by rw [State.modUnit_frame]
@[simp] theorem State.modUnit_pwr (s : State) (i idx : Nat) (f : IoUnit → IoUnit) : (s.modUnit i idx f).pwr = s.pwr := by rw [State.modUnit_frame]
@[simp] theorem State.modUnit_brd (s : State) (i idx : Nat) (f : IoUnit → IoUnit) : (s.modUnit i idx f).brd = s.brd := by rw [State.modUnit_frame]

/-! ### `modIde` -/

theorem State.modIde_frame (s : State) (n : Nat) (f : Ide → Ide) : s.modIde n f = { s with hif := (s.modIde n f).hif } := rfl

@[simp] theorem State.modIde_pending (s : State) (n : Nat) (f : Ide → Ide) : (s.modIde n f).pending = s.pending := rfl
@[simp] theorem State.modIde_now (s : State) (n : Nat) (f : Ide → Ide) : (s.modIde n f).now = s.now := rfl
@[simp] theorem State.modIde_freeCtr (s : State) (n : Nat) (f : Ide → Ide) : (s.modIde n f).freeCtr = s.freeCtr := rfl
@[simp] theorem State.modIde_out (s : State) (n : Nat) (f : Ide → Ide) : (s.modIde n f).out = s.out := rfl
@[simp] theorem State.modIde_lastRead (s : State) (n : Nat) (f : Ide → Ide) : (s.modIde n f).lastRead = s.lastRead := rfl
@[simp] theorem State.modIde_mode (s : State) (n : Nat) (f : Ide → Ide) : (s.modIde n f).mode = s.mode := rfl
@[simp] theorem State.modIde_glb (s : State) (n : Nat) (f : Ide → Ide) : (s.modIde n f).glb = s.glb := rfl
@[simp] theorem State.modIde_par (s : State) (n : Nat) (f : Ide → Ide) : (s.modIde n f).par = s.par := rfl
@[simp] theorem State.modIde_adm (s : State) (n : Nat) (f : Ide → Ide) : (s.modIde n f).adm = s.adm := rfl
@[simp] theorem State.modIde_fns (s : State) (n : Nat) (f : Ide → Ide) : (s.modIde n f).fns = s.fns := rfl
@[simp] theorem State.modIde_qs (s : State) (n : Nat) (f : Ide → Ide) : (s.modIde n f).qs = s.qs := rfl
@[simp] theorem State.modIde_sub (s : State) (n : Nat) (f : Ide → Ide) : (s.modIde n f).sub = s.sub := rfl
@[simp] theorem State.modIde_hz (s : State) (n : Nat) (f : Ide → Ide) : (s.modIde n f).hz = s.hz := rfl
@[simp] theorem State.modIde_nss (s : State) (n : Nat) (f : Ide → Ide) : (s.modIde n f).nss = s.nss := rfl
@[simp] theorem State.modIde_zones (s : State) (n : Nat) (f : Ide → Ide) : (s.modIde n f).zones = s.zones := rfl
@[simp] theorem State.modIde_media (s : State) (n : Nat) (f : Ide → Ide) : (s.modIde n f).media = s.media := rfl
@[simp] theorem State.modIde_links (s : State) (n : Nat) (f : Ide → Ide) : (s.modIde n f).links = s.links := rfl
@[simp] theorem State.modIde_cip (s : State) (n : Nat) (f : Ide → Ide) : (s.modIde n f).cip = s.cip := rfl
@[simp] theorem State.modIde_vat (s : State) (n : Nat) (f : Ide → Ide) : (s.modIde n f).vat = s.vat := rfl
@[simp] theorem State.modIde_ldp (s : State) (n : Nat) (f : Ide → Ide) : (s.modIde n f).ldp = s.ldp := rfl
@[simp] theorem State.modIde_hist (s : State) (n : Nat) (f : Ide → Ide) : (s.modIde n f).hist = s.hist := rfl
@[simp] theorem State.modIde_cal (s : State) (n : Nat) (f : Ide → Ide) : (s.modIde n f).cal = s.cal := rfl
@[simp] theorem State.modIde_drc (s : State) (n : Nat) (f : Ide → Ide) : (s.modIde n f).drc = s.drc := rfl
@[simp] theorem State.modIde_fst (s : State) (n : Nat) (f : Ide → Ide) : (s.modIde n f).fst = s.fst := rfl
@[simp] theorem State.modIde_led (s : State) (n : Nat) (f : Ide → Ide) : (s.modIde n f).led = s.led := rfl
@[simp] theorem State.modIde_pwr (s : State) (n : Nat) (f : Ide → Ide) : (s.modIde n f).pwr = s.pwr := rfl
@[simp] theorem State.modIde_brd (s : State) (n : Nat) (f : Ide → Ide) : (s.modIde n f).brd = s.brd := rfl

/-! ### `modLoop` -/

theorem State.modLoop_frame (s : State) (n : Nat) (f : Loop → Loop) : s.modLoop n f = { s with cal := (s.modLoop n f).cal } := rfl

@[simp] theorem State.modLoop_pending (s : State) (n : Nat) (f : Loop → Loop) : (s.modLoop n f).pending = s.pending := rfl
@[simp] theorem State.modLoop_now (s : State) (n : Nat) (f : Loop → Loop) : (s.modLoop n f).now = s.now := rfl
@[simp] theorem State.modLoop_freeCtr (s : State) (n : Nat) (f : Loop → Loop) : (s.modLoop n f).freeCtr = s.freeCtr := rfl
@[simp] theorem State.modLoop_out (s : State) (n : Nat) (f : Loop → Loop) : (s.modLoop n f).out = s.out := rfl
@[simp] theorem State.modLoop_lastRead (s : State) (n : Nat) (f : Loop → Loop) : (s.modLoop n f).lastRead = s.lastRead := rfl
@[simp] theorem State.modLoop_mode (s : State) (n : Nat) (f : Loop → Loop) : (s.modLoop n f).mode = s.mode := rfl
@[simp] theorem State.modLoop_glb (s : State) (n : Nat) (f : Loop → Loop) : (s.modLoop n f).glb = s.glb := rfl
@[simp] theorem State.modLoop_par (s : State) (n : Nat) (f : Loop → Loop) : (s.modLoop n f).par = s.par := rfl
@[simp] theorem State.modLoop_adm (s : State) (n : Nat) (f : Loop → Loop) : (s.modLoop n f).adm = s.adm := rfl
@[simp] theorem State.modLoop_hif (s : State) (n : Nat) (f : Loop → Loop) : (s.modLoop n f).hif = s.hif := rfl
@[simp] theorem State.modLoop_fns (s : State) (n : Nat) (f : Loop → Loop) : (s.modLoop n f).fns = s.fns := rfl
@[simp] theorem State.modLoop_qs (s : State) (n : Nat) (f : Loop → Loop) : (s.modLoop n f).qs = s.qs := rfl
@[simp] theorem State.modLoop_sub (s : State) (n : Nat) (f : Loop → Loop) : (s.modLoop n f).sub = s.sub := rfl
@[simp] theorem State.modLoop_hz (s : State) (n : Nat) (f : Loop → Loop) : (s.modLoop n f).hz = s.hz := rfl
@[simp] theorem State.modLoop_nss (s : State) (n : Nat) (f : Loop → Loop) : (s.modLoop n f).nss = s.nss := rfl
@[simp] theorem State.modLoop_zones (s : State) (n : Nat) (f : Loop → Loop) : (s.modLoop n f).zones = s.zones := rfl
@[simp] theorem State.modLoop_media (s : State) (n : Nat) (f : Loop → Loop) : (s.modLoop n f).media = s.media := rfl
@[simp] theorem State.modLoop_links (s : State) (n : Nat) (f : Loop → Loop) : (s.modLoop n f).links = s.links := rfl
@[simp] theorem State.modLoop_cip (s : State) (n : Nat) (f : Loop → Loop) : (s.modLoop n f).cip = s.cip := rfl
@[simp] theorem State.modLoop_vat (s : State) (n : Nat) (f : Loop → Loop) : (s.modLoop n f).vat = s.vat := rfl
@[simp] theorem State.modLoop_ldp (s : State) (n : Nat) (f : Loop → Loop) : (s.modLoop n f).ldp = s.ldp := rfl
@[simp] theorem State.modLoop_hist (s : State) (n : Nat) (f : Loop → Loop) : (s.modLoop n f).hist = s.hist := rfl
@[simp] theorem State.modLoop_drc (s : State) (n : Nat) (f : Loop → Loop) : (s.modLoop n f).drc = s.drc := rfl
@[simp] theorem State.modLoop_fst (s : State) (n : Nat) (f : Loop → Loop) : (s.modLoop n f).fst = s.fst := rfl
@[simp] theorem State.modLoop_led (s : State) (n : Nat) (f : Loop → Loop) : (s.modLoop n f).led = s.led := rfl
@[simp] theorem State.modLoop_pwr (s : State) (n : Nat) (f : Loop → Loop) : (s.modLoop n f).pwr = s.pwr := rfl
@[simp] theorem State.modLoop_brd (s : State) (n : Nat) (f : Loop → Loop) : (s.modLoop n f).brd = s.brd := rfl

/-! ### `setAct` -/

theorem State.setAct_frame (s : State) (a : Nat) (u : Int) : s.setAct a u = { s with cal := (s.setAct a u).cal } := rfl

@[simp] theorem State.setAct_pending (s : State) (a : Nat) (u : Int) : (s.setAct a u).pending = s.pending := rfl
@[simp] theorem State.setAct_now (s : State) (a : Nat) (u : Int) : (s.setAct a u).now = s.now := rfl
@[simp] theorem State.setAct_freeCtr (s : State) (a : Nat) (u : Int) : (s.setAct a u).freeCtr = s.freeCtr := rfl
@[simp] theorem State.setAct_out (s : State) (a : Nat) (u : Int) : (s.setAct a u).out = s.out := rfl
@[simp] theorem State.setAct_lastRead (s : State) (a : Nat) (u : Int) : (s.setAct a u).lastRead = s.lastRead := rfl
@[simp] theorem State.setAct_mode (s : State) (a : Nat) (u : Int) : (s.setAct a u).mode = s.mode := rfl
@[simp] theorem State.setAct_glb (s : State) (a : Nat) (u : Int) : (s.setAct a u).glb = s.glb := rfl
@[simp] theorem State.setAct_par (s : State) (a : Nat) (u : Int) : (s.setAct a u).par = s.par := rfl
@[simp] theorem State.setAct_adm (s : State) (a : Nat) (u : Int) : (s.setAct a u).adm = s.adm := rfl
@[simp] theorem State.setAct_hif (s : State) (a : Nat) (u : Int) : (s.setAct a u).hif = s.hif := rfl
@[simp] theorem State.setAct_fns (s : State) (a : Nat) (u : Int) : (s.setAct a u).fns = s.fns := rfl
@[simp] theorem State.setAct_qs (s : State) (a : Nat) (u : Int) : (s.setAct a u).qs = s.qs := rfl
@[simp] theorem State.setAct_sub (s : State) (a : Nat) (u : Int) : (s.setAct a u).sub = s.sub := rfl
@[simp] theorem State.setAct_hz (s : State) (a : Nat) (u : Int) : (s.setAct a u).hz = s.hz := rfl
@[simp] theorem State.setAct_nss (s : State) (a : Nat) (u : Int) : (s.setAct a u).nss = s.nss := rfl
@[simp] theorem State.setAct_zones (s : State) (a : Nat) (u : Int) : (s.setAct a u).zones = s.zones := rfl
@[simp] theorem State.setAct_media (s : State) (a : Nat) (u : Int) : (s.setAct a u).media = s.media := rfl
@[simp] theorem State.setAct_links (s : State) (a : Nat) (u : Int) : (s.setAct a u).links = s.links := rfl
@[simp] theorem State.setAct_cip (s : State) (a : Nat) (u : Int) : (s.setAct a u).cip = s.cip := rfl
@[simp] theorem State.setAct_vat (s : State) (a : Nat) (u : Int) : (s.setAct a u).vat = s.vat := rfl
@[simp] theorem State.setAct_ldp (s : State) (a : Nat) (u : Int) : (s.setAct a u).ldp = s.ldp := rfl
@[simp] theorem State.setAct_hist (s : State) (a : Nat) (u : Int) : (s.setAct a u).hist = s.hist := rfl
@[simp] theorem State.setAct_drc (s : State) (a : Nat) (u : Int) : (s.setAct a u).drc = s.drc := rfl
@[simp] theorem State.setAct_fst (s : State) (a : Nat) (u : Int) : (s.setAct a u).fst = s.fst := rfl
@[simp] theorem State.setAct_led (s : State) (a : Nat) (u : Int) : (s.setAct a u).led = s.led := rfl
@[simp] theorem State.setAct_pwr (s : State) (a : Nat) (u : Int) : (s.setAct a u).pwr = s.pwr := rfl
@[simp] theorem State.setAct_brd (s : State) (a : Nat) (u : Int) : (s.setAct a u).brd = s.brd := rfl

/-! ### `modImg` -/

theorem State.modImg_frame (s : State) (k : Nat) (f : Image → Image) : s.modImg k f = { s with fst := (s.modImg k f).fst } := rfl

@[simp] theorem State.modImg_pending (s : State) (k : Nat) (f : Image → Image) : (s.modImg k f).pending = s.pending := rfl
@[simp] theorem State.modImg_now (s : State) (k : Nat) (f : Image → Image) : (s.modImg k f).now = s.now := rfl
@[simp] theorem State.modImg_freeCtr (s : State) (k : Nat) (f : Image → Image) : (s.modImg k f).freeCtr = s.freeCtr := rfl
@[simp] theorem State.modImg_out (s : State) (k : Nat) (f : Image → Image) : (s.modImg k f).out = s.out := rfl
@[simp] theorem State.modImg_lastRead (s : State) (k : Nat) (f : Image → Image) : (s.modImg k f).lastRead = s.lastRead := rfl
@[simp] theorem State.modImg_mode (s : State) (k : Nat) (f : Image → Image) : (s.modImg k f).mode = s.mode := rfl
@[simp] theorem State.modImg_glb (s : State) (k : Nat) (f : Image → Image) : (s.modImg k f).glb = s.glb := rfl
@[simp] theorem State.modImg_par (s : State) (k : Nat) (f : Image → Image) : (s.modImg k f).par = s.par := rfl
@[simp] theorem State.modImg_adm (s : State) (k : Nat) (f : Image → Image) : (s.modImg k f).adm = s.adm := rfl
@[simp] theorem State.modImg_hif (s : State) (k : Nat) (f : Image → Image) : (s.modImg k f).hif = s.hif := rfl
@[simp] theorem State.modImg_fns (s : State) (k : Nat) (f : Image → Image) : (s.modImg k f).fns = s.fns := rfl
@[simp] theorem State.modImg_qs (s : State) (k : Nat) (f : Image → Image) : (s.modImg k f).qs = s.qs := rfl
@[simp] theorem State.modImg_sub (s : State) (k : Nat) (f : Image → Image) : (s.modImg k f).sub = s.sub := rfl
@[simp] theorem State.modImg_hz (s : State) (k : Nat) (f : Image → Image) : (s.modImg k f).hz = s.hz := rfl
@[simp] theorem State.modImg_nss (s : State) (k : Nat) (f : Image → Image) : (s.modImg k f).nss = s.nss := rfl
@[simp] theorem State.modImg_zones (s : State) (k : Nat) (f : Image → Image) : (s.modImg k f).zones = s.zones := rfl
@[simp] theorem State.modImg_media (s : State) (k : Nat) (f : Image → Image) : (s.modImg k f).media = s.media := rfl
@[simp] theorem State.modImg_links (s : State) (k : Nat) (f : Image → Image) : (s.modImg k f).links = s.links := rfl
@[simp] theorem State.modImg_cip (s : State) (k : Nat) (f : Image → Image) : (s.modImg k f).cip = s.cip := rfl
@[simp] theorem State.modImg_vat (s : State) (k : Nat) (f : Image → Image) : (s.modImg k f).vat = s.vat := rfl
@[simp] theorem State.modImg_ldp (s : State) (k : Nat) (f : Image → Image) : (s.modImg k f).ldp = s.ldp := rfl
@[simp] theorem State.modImg_hist (s : State) (k : Nat) (f : Image → Image) : (s.modImg k f).hist = s.hist := rfl
@[simp] theorem State.modImg_cal (s : State) (k : Nat) (f : Image → Image) : (s.modImg k f).cal = s.cal := rfl
@[simp] theorem State.modImg_drc (s : State) (k : Nat) (f : Image → Image) : (s.modImg k f).drc = s.drc := rfl
@[simp] theorem State.modImg_led (s : State) (k : Nat) (f : Image → Image) : (s.modImg k f).led = s.led := rfl
@[simp] theorem State.modImg_pwr (s : State) (k : Nat) (f : Image → Image) : (s.modImg k f).pwr = s.pwr := rfl
@[simp] theorem State.modImg_brd (s : State) (k : Nat) (f : Image → Image) : (s.modImg k f).brd = s.brd := rfl

/-! ### `setTokens` -/

theorem State.setTokens_frame (s : State) (f n : Nat) : s.setTokens f n = { s with led := (s.setTokens f n).led } := rfl

@[simp] theorem State.setTokens_pending (s : State) (f n : Nat) : (s.setTokens f n).pending = s.pending := rfl
@[simp] theorem State.setTokens_now (s : State) (f n : Nat) : (s.setTokens f n).now = s.now := rfl
@[simp] theorem State.setTokens_freeCtr (s : State) (f n : Nat) : (s.setTokens f n).freeCtr = s.freeCtr := rfl
@[simp] theorem State.setTokens_out (s : State) (f n : Nat) : (s.setTokens f n).out = s.out := rfl
@[simp] theorem State.setTokens_lastRead (s : State) (f n : Nat) : (s.setTokens f n).lastRead = s.lastRead := rfl
@[simp] theorem State.setTokens_mode (s : State) (f n : Nat) : (s.setTokens f n).mode = s.mode := rfl
@[simp] theorem State.setTokens_glb (s : State) (f n : Nat) : (s.setTokens f n).glb = s.glb := rfl
@[simp] theorem State.setTokens_par (s : State) (f n : Nat) : (s.setTokens f n).par = s.par := rfl
@[simp] theorem State.setTokens_adm (s : State) (f n : Nat) : (s.setTokens f n).adm = s.adm := rfl
@[simp] theorem State.setTokens_hif (s : State) (f n : Nat) : (s.setTokens f n).hif = s.hif := rfl
@[simp] theorem State.setTokens_fns (s : State) (f n : Nat) : (s.setTokens f n).fns = s.fns := rfl
@[simp] theorem State.setTokens_qs (s : State) (f n : Nat) : (s.setTokens f n).qs = s.qs := rfl
@[simp] theorem State.setTokens_sub (s : State) (f n : Nat) : (s.setTokens f n).sub = s.sub := rfl
@[simp] theorem State.setTokens_hz (s : State) (f n : Nat) : (s.setTokens f n).hz = s.hz := rfl
@[simp] theorem State.setTokens_nss (s : State) (f n : Nat) : (s.setTokens f n).nss = s.nss := rfl
@[simp] theorem State.setTokens_zones (s : State) (f n : Nat) : (s.setTokens f n).zones = s.zones := rfl
@[simp] theorem State.setTokens_media (s : State) (f n : Nat) : (s.setTokens f n).media = s.media := rfl
@[simp] theorem State.setTokens_links (s : State) (f n : Nat) : (s.setTokens f n).links = s.links := rfl
@[simp] theorem State.setTokens_cip (s : State) (f n : Nat) : (s.setTokens f n).cip = s.cip := rfl
@[simp] theorem State.setTokens_vat (s : State) (f n : Nat) : (s.setTokens f n).vat = s.vat := rfl
@[simp] theorem State.setTokens_ldp (s : State) (f n : Nat) : (s.setTokens f n).ldp = s.ldp := rfl
@[simp] theorem State.setTokens_hist (s : State) (f n : Nat) : (s.setTokens f n).hist = s.hist := rfl
@[simp] theorem State.setTokens_cal (s : State) (f n : Nat) : (s.setTokens f n).cal = s.cal := rfl
@[simp] theorem State.setTokens_drc (s : State) (f n : Nat) : (s.setTokens f n).drc = s.drc := rfl
@[simp] theorem State.setTokens_fst (s : State) (f n : Nat) : (s.setTokens f n).fst = s.fst := rfl
@[simp] theorem State.setTokens_pwr (s : State) (f n : Nat) : (s.setTokens f n).pwr = s.pwr := rfl
@[simp] theorem State.setTokens_brd (s : State) (f n : Nat) : (s.setTokens f n).brd = s.brd := rfl

end Sys2Proof.Machine
end

