-- ==== Sys2Proof/WellFormed.lean ====
section
/-! DEFINITION. Which commands are well formed: each operand names a thing that the spec gives the block, and a field fits
its width. -/

namespace Sys2Proof

/-- A global function number (02 R36). -/
def okGfn (g : Nat) : Bool := g < 1024

/-- A local queue number (03 R63). -/
def okQid (q : Nat) : Bool := q < 4096

/-- A command-store slot (03 R65). -/
def okSlot (i : Nat) : Bool := i < 65536

/-- A media link (10 R275), which is also a cipher lane (11 R326). -/
def okLink (k : Nat) : Bool := k < 96

/-- A deckle (09 R238). -/
def okDeckle (d : Nat) : Bool := d < 3

/-- A link group or PF (02 R31). -/
def okPf (p : Nat) : Bool := p < 8

/-- A DRAM channel (13 R371). -/
def okChan (c : Nat) : Bool := c < 8

/-- A placement group (05 R153). -/
def okGrp (g : Nat) : Bool := g < 16

/-- The sender of a message: a function or the MCTP endpoint (06 R163, R192). -/
def okSrc (s : Sender) : Bool := match s with | some g => okGfn g | none => true

/-- Task bytes lie in the page's TASK area (03 R66). -/
def okTask (l : List (Nat × Byte)) : Bool := l.all (fun p => p.1 < 64)

/-- A write of at most 8 bytes; its value fits (00 R6). -/
def okWidth (width value : Nat) : Bool := width ≤ 8 && value < 2 ^ (8 * width)

/-- A request that an engine sends to DRAM (13 R388). -/
def okDram (r : DramReq) : Bool := r.port < 12 && r.addr < 2 ^ 41

/-- Symbol changes of a DRAM line: 16 codewords of 20 symbols, each a byte that is not 0 (13 R375). -/
def okFlips (l : Flips) : Bool := l.all (fun p => p.1 < 320 && 0 < p.2 && p.2 < 256)

/-- A ream's quire and position (09 R244). -/
def okQuire (q pos : Nat) : Bool := q < 256 && pos < 32

/-- A field of w bits. -/
def okBits (w v : Nat) : Bool := v < 2 ^ w

/-- The command is well formed. -/
def Instr.wf (c : Instr) : Bool :=
  match c with
  | .taskWrite g q l => okGfn g && okQid q && okTask l && l.all (fun p => p.1 != 58)
  | .seal g q l => okGfn g && okQid q && okTask l && l.any (fun p => p.1 == 58)
  | .landingMove g q | .coalescingTimerExpiry g q => okGfn g && okQid q
  | .landingArbiter | .completionCollectorEntry => true
  | .dispatch i | .read i | .write i | .zoneAppend i | .flush i | .zoneMgmtOpen i | .zoneMgmtClose i | .zoneMgmtFinish i
  | .zoneMgmtReset i | .zoneMgmtOffline i | .zoneReport i | .deallocate i | .verify i | .copy i | .writeZeroes i | .nop i
  | .zoneSequenceHead i | .appendStage i | .completionEntryWrite i | .dmaTimeout i | .resetRingTimeout i => okSlot i
  | .listFetchDone i _ | .dmaCompletion i _ => okSlot i
  | .cipherUnitDone k i _ _ => okLink k && okSlot i
  | .mirrorWriteAck i p a b _ => okSlot i && p < 8 && a < 32 && b < 32
  | .irqGapExpiry g v => okGfn g && v < 1024
  | .msixUnmask g v => okGfn g && (match v with | some v => v < 1024 | none => true)
  | .crHeadWrite g q v | .tqResetWrite g q v => okGfn g && okQid q && okBits 32 v
  | .fnAbortWrite g v | .mbxDoorbellRing g v => okGfn g && okBits 32 v
  | .registerWrite g bar off w v =>
    okGfn g && (bar == 0 || bar == 2 || bar == 4 || bar == 7) && okBits 24 off && okWidth w v
  | .pwrXstatRead g => okGfn g
  | .bar4StaleRead g off => okGfn g && okBits 24 off
  | .identify s | .getParam s | .setParam s | .createQueue s | .deleteQueue s | .queueReset s | .nsCreate s | .nsDelete s
  | .nsFormat s | .nsAttachAttach s | .nsAttachDetach s | .keyLoad s | .kekInstall s | .keyDestroy s | .fwCommit s
  | .fwActivate s | .profileSelect s | .logRead s | .ledgerRead s | .ledgerFreeze s | .ledgerUnfreeze s | .ledgerClear s
  | .attestQuote s | .powerState s | .loopTarget s | .loopTune s | .loopInject s | .loopCaptureArm s | .loopCaptureRead s
  | .loopCaptureDisarm s | .vfEnableProvision s | .vfEnableRelease s | .functionQuiesce s | .functionResume s
  | .functionStateGet s | .functionStateSet s | .relayFetch s | .relayRespond s | .dirtyLogStart s | .dirtyLogHarvest s
  | .dirtyLogStop s | .functionAbort s | .controllerReset s | .sanitizeCryptoErase s | .sanitizeBlockErase s
  | .hseSearch s => okSrc s
  | .fwDownload s _ | .profileSave s _ => okSrc s
  | .ledgerClearNonce s n => okSrc s && n.length == 48
  | .fwActivateReady | .fwActivateTimeout | .holdDrainDone | .ledgerFreezeExpiry | .nonceExpiry | .watchdogExpiry
  | .sanitizeDone | .dlIdleTimeout | .getEndpointId | .getMctpVersionSupport | .getMessageTypeSupport | .perstAssert
  | .ps2IdleGate | .dormantEntry | .dormantCommit | .wakeRetry | .dumpEnd | .pfailReturnHigh | .pfailHighHoldExpiry
  | .pwrgdFall | .dramFillDone | .thermtrip | .stagingDrainDone | .fstBrownout | .fstEraseDone | .fstEraseResume
  | .vddAonInRegulation | .vddAonFall => true
  | .quiesceDrainDone g | .quiesceWaitTimeout g | .relayTimeout g | .flrInitiate g | .flrEnd g | .poisonedTlp g => okGfn g
  | .controllerResetSequence _ | .resetRelease _ | .dormantExit _ _ _ | .firmwareReady _ | .pfailSampled _ => true
  | .mctpMessage l => l.length ≤ 4096
  | .setEndpointId e => okBits 8 e
  | .doeDiscovery p _ i => okPf p && okBits 8 i
  | .doeAbort p => okPf p
  | .getVersion p _ | .getCapabilities p _ | .negotiateAlgorithms p _ | .getDigests p _ => okPf p
  | .getCertificate p _ x | .challenge p _ x => okPf p && okBits 8 x
  | .getMeasurements p _ x => okPf p && okBits 8 x
  | .keyExchange p _ x | .finish p x _ | .heartbeatSpdm p x | .keyUpdate p x | .endSession p x => okPf p && okBits 32 x
  | .ideKmKeyProg p x n | .ideKmKSetGo p x n | .ideKmKSetStop p x n => okPf p && okBits 32 x && okBits 8 n
  | .ideIntegrityFailure n => okBits 8 n
  | .linkRetrain p _ | .linkDown p | .dlUp p => okPf p
  | .perstDeassert x _ | .pwrgdRise x => x.lgrp < 4 && x.profile < 4
  | .vfEnableSet p n | .vfEnableClear p n => okPf p && okBits 16 n
  | .pfD3hot p _ | .pfD0Return p => okPf p
  | .wakeEvent c => 0 < c && c ≤ 8
  | .dormantBarAccess g bar off _ => okGfn g && (bar == 0 || bar == 2 || bar == 4) && okBits 24 off
  | .wakePowerGoodTimeout c i => c < 2 && okBits 8 i
  | .steepPatrol hs rs => hs.all (fun h => okLink h.link) && rs.all (fun r => r.dev < 8)
  | .clockLoss d _ => okBits 8 d
  | .crossingFence x => okBits 8 x
  | .pmbAlert l => l.all (fun p => p.1 < 8 && p.2 < 65536)
  | .avsCorrection r mv _ => r < 2 && okBits 16 mv
  | .quireVerified _ q => okQuire q 0
  | .sheetProgramIssue _ q p e => okQuire q p && e < 4
  | .admissionTokenRequest k _ | .linkQueueServe k => okLink k
  | .busyDieDecision k c _ _ _ => okLink k && c < 8
  | .decodeDone i _ c => okSlot i && (match c.slice with | some p => p < 32 | none => true)
  | .blockReplacement _ c => c < 3
  | .reamFormation d k g _ _ => okDeckle d && k < 6 && okGrp g
  | .eraseDone _ _ | .relocationSwitch _ | .gcBundleMove _ _ => true
  | .gcStart g => okGrp g
  | .stagingEviction d | .dumpReamReady d | .mapCheckpoint d | .journalProgram d | .intentBatch d => okDeckle d
  | .flitReceive k l => okLink k && l.length == 128
  | .alignReceive k l | .alignAckReceive k l => okLink k && l.length == 128
  | .replayTimerExpiry k | .linkSilenceTimeout k | .jts2Receive k | .eiosReceive k | .linkStateTimeout k | .heartbeatSend k
  | .heartbeat k | .heartbeatWindowExpiry k | .cmpl k | .dataRd k | .dieFail k | .temp k | .power k | .hubReset k
  | .eraseInt k | .chanFault k | .telemetry k | .parkReply k | .unparkReply k | .hubCfgReply k | .hubFwReply k
  | .hubCfgTimeout k | .hubLost k | .bringupTimeout k | .faultHoldExpiry k => okLink k
  | .jts1Receive k p r _ => okLink k && p < 16 && r < 16
  | .dieTimerExpiry k d => okLink k && d < 128
  | .hubSidebandReset k _ => okLink k
  | .hubIbi k c a => okLink k && okBits 8 c && okBits 8 a
  | .bufferRequest o s _ _ => okBits 7 o && 0 < s
  | .free o h => okBits 7 o && okBits 32 h
  | .give o h n => okBits 7 o && okBits 32 h && okBits 7 n
  | .search _ k m _ => k.lo ≤ k.last && okBits 16 m
  | .searchInsert _ k _ => k.lo ≤ k.last
  | .step _ => true
  | .modify i lo last => i < 65536 && lo ≤ last
  | .remove i => i < 65536
  | .loopSample n _ => n < 32
  | .dramSchedule c l f => okChan c && l.all okDram && okFlips f
  | .narrowWrite p a l f => okDram ⟨p, a, true, l⟩ && okFlips f
  | .mergeEntryTimeout e f => e < 64 && okFlips f
  | .scrubLine c f | .rankMigrationLine c f => okChan c && okFlips f
  | .rankMigrationDone c | .rhWindowClear c | .rfmRequest c => okChan c
  | .caparError c r _ => okChan c && r < 4
  | .dramRetrain c _ | .dramRetrainRetry c _ => okChan c
  | .fstVddMeasure v => okBits 8 v
  | .fstReadRequest _ => true
  | .ledgerEvent c a => okBits 16 c && a.length ≤ 24
  | .ledgerProgramDone _ => true
  | .ledgerTokenRefill f => f < 16
  | .calenderInputRefresh c _ => okBits 16 c
  | .reconstructBucketCredit c => c < 64
  | .hubSidebandTemperatureRead k _ => okLink k

end Sys2Proof
end

