-- ==== Sys2Proof/Tests/Slice0.lean ====
section
/-! SUPPORT. Tests: an ill-formed command for each well-formedness check, the spec's worked examples, one step here and there,
and for each clause of an obligation that has hypotheses one state and operands that meet them all. -/

open Sys2Proof Sys2Proof.Machine

set_option maxRecDepth 8000
set_option linter.unusedVariables false
set_option Elab.async false

namespace Sys2Proof.Tests

/-! ### Small states that the tests start from -/

/-- Bytes with some of them set. -/
def poke (l : List Byte) (f : List (Nat × Nat)) : List Byte := f.foldl (fun l p => l.set p.1 (BitVec.ofNat 8 p.2)) l
/-- A command with some bytes set. -/
def cmdB (f : List (Nat × Nat)) : List Byte := poke (List.replicate 64 0#8) f
/-- The block in SERVICE with link group 0 up. -/
def up : State := { State.reset with mode := { booting := false }, hif := { ports := [(0, { up := true })] } }
/-- A queue of 4 credits with a ring of 8 entries. -/
def q0 : Queue := { depth := 4, base := 4096, entries := 8, vector := 1, ccount := 1, ctime := 1, chken := false, avail := 4 }
/-- The block with that queue. -/
def upQ (q : Queue) : State := { up with qs := [(qkey 0 0, q)] }
/-- A command in the store. -/
def sl (f : List (Nat × Nat)) (ph : Phase) : Slot := { cmd := cmdB f, gfn := 0, qid := 0, cls := 0, acceptAt := 0, loc := .store, phase := ph }
/-- The block with a queue and a command. -/
def upS (x : Slot) : State := { upQ { q0 with avail := 3 } with sub := { slots := [(5, x)] } }
/-- The block with a state of function 0. -/
def upF (f : Fn) : State := { up with fns := [(0, { f with vf := .active })] }
/-- A whole command with its seal. -/
def sealed : List (Nat × Byte) := (List.range 64).map (fun i => (i, if i = 58 then 0x5C#8 else if i = 0 then 15#8 else 0#8))
/-- A dormant block. -/
def asleep : State := { up with mode := { booting := false, dormant := true }, pwr := { cur := 3 } }
/-- A zoned namespace of two zones attached to function 0. -/
def nsZ : Ns := { zoned := true, size := 1048576, home := 0, tagMode := 0, kslot := 0, fns := [0] }
/-- A random namespace attached to function 0. -/
def nsR : Ns := { zoned := false, size := 1048576, home := 0, tagMode := 0, kslot := 0, fns := [0] }
/-- The block with namespace 1 and a command. -/
def upN (ns : Ns) (x : Slot) : State := { upS x with nss := [(1, ns)] }
/-- The same with key slot 0 loaded and its page owned by function 0. -/
def upK (ns : Ns) (x : Slot) : State := { (upN ns x).setPv (pPageOwner 0) 0 with cip := { keys := [(0, { loaded := true, gen := 7 })] } }
/-- The same with zone 0 in a state. -/
def upZ (z : Zone) (x : Slot) : State := { upN nsZ x with zones := [(zkey 1 0, z)] }
/-- Fields of a command: opcode, namespace 1, NLB, byte 40. -/
def cf (opc nlb b40 : Nat) : List (Nat × Nat) := [(0, opc), (4, 1), (16, nlb), (40, b40)]
/-- A block version. -/
def bv : BlkVer := { data := { slot := 0, gen := 7, lba := 0, plain := [] } }
/-- A staged copy pair. -/
def stg : Staged := { ver := bv, chA := 0, chB := 1 }
/-- Two DRAM channels in service. -/
def drc2 : Drc := { chans := [(0, { st := 1, insvc := 1 }), (1, { st := 1, insvc := 1 })] }
/-- A mailbox request. -/
def rq (typ : Nat) (p : List Byte) : Req := { typ := typ, seq := 9, len := p.length, payload := p }
/-- A payload of n bytes with some set. -/
def pl (n : Nat) (f : List (Nat × Nat)) : List Byte := poke (List.replicate n 0#8) f
/-- The management PF with a request in service. -/
def upM (typ : Nat) (p : List Byte) : State := upF { mbBusy := true, req := some (rq typ p) }
/-- Key-slot page 0 belongs to function 0. -/
def page0 (s : State) : State := s.setPv (pPageOwner 0) 0
/-- All deckles have unreserved reams. -/
def reams (s : State) : State := { s with media := { s.media with deckles := [(0, { unresv := 9000 }), (1, { unresv := 9000 }), (2, { unresv := 9000 })] } }
/-- Payload of CREATE_QUEUE. -/
def pCq : List Byte := pl 24 [(4, 8), (6, 1), (9, 16), (16, 16), (20, 1), (22, 1)]
/-- Payload of NS_CREATE: namespace 2, zoned, 3 zones, group 0. -/
def pNs : List Byte := pl 24 [(0, 2), (8, 3)]
/-- The management PF with a request in service, and its first VF. -/
def upV (typ : Nat) (p : List Byte) (f : Fn) : State := { up with fns := [(0, { vf := .active, mbBusy := true, req := some (rq typ p) }), (8, f)] }
/-- A command of VF 8 in the store. -/
def slV (ph : Phase) : Slot := { sl [] ph with gfn := 8 }
/-- A firmware image of a few bytes, stored whole. -/
def img0 : Image := { bytes := [1#8, 2#8], total := 2 }
/-- A waiting relay entry of VF 8. -/
def rel (f : Bool) : Relay := { rid := 1, gfn := 8, fetched := f, req := rq 0x10 [] }
/-- A dirty log. -/
def dlog : Dirty := { base := 0, len := 8192, gran := 4096, bm0 := 4096, bm1 := 8192, cache := [1] }
/-- The board's rails are up. -/
def upB : State := { up with brd := { pwrgd := true, released := true } }
/-- The block has written its boot seal, and PF 0 holds some SPDM state. -/
def upD (f : Fn) : State := { upF f with led := { bootSealed := true } }
/-- An established SPDM session. -/
def ses (e : Bool) : List Session := [{ id := 3, established := e }]
/-- The same with IDE stream 7. -/
def upI (i : Ide) : State := { upD { sessions := ses true } with hif := { ports := [(0, { up := true })], ide := [(7, i)] } }
/-- PF 0 can be reached; the power controller stands as given. -/
def upP (p : Pwr) : State := { upB with pwr := p }
/-- A dormant block in a power state. -/
def upW (p : Pwr) : State := { upP p with mode := { booting := false, dormant := true } }
/-- The blocks of a ream: block `b` of die 0 of each link of deckle 0. -/
def blkRow (b : Nat) : List (Option Nat) := (List.range 32).map (fun i => some (blockKey i 0 b))
/-- A random ream of deckle 0 with one full quire. -/
def ream0 : Ream := { deckle := 0, kind := 2, grp := 0, entries := blkRow 0, fill := 1984 }
/-- The block runs and has these reams. -/
def upR (r : Tbl Ream) : State := { upB with media := { reams := r } }
/-- A link in LIVE. -/
def lk0 : Link := { st := 4, idle := false }
/-- Link 0 stands as given. -/
def upL (l : Link) : State := { upB with links := [(0, l)] }
/-- A read of die 3. -/
def op1 : LinkOp := { opc := 1, die := 3, len := 1, owner := .unit 5 0 }
/-- A command with one read unit under decode. -/
def slU : Slot := { sl [(0, 2), (4, 1)] .units with units := [(0, { nsid := 1, lba := 0, st := .decode })] }
/-- The block's version stands on media. -/
def upU (l : Link) : State :=
  { upB with links := [(0, l)], sub := { slots := [(5, slU)] }, media := { reams := [(0, ream0)], blks := [(bkey 1 0, { media := some (bv, { ream := 0, pos := 1 }) })] } }
/-- Link 0 holds one message on a virtual channel. -/
def upX (l : Link) (vc : Nat) (m : List Byte) : State := upL { l with rx := [(vc, m)] }
/-- The tag of a program of a sheet. -/
def tag3 : Tag := { gen := 0, op := { opc := 3, die := 3, owner := .sheet 0 0 1 } }
/-- A block whose channel 0 stands as given. -/
def upC (c : Chan) : State := { up with drc := { chans := [(0, c)] } }
/-- Channel 0 in service with rank 0. -/
def ch0 : Chan := { st := 1, insvc := 1 }
/-- One entry of the ledger. -/
def ev0 : LedEv := { code := 0x1001, arg := [1#8] }
/-- A block whose ledger stands as given. -/
def upE (l : Led) : State := { up with led := l }
/-- A block whose store stands as given. -/
def upT (f : Fst) : State := { up with fst := f }
/-- `n` entries at every second index. -/
def evens : Nat → Nat → Tbl HzEntry
  | 0, _ => []
  | n + 1, i => (i, {}) :: evens n (i + 2)
/-- Each of them is found. -/
theorem evens_full (n i j : Nat) (h : j < n) : (tfind (evens n i) (i + 2 * j)).isSome = true := by
  induction n generalizing i j with
  | zero => omega
  | succ n ih =>
    rw [evens, tfind]
    cases j with
    | zero => rw [if_pos (by omega)]; rfl
    | succ j =>
      have := ih (i + 2) j (by omega)
      rw [show i + 2 + 2 * j = i + 2 * (j + 1) by omega] at this
      rw [if_neg (by omega)]; exact this
/-- Where all are in use none is free. -/
theorem lowest_none (t : Tbl HzEntry) (n i : Nat) (h : ∀ j, j < n → (tfind t (i + 2 * j)).isSome = true) : hzLowest t n i = none := by
  induction n generalizing i with
  | zero => rfl
  | succ n ih =>
    have h0 := h 0 (by omega)
    unfold hzLowest
    split
    · rename_i h1; rw [Nat.mul_zero, Nat.add_zero, h1] at h0; cases h0
    · exact ih (i + 2) (fun j hj => by have := h (j + 1) (by omega); rwa [show i + 2 * (j + 1) = i + 2 + 2 * j by omega] at this)
/-- All of them are in use in the in-flight banks. -/
theorem evens_used (n i : Nat) (h : i + 2 * n ≤ 32768) :
    ((evens n i).filter (fun p => decide (0 ≤ hzBank p.1 ∧ hzBank p.1 < 8))).length = n := by
  induction n generalizing i with
  | zero => rfl
  | succ n ih =>
    have hb : decide (0 ≤ hzBank i ∧ hzBank i < 8) = true := decide_eq_true ⟨Nat.zero_le _, by unfold hzBank; omega⟩
    rw [evens, List.filter_cons, if_pos hb, List.length_cons, ih (i + 2) (by omega)]
/-- The request a function's buffer holds. -/
def reqAt (s : State) (g : Nat) : Req := reqOfBytes (memRead (s.fn g).reqBuf 0 4096)
/-- PF 0 with its first VF in service. -/
def upVf (f : Fn) : State := { up with fns := [(0, { vf := .active, numVfs := 2, vfEnable := true }), (8, { f with vf := .active })] }
/-- Two DRAM channels in service, for a block of any kind. -/
def wDrc (s : State) : State := { s with drc := drc2 }
/-- What taking a ream leaves. -/
def tookOf (t : Take) : State := match t with | .ok s _ _ => s | _ => {}
/-- Taking a ream answered one. -/
def isOk (t : Take) (id g : Nat) : Bool := match t with | .ok _ i h => i == id && h == g | _ => false
/-- Then it is what `tookOf` names. -/
theorem took_ok (t : Take) (id g : Nat) (h : isOk t id g = true) : t = .ok (tookOf t) id g := by
  cases t <;> simp_all [isOk, tookOf]
/-- A namespace with reams charged on each deckle. -/
def nsC : Ns := { nsZ with charged := [9, 9, 9] }
/-- A zone that holds a ream. -/
def upZR (z : Zone) (x : Slot) : State := { upZ z x with media := { reams := [(0, { deckle := 0, kind := 1, grp := 0, nsid := 1 })] }, drc := drc2 }
/-- A random namespace with tags. -/
def nsT : Ns := { nsR with tagMode := 1 }
/-- The same with LBA tags. -/
def nsT2 : Ns := { nsR with tagMode := 2 }
/-- A block on media of ream 0. -/
def mb0 : Blk := { media := some (bv, { ream := 0, pos := 1 }) }
/-- The operation that reads it. -/
def opOf (o : Option (Nat × LinkOp)) : LinkOp := match o with | some p => p.2 | none => { opc := 0 }
/-- SET_PARAM of one value to the management PF. -/
def upSet (flags : Nat) (id : List (Nat × Nat)) : State := upM 0x0003 (pl 20 ([(0, 1), (4, flags)] ++ id))
/-- Its request. -/
def rqSet (flags : Nat) (id : List (Nat × Nat)) : Req := rq 0x0003 (pl 20 ([(0, 1), (4, flags)] ++ id))
/-- An outcome entry. -/
def oe0 : OutEntry := { tag := 1, qid := 0, status := 0x304, seq := 2, result := 0, flags := 1, gfn := 0 }
/-- LOG_READ of the function's own log, one entry. -/
def rqLog (id : Nat) : Req := rq 0x0060 (pl 12 [(0, id), (8, 2)])
/-- A ledger clear under a zero nonce with a signature. -/
def rqClear (sig : List Byte) : Req := { typ := 0x0063, seq := 9, len := 148, payload := [1#8, 0#8, 0#8, 0#8] ++ zeros 48 ++ sig }
/-- It came over the service bus. -/
def upClear (sig : List Byte) : State :=
  { up with adm := { oob := some (rqClear sig) }, led := { nonce := some (zeros 48) } }
/-- The signature that verifies allows the clear. -/
theorem clear_ok (sig : List Byte) (hl : sig.length = 96) (hv : Config.ecdsaVerify (upClear sig).fst.fuses.owner
    (Config.sha384 (ascii "HLS-LCLR" ++ zeros 48 ++ (upClear sig).fst.fuses.serial)) sig = true) :
    (upClear sig).clearAllowed (sliceB (rqClear sig).payload 4 48) (sliceB (rqClear sig).payload 52 96) = true := by
  have h1 : sliceB (rqClear sig).payload 4 48 = zeros 48 := rfl
  have h2 : sliceB (rqClear sig).payload 52 96 = sig := by
    show sig.take 96 = sig; exact List.take_of_length_le (Nat.le_of_eq hl)
  rw [h1, h2]; unfold State.clearAllowed; rw [hv]; rfl
/-- What a request's standing reads of the state does not touch the firmware store. -/
theorem modeOf_fst (s : State) (f : Fst) : ({ s with fst := f } : State).modeOf = s.modeOf := rfl
theorem refuses_fst (s : State) (f : Fst) (a : Src) (b : Nat) : ({ s with fst := f } : State).refuses a b = s.refuses a b := rfl
theorem takeable_fst (s : State) (f : Fst) (a : Src) : ({ s with fst := f } : State).takeable a = s.takeable a := rfl
theorem myTurn_fst (s : State) (f : Fst) (a : Src) : ({ s with fst := f } : State).myTurn a = s.myTurn a := rfl
theorem reqOf_fst (s : State) (f : Fst) (a : Src) : ({ s with fst := f } : State).reqOf a = s.reqOf a := rfl
theorem ready_adm (s : State) (a : Admin) (l : Led) : ({ s with adm := a, led := l } : State).ready = s.ready := rfl
theorem refuses_adm (s : State) (a : Admin) (l : Led) (x : Src) (b : Nat) :
    ({ s with adm := a, led := l } : State).refuses x b = s.refuses x b := rfl
theorem takeable_none (s : State) (h : s.adm.oobWait = none) : s.takeable none = s.ready := by
  unfold State.takeable State.waitOf; rw [h]; simp
/-- A clear over the service bus stands whatever its signature. -/
theorem clear_stands (sig : List Byte) : (upClear sig).stands none (rqClear sig) 0x63 148 :=
  ⟨rfl, rfl, (takeable_none _ rfl).trans ((ready_adm up _ _).trans (by decide)), rfl, rfl,
    (refuses_adm up _ _ _ _).trans (by decide), Nat.le_refl _, (show 148 ≤ 4080 by decide)⟩
/-- An image stored whole is complete. -/
theorem img_complete (l : List Byte) (hn : 0 < l.length) : ({ bytes := l, total := l.length } : Image).complete = true := by
  simp [Image.complete]; intro h; simp [h] at hn
/-- The entry of IMPORT_STATE. -/
def pImp (d : Nat) : List Byte := pl 24 [(0, 8), (4, 1), (8, 2), (12, 4), (14, 3), (16, 1), (18, d)]
/-- A vendor message over the management bus. -/
def mctpMsg (l : List Byte) : List Byte := mctpHead ++ l
/-- The endpoint takes it. -/
theorem mctp_takes (l : List Byte) (h : l.length ≤ 4000) : mctpTakes (mctpMsg l) = true := by
  have h2 : (mctpMsg l).length = l.length + 3 := by simp [mctpMsg, mctpHead, leBytes]
  have h3 : (mctpMsg l).take 3 = mctpHead := by simp [mctpMsg, mctpHead, leBytes]
  unfold mctpTakes; rw [h3, h2]; simp; omega
/-- A request of a type without payload. -/
def msgB (typ : Byte) : List Byte := [typ, 0#8, 9#8, 0#8, 0#8, 0#8, 0#8, 0#8, 0#8, 0#8, 0#8, 0#8, 0#8, 0#8, 0#8, 0#8]
/-- A dormant entry in a step. -/
def upEnt (n : Nat) (goal : BitVec 3) : State :=
  { upB with mode := { booting := false, dormant := true }, pwr := { phase := 1, entryStep := n, goal := goal } }
/-- The rails' first correction. -/
def upAvs (n : Nat) : State :=
  { upB with brd := { pwrgd := true, released := true, avsTries := [(0, n)] }, par := { State.reset.par with inForce := tset State.reset.par.inForce (pAvs 0) 64 } }
/-- A PMBus device at address 64. -/
def upPmb : State := upB.setPv (pPmbus 0) 64
/-- What forming a ream leaves. -/
def formedOf (t : Formed) : State := match t with | .ok s _ => s | _ => {}
/-- Forming a ream answered one. -/
def isForm (t : Formed) (id : Nat) : Bool := match t with | .ok _ i => i == id | _ => false
/-- Then it is what `formedOf` names. -/
theorem form_ok (t : Formed) (id : Nat) (h : isForm t id = true) : t = .ok (formedOf t) id := by
  cases t <;> simp_all [isForm, formedOf]
/-- An answer that is there is its value. -/
theorem getD_some {α : Type} (o : Option α) (d : α) (h : o.isSome = true) : o = some (o.getD d) := by
  cases o <;> simp_all
/-- A victim in ream 0 and an open run in ream 1. -/
def upGc : State :=
  { upB with nss := [(1, nsR)], drc := drc2, media := { reams := [(0, { ream0 with closed := true }), (1, { ream0 with fill := 0 })], grps := [(0, { victim := some 0, gcRun := some 1 })], blks := [(bkey 1 0, mb0)] } }
/-- The places that a move takes there. -/
def gcTo : State × List MediaLoc := match upGc.gcPlaces 0 1 nsR with | .ok t l => (t, l) | _ => (upGc, [])
/-- Places that an answer gives are what `gcTo` names. -/
theorem gc_ok (h : (match upGc.gcPlaces 0 1 nsR with | .ok _ _ => true | _ => false) = true) : upGc.gcPlaces 0 1 nsR = .ok gcTo.1 gcTo.2 := by
  unfold gcTo; split <;> simp_all
/-- A staged block that a drain evicts into a flush ream. -/
def upEv : State :=
  { upB with media := { reams := [(0, { ream0 with kind := 4, fill := 0 })], draining := true, blks := [(bkey 1 0, { staged := some stg })] } }
/-- What a place in the flush area is. -/
def flTo : State × Option MediaLoc := (upEv.flushPad 0 64).flushPlace 0 0
/-- The place is there. -/
theorem fl_ok (h : flTo.2.isSome = true) : (upEv.flushPad 0 64).flushPlace 0 0 = (flTo.1, some (flTo.2.getD { ream := 0 })) := by
  show flTo = _
  cases hf : flTo with
  | mk a b => rw [hf] at h; cases b <;> simp_all
/-- A command's read unit. -/
def xU : Slot := { slU with retryMax := 16, relocRung := 2 }
/-- Its block stands on media of ream 0. -/
def upU2 : State := { upU lk0 with sub := { slots := [(5, xU)] }, links := [(1, lk0)] }
/-- A loop that runs. -/
def upLoop : State := up.setPv (pLoop 31 1) 1
/-- The record that repeats the head. -/
def led31 : Led := { any := true, sealed := false, code := 0x1001, arg := padTo 24 [1#8], reps := 31 }
/-- A buffer key names its pool. -/
theorem bufKey_pool {p i : Nat} (h : i < 2 ^ 22) : bufKey p i / 2 ^ 22 = p := by
  unfold bufKey; omega
/-- Allocated buffers of a pool. -/
def poolBufs (p c : Nat) : Tbl Buf := (List.range c).map (fun i => (bufKey p i, { alloc := true }))
/-- Those of one pool. -/
theorem used_pool (p n c : Nat) (h : c ≤ 2 ^ 22) : ((poolBufs p c).filter (fun q => decide (q.1 / 2 ^ 22 = n) && q.2.alloc)).length = if p = n then c else 0 := by
  have hk : ∀ q ∈ poolBufs p c, (decide (q.1 / 2 ^ 22 = n) && q.2.alloc) = decide (p = n) := fun q hq => by
    obtain ⟨i, hi, rfl⟩ := List.mem_map.1 hq
    rw [bufKey_pool (Nat.lt_of_lt_of_le (List.mem_range.1 hi) h), Bool.and_true]
  rw [List.filter_congr hk]
  split
  · rename_i e; rw [List.filter_eq_self.2 (fun _ _ => by simp [e])]; simp [poolBufs]
  · rename_i e; simp [e]
/-- Every vat buffer of the on-chip pools is allocated. -/
def fullBufs : Tbl Buf := poolBufs 0 8192 ++ poolBufs 1 2048 ++ poolBufs 2 256 ++ poolBufs 3 64
/-- Those of every pool. -/
theorem used_full (n : Nat) : (fullBufs.filter (fun q => decide (q.1 / 2 ^ 22 = n) && q.2.alloc)).length = (if 0 = n then 8192 else 0) + (if 1 = n then 2048 else 0) + (if 2 = n then 256 else 0) + (if 3 = n then 64 else 0) := by
  unfold fullBufs
  rw [List.filter_append, List.filter_append, List.filter_append, List.length_append, List.length_append, List.length_append, used_pool _ _ _ (by decide), used_pool _ _ _ (by decide), used_pool _ _ _ (by decide), used_pool _ _ _ (by decide)]
/-- No pool of plaintext has a buffer then. -/
theorem full_none (s : State) (h : s.vat.bufs = fullBufs) (o : Nat) (r : BufReq) (hp : r.plain = true) : s.poolFor o r = none := by
  have hf : ∀ n, n < 4 → s.vat.free n = 0 := fun n hn => by
    have hu := used_full n; rw [← h] at hu; unfold Vat.free Vat.used; rw [hu]
    rcases n with _ | _ | _ | _ | n <;> first | exact Nat.sub_self _ | omega
  unfold State.poolFor; rw [List.find?_eq_none]; intro n hn
  by_cases h4 : n < 4
  · unfold State.poolGives; rw [hf n h4]; simp [hf 0]
  · simp [State.poolGives, Vat.eligible, hp, h4]
/-! ### Well-formedness: one ill-formed command for each check, refused, beside one that is well formed -/

theorem test_wf_function_number : (Instr.pwrXstatRead 1024).wf = false ∧ (Instr.pwrXstatRead 1023).wf = true := by decide
theorem test_wf_queue_number : (Instr.landingMove 0 4096).wf = false ∧ (Instr.landingMove 0 4095).wf = true := by decide
theorem test_wf_slot : (Instr.dispatch 65536).wf = false ∧ (Instr.dispatch 65535).wf = true := by decide
theorem test_wf_link : (Instr.hubLost 96).wf = false ∧ (Instr.hubLost 95).wf = true := by decide
theorem test_wf_deckle : (Instr.mapCheckpoint 3).wf = false ∧ (Instr.mapCheckpoint 2).wf = true := by decide
theorem test_wf_port : (Instr.dlUp 8).wf = false ∧ (Instr.dlUp 7).wf = true := by decide
theorem test_wf_dram_channel : (Instr.rfmRequest 8).wf = false ∧ (Instr.rfmRequest 7).wf = true := by decide
theorem test_wf_placement_group : (Instr.gcStart 16).wf = false ∧ (Instr.gcStart 15).wf = true := by decide
theorem test_wf_sender : (Instr.nsCreate (some 1024)).wf = false ∧ (Instr.nsCreate none).wf = true := by decide
theorem test_wf_task_bytes : (Instr.taskWrite 0 0 [(64, 0#8)]).wf = false ∧ (Instr.taskWrite 0 0 [(63, 0#8)]).wf = true := by decide
theorem test_wf_seal_byte : (Instr.seal 0 0 [(57, 0#8)]).wf = false ∧ (Instr.seal 0 0 [(58, 0x5C#8)]).wf = true ∧
    (Instr.taskWrite 0 0 [(58, 0x5C#8)]).wf = false := by decide
theorem test_wf_write_width : (Instr.registerWrite 0 0 0 1 256).wf = false ∧ (Instr.registerWrite 0 0 0 1 255).wf = true ∧
    (Instr.registerWrite 0 0 0 9 0).wf = false ∧ (Instr.registerWrite 0 1 0 4 0).wf = false := by decide
theorem test_wf_dram_request : (Instr.narrowWrite 12 0 [] []).wf = false ∧ (Instr.narrowWrite 0 (2 ^ 41) [] []).wf = false ∧
    (Instr.narrowWrite 11 0 [] []).wf = true := by decide
theorem test_wf_symbol_changes : (Instr.scrubLine 0 [(320, 1)]).wf = false ∧ (Instr.scrubLine 0 [(0, 0)]).wf = false ∧
    (Instr.scrubLine 0 [(319, 255)]).wf = true := by decide
theorem test_wf_quire : (Instr.quireVerified 0 256).wf = false ∧ (Instr.sheetProgramIssue 0 0 32 0).wf = false ∧
    (Instr.sheetProgramIssue 0 255 31 3).wf = true := by decide
theorem test_wf_field_width : (Instr.clockLoss 256 true).wf = false ∧ (Instr.clockLoss 255 true).wf = true := by decide
theorem test_wf_straps : (Instr.pwrgdRise { lgrp := 4 }).wf = false ∧ (Instr.pwrgdRise { profile := 4 }).wf = false ∧
    (Instr.pwrgdRise { lgrp := 3, profile := 3 }).wf = true := by decide
theorem test_wf_search_range : (Instr.search 0 { lo := 2, last := 1 } 1 none).wf = false ∧
    (Instr.search 0 { lo := 2, last := 2 } 1 none).wf = true := by decide

/-! ### The spec's worked examples -/

/-- 00, "Identifiers": the ID of `cal.loop[9].vmax`. -/
theorem test_parameter_id : pLoop 9 0x10 = 0x0B009010 := by decide
/-- 02 R39: with the defaults PF 3's VFs are GFN 389 to 515. -/
theorem test_vf_numbers : up.pfOf 389 = some 3 ∧ up.pfOf 515 = some 3 ∧ up.pfOf 388 = some 2 ∧ up.pfOf 516 = some 4 := by decide
/-- 04 R130: the pieces of 200 blocks at LBA 4,144. -/
theorem test_write_pieces : pieceSplit false 4144 200 = [(4144, 4160), (4160, 4224), (4224, 4288), (4288, 4344)] := by decide
/-- 04 R130: 512 blocks there would need a ninth piece. -/
theorem test_nine_pieces : (pieceSplit false 4144 512).length = 9 := by decide
/-- 05 R136: 592 reams for a random namespace of 1 TiB at 12 %. -/
theorem test_reams_reserved :
    ({ nsid := 5, typ := 1, tag := 0, home := 0, op := 12, size := 268435456, kslot := 0, mar := 0, mor := 0, gfn := 0 } : NsReq).need
      = 592 := by decide
/-- 05 R137: zone 7 starts at 0x0038_0000. -/
theorem test_zone_start : zslba 7 = 0x00380000 ∧ zoneOfLba 0x003FFFFF = 7 ∧ zoneOfLba 0x00400000 = 8 := by decide
/-- 09 R239: block offset 100,000 of a ream stands in quire 50 at position 12, block 32 of its sheet. -/
theorem test_block_place : locAt 1 100000 = { ream := 1, quire := 50, pos := 12, cw := 32 } := by decide
/-- 09 R263: 24 dump reams for a cap of 21.25 GB. -/
theorem test_dump_reams : dumpWanted 21250000000 = 24 := by decide
/-- 13 R372: PA 0x0_5A3C_96D0. -/
theorem test_dram_address : paCh 0x5A3C96D0 = 5 ∧ paRank 0x5A3C96D0 = 0 ∧ paRow 0x5A3C96D0 = 90 ∧
    paBank 0x5A3C96D0 = 3 * 8 + 6 := by decide
/-- 12 R361: samples 1 and 5 of the trapezoid example. -/
theorem test_generator_trapezoid :
    gen ⟨1, 4 * 65536, 65536, 0⟩ (120 * 65536) (150 * 65536) 0 0 = (149 * 65536, -65536, 0, fSpLim) ∧
    (gen ⟨1, 4 * 65536, 65536, 0⟩ (150 * 65536) (140 * 65536) (-4 * 65536) 0).1 = 137 * 65536 := by decide
/-- 11 R330: with lanes 40 and 41 fenced both route to lane 42. -/
theorem test_lane_route :
    ({ up with cip := { lanes := [(40, { fenced := true }), (41, { fenced := true })] } } : State).laneRoute 40 = some 42 ∧
    ({ up with cip := { lanes := [(40, { fenced := true }), (41, { fenced := true })] } } : State).laneRoute 41 = some 42 := by decide
/-- 14 R395: the search of the example finds entries 0x21A4 and 0x9040. -/
theorem test_hazard_search : hzSearch { entries := [(0x0010, { lo := 0x100000, last := 0x100007, nsid := 3 }),
      (0x21A4, { lo := 0x100004, last := 0x100013, nsid := 3, w := true }),
      (0x9040, { lo := 0x100000, last := 0x10003F, nsid := 3, w := true })] }
    { lo := 0x100000, last := 0x100007, nsid := 3 } 0xFFF none = [0x21A4, 0x9040] := by decide
/-- 17, "Thermal": 108.2 °C at the junction sets THERMAL, 98.2 °C does not. -/
theorem test_thermal : (∃ t, exec (.calenderInputRefresh 5 (some (1082 * 65536 / 10))) up = .next t ∧ t.glb.thermal = true) ∧
    (∃ t, exec (.calenderInputRefresh 5 (some (982 * 65536 / 10))) up = .next t ∧ t.glb.thermal = false) :=
  ⟨⟨_, rfl, by decide⟩, ⟨_, rfl, by decide⟩⟩
/-- 15 R406: the wait states of the lowest voltage group. -/
theorem test_store_wait_states : fstWait 160 0 = 15 ∧ fstWait 162 1 = 14 ∧ fstWait 170 2 = 11 ∧ fstWait 180 3 = 8 := by decide

/-! ### Steps -/

/-- The front command runs and leaves the queue; an empty queue idles (log 1). -/
theorem test_step_takes_the_front : ∃ t, step { up with pending := [.landingArbiter, .pwrXstatRead 0] } = .next t ∧
    t.pending = [.pwrXstatRead 0] := ⟨_, rfl, rfl⟩
/-- An empty queue leaves everything but the time. -/
theorem test_step_idles : ∃ t, step State.reset = .next t ∧ t.pending = [] ∧ t.mode.booting = true := ⟨_, rfl, rfl, rfl⟩
/-- No row of the table gives bits (log 2), so no word spells a command. -/
theorem test_decode_has_no_words : decodeTableWord 16 0 = none ∧ State.reset.withFetchWord 16 0 = State.reset := ⟨rfl, rfl⟩

/-! ### Witnesses: the hypotheses of each clause are met together -/

/-! StepRunsFront -/

theorem witness_StepRunsFront_1 : ∃ (c : Instr) (r : List Instr) (s : State),
    s.pending = c :: r :=
  ⟨.landingArbiter, [.landingArbiter], { up with pending := [.landingArbiter, .landingArbiter] }, by decide⟩

/-! IdleTick -/

theorem witness_IdleTick_1 : ∃ (s : State),
    s.pending = [] ∧ (∀ p, p < 8 → s.stalledOf p = []) :=
  ⟨up, by decide⟩

/-! TaskWriteStoresBytes -/

theorem witness_TaskWriteStoresBytes_1 : ∃ (s : State) (g qid : Nat) (bytes : List (Nat × Byte)) (q : Queue),
    s.reach g = true ∧ s.intakeMode = true ∧ s.q g qid = some q ∧ q.held = none ∧ s.stalledOf (s.portOf g) = [] ∧
      q.task.length = 64 ∧ (∀ p ∈ bytes, p.1 ≠ 58) :=
  ⟨upQ q0, 0, 0, [(0, 15#8), (63, 1#8), (0, 2#8)], q0, by decide⟩

theorem witness_TaskWriteStoresBytes_2 : ∃ (s : State) (g qid i : Nat) (bytes : List (Nat × Byte)) (q : Queue),
    s.reach g = true ∧ s.intakeMode = true ∧ s.q g qid = some q ∧ q.held = some i :=
  ⟨upQ { q0 with held := some 5 }, 0, 0, 5, [(0, 15#8)], { q0 with held := some 5 }, by decide⟩

/-! SealOutcomes -/

theorem witness_SealOutcomes_1 : ∃ (s : State) (g qid : Nat) (bytes : List (Nat × Byte)) (q q1 : Queue),
    s.reach g = true ∧ s.intakeMode = true ∧ s.q g qid = some q ∧ q.held = none ∧ s.stalledOf (s.portOf g) = [] ∧
      storeTask q bytes = q1 ∧ bytes.any (fun p => decide (p.1 = 58)) = true ∧ s.openFor g q1 = true ∧
      fieldLe q1.task 58 1 = 0x5C ∧ q1.presence = BitVec.allOnes 64 ∧ fieldLe q1.task 56 2 = q1.expseq.toNat ∧
      (q1.chken = true → fieldLe q1.task 60 2 = (crc16 (q1.task.take 56)).toNat) ∧ q1.avail ≠ 0 ∧
      (s.slotsOf g qid).any (fun p => decide ((cmdOf p.2.cmd).tag = (cmdOf q1.task).tag)) = false :=
  ⟨upQ q0, 0, 0, sealed, q0, storeTask q0 sealed, by decide⟩

theorem witness_SealOutcomes_2 : ∃ (s : State) (g qid : Nat) (bytes : List (Nat × Byte)) (q q1 : Queue),
    s.reach g = true ∧ s.intakeMode = true ∧ s.q g qid = some q ∧ q.held = none ∧ s.stalledOf (s.portOf g) = [] ∧
      storeTask q bytes = q1 ∧ bytes.any (fun p => decide (p.1 = 58)) = true ∧ s.openFor g q1 = true ∧
      fieldLe q1.task 58 1 = 0x5C ∧ q1.presence = BitVec.allOnes 64 ∧ fieldLe q1.task 56 2 = q1.expseq.toNat ∧
      (q1.chken = true → fieldLe q1.task 60 2 = (crc16 (q1.task.take 56)).toNat) ∧ q1.avail = 0 :=
  ⟨upQ { q0 with avail := 0 }, 0, 0, sealed, { q0 with avail := 0 }, storeTask { q0 with avail := 0 } sealed, by decide⟩

/-! LandingMovesCommands -/

theorem witness_LandingMovesCommands_1 : ∃ (s : State) (g qid i : Nat) (q : Queue) (x : Slot),
    s.q g qid = some q ∧ q.held = some i ∧ s.slot i = some x ∧ s.landingRuns = true ∧
      (tget s.sub.landing (s.portOf g) []).length < 512 ∧ s.firstArrived i x = true ∧ s.stalledOf (s.portOf g) = [] :=
  ⟨{ upQ { q0 with held := some 5 } with sub := { slots := [(5, { sl [] .waiting with loc := .taskReg })] } }, 0, 0, 5, { q0 with held := some 5 }, { sl [] .waiting with loc := .taskReg }, by decide⟩

theorem witness_LandingMovesCommands_2 : ∃ (s : State) (p i : Nat) (r : List Nat) (x : Slot),
    s.landingRuns = true ∧ arbPick s.sub.landing s.sub.arbLast = some p ∧ tget s.sub.landing p [] = i :: r ∧ s.slot i = some x :=
  ⟨{ up with sub := { slots := [(5, { sl [] .waiting with loc := .landing })], landing := [(3, [5])] } }, 3, 5, [], { sl [] .waiting with loc := .landing }, by decide⟩

/-! EntryGoesToRing -/

theorem witness_EntryGoesToRing_1 : ∃ (s : State) (i : Nat) (x : Slot) (q : Queue),
    s.slot i = some x ∧ x.phase = .fixed ∧ s.pwr.pfailLow = false ∧ x.logTo = none ∧ s.q x.gfn x.qid = some q ∧
      q.hasRoom = true ∧ s.firstReady i x = true ∧ s.dmaOk x.gfn = true ∧ q.resetting = false ∧ q.deleting = false ∧
      (s.fn x.gfn).abBusy = false ∧ (s.port (s.portOf x.gfn)).reset = false :=
  ⟨upS (sl [] .fixed), 5, sl [] .fixed, { q0 with avail := 3 }, by decide⟩

/-! MessagesAreSent -/

theorem witness_MessagesAreSent_1 : ∃ (s : State) (g qid : Nat) (q : Queue),
    s.q g qid = some q ∧ q.timer.isSome = true ∧ q.vector ≠ 0xFFFF :=
  ⟨upQ { q0 with timer := some 0 }, 0, 0, { q0 with timer := some 0 }, by decide⟩

theorem witness_MessagesAreSent_2 : ∃ (s : State) (g v : Nat),
    ((s.fn g).vec v).gap = true ∧ ((s.fn g).vec v).delayed = true ∧ ((s.fn g).vec v).mask = false ∧ (s.fn g).fmask = false ∧
      (s.fn g).msixEn = true ∧ ((s.fn g).vec v).addr ≠ 0 ∧ s.dmaOk g = true :=
  ⟨upF { msixEn := true, vecs := [(1, { addr := 4096, mask := false, gap := true, delayed := true })] }, 0, 1, by decide⟩

theorem witness_MessagesAreSent_3 : ∃ (s : State) (g v : Nat),
    s.reach g = true ∧ s.stalledOf (s.portOf g) = [] ∧ s.modeOf ≠ 5 ∧ v ≤ s.vectors g ∧ (s.fn g).fmask = false ∧
      (s.fn g).msixEn = true ∧ ((s.fn g).vec v).pba = true ∧ ((s.fn g).vec v).addr ≠ 0 ∧ ((s.fn g).vec v).gap = false ∧
      s.dmaOk g = true :=
  ⟨upF { msixEn := true, vecs := [(1, { addr := 4096, pba := true })] }, 0, 1, by decide⟩

theorem witness_MessagesAreSent_4 : ∃ (s : State) (g : Nat),
    s.reach g = true ∧ s.stalledOf (s.portOf g) = [] ∧ s.modeOf ≠ 5 :=
  ⟨up, 0, by decide⟩

/-! QueuePageWrites -/

theorem witness_QueuePageWrites_1 : ∃ (s : State) (g qid value : Nat) (q : Queue),
    s.reach g = true ∧ s.stalledOf (s.portOf g) = [] ∧ s.intakeMode = true ∧ s.q g qid = some q ∧
      headValid q (value % 65536) = true :=
  ⟨upQ { q0 with tail := 3 }, 0, 0, 3, { q0 with tail := 3 }, by decide⟩

theorem witness_QueuePageWrites_2 : ∃ (s : State) (g qid value : Nat) (q : Queue),
    s.reach g = true ∧ s.stalledOf (s.portOf g) = [] ∧ s.intakeMode = true ∧ s.q g qid = some q ∧
      headValid q (value % 65536) = false :=
  ⟨upQ { q0 with tail := 3 }, 0, 0, 8, { q0 with tail := 3 }, by decide⟩

theorem witness_QueuePageWrites_3 : ∃ (s : State) (g qid value : Nat) (q : Queue),
    s.reach g = true ∧ s.stalledOf (s.portOf g) = [] ∧ s.intakeMode = true ∧ s.q g qid = some q ∧ bitN value 0 = true ∧
      q.resetting = false ∧ q.deleting = false ∧ s.slotsOf g qid ≠ [] :=
  ⟨upS (sl [] .waiting), 0, 0, 1, { q0 with avail := 3 }, by decide⟩

theorem witness_QueuePageWrites_4 : ∃ (s : State) (g qid value : Nat) (q : Queue),
    s.reach g = true ∧ s.stalledOf (s.portOf g) = [] ∧ s.intakeMode = true ∧ s.q g qid = some q ∧ bitN value 0 = true ∧
      q.resetting = false ∧ q.deleting = false ∧ s.slotsOf g qid = [] ∧ (s.fn g).abBusy = false ∧
      s.waiters (.queueReset g qid) = [] ∧ s.waiters (.queueResetMerged g qid) = [] :=
  ⟨upQ { q0 with tail := 3 }, 0, 0, 1, { q0 with tail := 3 }, by decide⟩

/-! AbortWrite -/

theorem witness_AbortWrite_1 : ∃ (s : State) (g value : Nat),
    s.reach g = true ∧ s.stalledOf (s.portOf g) = [] ∧ s.modeOf ≠ 5 ∧ value % 2 ^ 32 = 0xAB070001 ∧ (s.fn g).abBusy = false ∧
      (s.fn g).flr = false ∧ s.slotsOfFn g ≠ [] :=
  ⟨upS (sl [] .waiting), 0, 0xAB070001, by decide⟩

theorem witness_AbortWrite_2 : ∃ (s : State) (g value : Nat),
    s.reach g = true ∧ s.stalledOf (s.portOf g) = [] ∧ s.modeOf ≠ 5 ∧ value % 2 ^ 32 = 0xAB070001 ∧ (s.fn g).abBusy = false ∧
      (s.fn g).flr = false ∧ s.slotsOfFn g = [] :=
  ⟨up, 0, 0xAB070001, by decide⟩

theorem witness_AbortWrite_3 : ∃ (s : State) (g value : Nat),
    s.reach g = true ∧ s.stalledOf (s.portOf g) = [] ∧ s.modeOf ≠ 5 ∧ value % 2 ^ 32 = 0xAB070001 ∧ (s.fn g).abBusy = true :=
  ⟨upF { abBusy := true }, 0, 0xAB070001, by decide⟩

theorem witness_AbortWrite_4 : ∃ (s : State) (g value : Nat),
    s.reach g = true ∧ s.stalledOf (s.portOf g) = [] ∧ s.modeOf ≠ 5 ∧ value % 2 ^ 32 ≠ 0xAB070001 :=
  ⟨up, 0, 0xAB070000, by decide⟩

/-! DoorbellCaptures -/

theorem witness_DoorbellCaptures_1 : ∃ (s : State) (g value : Nat) (r : Req),
    s.reach g = true ∧ s.stalledOf (s.portOf g) = [] ∧ s.ready = true ∧ bitN value 0 = true ∧ (s.fn g).mbBusy = false ∧
      (s.fn g).flr = false ∧ reqOfBytes (memRead (s.fn g).reqBuf 0 4096) = r ∧ s.refuses (some g) r.typ = none ∧
      s.relays g r.typ = false ∧ r.typ ≠ 0x0091 :=
  ⟨upF { reqBuf := [(0, 0x02#8)] }, 0, 1, reqAt (upF { reqBuf := [(0, 0x02#8)] }) 0, by decide +kernel⟩

theorem witness_DoorbellCaptures_2 : ∃ (s : State) (g value st d : Nat) (r : Req),
    s.reach g = true ∧ s.stalledOf (s.portOf g) = [] ∧ s.ready = true ∧ bitN value 0 = true ∧ (s.fn g).mbBusy = false ∧
      (s.fn g).flr = false ∧ reqOfBytes (memRead (s.fn g).reqBuf 0 4096) = r ∧ s.refuses (some g) r.typ = some (st, d) :=
  ⟨upF { reqBuf := [(1, 0x77#8)] }, 0, 1, 0x401, 0, reqAt (upF { reqBuf := [(1, 0x77#8)] }) 0, by decide +kernel⟩

theorem witness_DoorbellCaptures_3 : ∃ (s : State) (g value : Nat) (r : Req),
    s.reach g = true ∧ s.stalledOf (s.portOf g) = [] ∧ s.ready = true ∧ bitN value 0 = true ∧ (s.fn g).mbBusy = false ∧
      (s.fn g).flr = false ∧ reqOfBytes (memRead (s.fn g).reqBuf 0 4096) = r ∧ s.refuses (some g) r.typ = none ∧
      s.relays g r.typ = true ∧ r.len ≤ 4056 :=
  ⟨upVf { reqBuf := [(0, 0x10#8)] }, 8, 1, reqAt (upVf { reqBuf := [(0, 0x10#8)] }) 8, by decide +kernel⟩

theorem witness_DoorbellCaptures_4 : ∃ (s : State) (g value : Nat),
    s.reach g = true ∧ s.stalledOf (s.portOf g) = [] ∧ s.modeOf ≠ 5 ∧ bitN value 0 = true ∧ s.mbxBusy g = true :=
  ⟨upF { mbBusy := true }, 0, 1, by decide⟩

/-! RegisterWrites -/

theorem witness_RegisterWrites_1 : ∃ (s : State) (g v : Nat),
    s.reach g = true ∧ s.stalledOf (s.portOf g) = [] ∧ s.modeOf ≠ 5 :=
  ⟨up, 0, 5, by decide⟩

theorem witness_RegisterWrites_2 : ∃ (s : State) (g v : Nat),
    s.reach g = true ∧ s.stalledOf (s.portOf g) = [] ∧ s.modeOf ≠ 5 :=
  ⟨upF { err := 3 }, 0, 1, by decide⟩

theorem witness_RegisterWrites_3 : ∃ (s : State) (g off v : Nat),
    s.reach g = true ∧ s.stalledOf (s.portOf g) = [] ∧ s.modeOf ≠ 5 ∧ 0x1000 ≤ off ∧ off < 0x2000 ∧ off % 4 = 0 :=
  ⟨up, 0, 0x1FFC, 7, by decide⟩

theorem witness_RegisterWrites_4 : ∃ (s : State) (g off w v : Nat),
    s.reach g = true ∧ s.stalledOf (s.portOf g) = [] ∧ s.modeOf ≠ 5 ∧ wide off w = false :=
  ⟨up, 0, 2, 4, 7, by decide⟩

theorem witness_RegisterWrites_5 : ∃ (s : State) (g off w v : Nat),
    s.reach g = true ∧ s.stalledOf (s.portOf g) = [] ∧ s.isPf g = true ∧ s.modeOf ≠ 5 ∧ wide off w = true ∧
      s.fst.fuses.dbgAuth = false :=
  ⟨up, 0, 0x40, 8, 7, by decide⟩

/-! SpecialReads -/

theorem witness_SpecialReads_1 : ∃ (s : State) (g : Nat),
    s.reach g = true ∧ s.isPf g = true ∧ s.modeOf ≠ 5 :=
  ⟨up, 0, by decide⟩

theorem witness_SpecialReads_2 : ∃ (s : State) (g off : Nat),
    s.reach g = true ∧ s.isPf g = true ∧ s.modeOf ≠ 5 :=
  ⟨up, 0, 0x200000, by decide⟩

theorem witness_SpecialReads_3 : ∃ (s : State) (g bar off : Nat),
    s.reach g = true ∧ s.modeOf = 5 ∧ s.pwr.phase = 0 ∧ s.pwr.stuck = false :=
  ⟨asleep, 0, 4, 0x10000, by decide⟩

theorem witness_SpecialReads_4 : ∃ (s : State) (g bar off : Nat),
    s.reach g = true ∧ s.modeOf = 5 ∧ s.pwr.phase = 0 ∧ s.pwr.stuck = false :=
  ⟨asleep, 0, 2, 0, by decide⟩

/-! DispatchValidates -/

theorem witness_DispatchValidates_1 : ∃ (s : State) (i : Nat) (x : Slot),
    s.slot i = some x ∧ s.dispatchRuns = true ∧ x.loc = .store ∧ x.phase = .waiting ∧ s.eligible i x = true ∧
      opDefined (cmdOf x.cmd).opc = false :=
  ⟨upS (sl (cf 11 0 0) .waiting), 5, sl (cf 11 0 0) .waiting, by decide⟩

theorem witness_DispatchValidates_2 : ∃ (s : State) (i : Nat) (x : Slot),
    s.slot i = some x ∧ s.dispatchRuns = true ∧ x.loc = .store ∧ x.phase = .waiting ∧ s.eligible i x = true ∧
      (cmdOf x.cmd).opc = 15 :=
  ⟨upS (sl (cf 15 0 0) .waiting), 5, sl (cf 15 0 0) .waiting, by decide⟩

theorem witness_DispatchValidates_3 : ∃ (s : State) (i gen : Nat) (x : Slot) (ns : Ns),
    s.slot i = some x ∧ s.dispatchRuns = true ∧ x.loc = .store ∧ x.phase = .waiting ∧ s.eligible i x = true ∧
      (cmdOf x.cmd).opc = 1 ∧ s.nsOf x (cmdOf x.cmd).nsid = some ns ∧ s.badFields x.gfn x.cls (cmdOf x.cmd) ns = [] ∧
      listOf (cmdOf x.cmd) = none ∧ x.ranges = [] ∧ 0 < (cmdOf x.cmd).nlb ∧ (cmdOf x.cmd).nlb ≤ 512 ∧
      (cmdOf x.cmd).slba + (cmdOf x.cmd).nlb ≤ ns.size ∧ s.keyUsable x.gfn (kslotOf (cmdOf x.cmd) ns) = some gen ∧
      hzRoom s.hz 1 = true ∧ hzFreeIn s.hz false ≠ none :=
  ⟨upK nsR (sl (cf 1 2 0 ++ [(33, 0x20)]) .waiting), 5, 7, sl (cf 1 2 0 ++ [(33, 0x20)]) .waiting, nsR, by decide⟩

theorem witness_DispatchValidates_4 : ∃ (s : State) (i a n : Nat) (x : Slot) (ns : Ns),
    s.slot i = some x ∧ s.dispatchRuns = true ∧ x.loc = .store ∧ x.phase = .waiting ∧ s.eligible i x = true ∧
      ((cmdOf x.cmd).opc = 1 ∨ (cmdOf x.cmd).opc = 2 ∨ (cmdOf x.cmd).opc = 3) ∧ s.nsOf x (cmdOf x.cmd).nsid = some ns ∧
      s.badFields x.gfn x.cls (cmdOf x.cmd) ns = [] ∧ listOf (cmdOf x.cmd) = some (a, n) ∧ s.ideBlocked x.gfn = false ∧
      s.dmaOk x.gfn = true :=
  ⟨upK nsR (sl (cf 1 2 0 ++ [(1, 1), (32, 3), (26, 1)]) .waiting), 5, 65536, 48, sl (cf 1 2 0 ++ [(1, 1), (32, 3), (26, 1)]) .waiting, nsR, by decide⟩

theorem witness_DispatchValidates_5 : ∃ (s : State) (i lo hi nsid : Nat) (x : Slot),
    s.slot i = some x ∧ s.dispatchRuns = true ∧ x.loc = .store ∧ x.phase = .hazWait ∧ s.cmdRanges x = [(nsid, lo, hi)] ∧
      s.mayStart i x = true ∧ hzRoom s.hz 1 = true ∧ hzFreeIn s.hz false ≠ none :=
  ⟨upK nsR (sl (cf 2 2 0) .hazWait), 5, 0, 2, 1, sl (cf 2 2 0) .hazWait, by decide⟩

theorem witness_DispatchValidates_6 : ∃ (s : State) (i lo hi nsid : Nat) (x : Slot),
    s.slot i = some x ∧ s.dispatchRuns = true ∧ x.loc = .store ∧ x.phase = .hazWait ∧ s.cmdRanges x = [(nsid, lo, hi)] ∧
      s.mayStart i x = true ∧ hzRoom s.hz 1 = false :=
  ⟨{ upK nsR (sl (cf 2 2 0) .hazWait) with hz := { entries := evens 16384 0 } }, 5, 0, 2, 1, sl (cf 2 2 0) .hazWait, by refine ⟨rfl, rfl, rfl, rfl, by decide, by decide, ?_⟩; simp only [hzRoom, hzUsed, evens_used 16384 0 (by decide)]; decide⟩

/-! ReadsAreServed -/

theorem witness_ReadsAreServed_1 : ∃ (s : State) (i : Nat) (x : Slot),
    s.slot i = some x ∧ x.phase = .ready ∧ (cmdOf x.cmd).opc = 1 ∧ s.pwr.pfailLow = false ∧
      s.touchesOffline (cmdOf x.cmd).nsid (cmdOf x.cmd).slba ((cmdOf x.cmd).slba + (cmdOf x.cmd).nlb) = false ∧
      s.ideBlocked x.gfn = false ∧ x.enc = false ∧
      (∀ j, j < (cmdOf x.cmd).nlb → (s.blk (cmdOf x.cmd).nsid ((cmdOf x.cmd).slba + j)).ver = none) :=
  ⟨upN nsZ (sl (cf 1 2 0) .ready), 5, sl (cf 1 2 0) .ready, by decide⟩

theorem witness_ReadsAreServed_2 : ∃ (s : State) (i : Nat) (x : Slot),
    s.slot i = some x ∧ x.phase = .ready ∧ (cmdOf x.cmd).opc = 8 ∧ s.pwr.pfailLow = false ∧
      s.touchesOffline (cmdOf x.cmd).nsid (cmdOf x.cmd).slba ((cmdOf x.cmd).slba + (cmdOf x.cmd).nlb) = false ∧ x.enc = false ∧
      (∀ j, j < (cmdOf x.cmd).nlb → (s.blk (cmdOf x.cmd).nsid ((cmdOf x.cmd).slba + j)).ver = none) :=
  ⟨upN nsZ (sl (cf 8 2 0) .ready), 5, sl (cf 8 2 0) .ready, by decide⟩

theorem witness_ReadsAreServed_3 : ∃ (s : State) (i k : Nat) (x : Slot) (c : Instr),
    s.slot i = some x ∧ x.phase = .ready ∧
      ((c = .read i ∧ (cmdOf x.cmd).opc = 1 ∧ s.ideBlocked x.gfn = false) ∨ (c = .verify i ∧ (cmdOf x.cmd).opc = 8)) ∧
      s.pwr.pfailLow = false ∧
      s.touchesOffline (cmdOf x.cmd).nsid (cmdOf x.cmd).slba ((cmdOf x.cmd).slba + (cmdOf x.cmd).nlb) = false ∧
      k < (cmdOf x.cmd).nlb ∧ (s.blk (cmdOf x.cmd).nsid ((cmdOf x.cmd).slba + k)).staged ≠ none :=
  ⟨{ upK nsZ (sl (cf 1 1 0) .ready) with media := { blks := [(bkey 1 0, { staged := some stg })] }, drc := drc2 }, 5, 0, sl (cf 1 1 0) .ready, .read 5, by decide⟩

theorem witness_ReadsAreServed_4 : ∃ (s : State) (i k : Nat) (x : Slot) (v : BlkVer) (l : MediaLoc) (op : LinkOp),
    s.slot i = some x ∧ x.phase = .ready ∧ (cmdOf x.cmd).opc = 1 ∧ s.pwr.pfailLow = false ∧ (cmdOf x.cmd).nlb = 1 ∧
      s.ideBlocked x.gfn = false ∧ s.touchesOffline (cmdOf x.cmd).nsid (cmdOf x.cmd).slba ((cmdOf x.cmd).slba + 1) = false ∧
      (s.blk (cmdOf x.cmd).nsid (cmdOf x.cmd).slba).staged = none ∧
      (s.blk (cmdOf x.cmd).nsid (cmdOf x.cmd).slba).media = some (v, l) ∧
      s.readOp l 1 (s.firstSet l) (.unit i 0) = some (k, op) ∧ s.placeUp l = true ∧ k < 96 ∧ 0 < s.vat.free 0 :=
  ⟨{ upK nsR (sl (cf 1 1 0) .ready) with links := [(1, lk0)], media := { reams := [(0, ream0)], blks := [(bkey 1 0, mb0)] } }, 5, 1, sl (cf 1 1 0) .ready, bv, { ream := 0, pos := 1 }, opOf ({ upK nsR (sl (cf 1 1 0) .ready) with links := [(1, lk0)], media := { reams := [(0, ream0)], blks := [(bkey 1 0, mb0)] } } |>.readOp { ream := 0, pos := 1 } 1 0 (.unit 5 0)), by decide⟩

theorem witness_ReadsAreServed_5 : ∃ (s : State) (i : Nat) (x : Slot) (v : BlkVer) (l : MediaLoc) (r : BufReq),
    s.slot i = some x ∧ x.phase = .ready ∧ (cmdOf x.cmd).opc = 1 ∧ s.pwr.pfailLow = false ∧ (cmdOf x.cmd).nlb = 1 ∧
      s.ideBlocked x.gfn = false ∧ s.touchesOffline (cmdOf x.cmd).nsid (cmdOf x.cmd).slba ((cmdOf x.cmd).slba + 1) = false ∧
      (s.blk (cmdOf x.cmd).nsid (cmdOf x.cmd).slba).staged = none ∧
      (s.blk (cmdOf x.cmd).nsid (cmdOf x.cmd).slba).media = some (v, l) ∧ x.bufs = [] ∧
      r = { size := 4096, plain := true, readPath := true, use := some (i, 0) } ∧ s.poolFor (0x40 + s.locLink l / 16) r = none ∧
      (tget s.vat.fifos (0x40 + s.locLink l / 16) []).length < 16 :=
  ⟨{ upK nsR (sl (cf 1 1 0) .ready) with links := [(1, lk0)], media := { reams := [(0, ream0)], blks := [(bkey 1 0, mb0)] }, vat := { bufs := fullBufs } }, 5, sl (cf 1 1 0) .ready, bv, { ream := 0, pos := 1 }, { size := 4096, plain := true, readPath := true, use := some (5, 0) }, by exact ⟨rfl, rfl, rfl, rfl, rfl, rfl, rfl, rfl, rfl, rfl, rfl, full_none _ (by with_reducible rfl) _ _ (by with_reducible rfl), by decide +kernel⟩⟩

/-! WritesReserveStaging -/

theorem witness_WritesReserveStaging_1 : ∃ (s : State) (i : Nat) (x : Slot) (ns : Ns),
    s.slot i = some x ∧ (ns.zoned = true ∧ x.phase = .seqPassed ∨ ns.zoned = false ∧ x.phase = .ready ∧ x.locs ≠ []) ∧
      (cmdOf x.cmd).opc = 2 ∧ s.pwr.pfailLow = false ∧ s.nsAny (cmdOf x.cmd).nsid = some ns ∧ s.ideBlocked x.gfn = false ∧
      s.stageRoom (s.stageDeckle x ns) ((cmdOf x.cmd).nlb * 4096) = true ∧
      s.pf pReadReserve + (cmdOf x.cmd).nlb ≤ s.vat.free 0 :=
  ⟨upN nsZ (sl (cf 2 1 0) .seqPassed), 5, sl (cf 2 1 0) .seqPassed, nsZ, by decide⟩

theorem witness_WritesReserveStaging_2 : ∃ (s : State) (i : Nat) (x : Slot) (ns : Ns),
    s.slot i = some x ∧ (ns.zoned = true ∧ x.phase = .seqPassed ∨ ns.zoned = false ∧ x.phase = .ready ∧ x.locs ≠ []) ∧
      (cmdOf x.cmd).opc = 10 ∧ s.pwr.pfailLow = false ∧ s.nsAny (cmdOf x.cmd).nsid = some ns ∧
      s.stageRoom (s.stageDeckle x ns) ((cmdOf x.cmd).nlb * 4096) = true :=
  ⟨upN nsZ (sl (cf 10 1 0) .seqPassed), 5, sl (cf 10 1 0) .seqPassed, nsZ, by decide⟩

theorem witness_WritesReserveStaging_3 : ∃ (s : State) (i : Nat) (x : Slot) (ns : Ns),
    s.slot i = some x ∧ x.phase = .ready ∧ (cmdOf x.cmd).opc = 3 ∧ s.pwr.pfailLow = false ∧
      s.nsAny (cmdOf x.cmd).nsid = some ns ∧ s.ideBlocked x.gfn = false ∧
      s.stageRoom (s.stageDeckle x ns) ((cmdOf x.cmd).nlb * 4096) = true ∧
      s.pf pReadReserve + (cmdOf x.cmd).nlb ≤ s.vat.free 0 :=
  ⟨upN nsZ (sl (cf 3 1 0) .ready), 5, sl (cf 3 1 0) .ready, nsZ, by decide⟩

theorem witness_WritesReserveStaging_4 : ∃ (s : State) (i : Nat) (x : Slot) (ns : Ns) (c : Instr) (r : BufReq),
    s.slot i = some x ∧
      ((c = .write i ∧ (cmdOf x.cmd).opc = 2 ∧ (ns.zoned = true ∧ x.phase = .seqPassed ∨ ns.zoned = false ∧ x.phase = .ready ∧ x.locs ≠ [])) ∨ (c = .zoneAppend i ∧ (cmdOf x.cmd).opc = 3 ∧ x.phase = .ready)) ∧
      s.pwr.pfailLow = false ∧ s.nsAny (cmdOf x.cmd).nsid = some ns ∧ s.ideBlocked x.gfn = false ∧ (cmdOf x.cmd).nlb = 1 ∧
      s.stageRoom (s.stageDeckle x ns) 4096 = true ∧ x.bufs = [] ∧
      r = { size := 4096, plain := true, readPath := false, use := some (i, 0) } ∧ s.poolFor (s.dmaPort x.gfn) r = none ∧
      (tget s.vat.fifos (s.dmaPort x.gfn) []).length < 16 :=
  ⟨{ upN nsZ (sl (cf 2 1 0) .seqPassed) with vat := { bufs := fullBufs } }, 5, sl (cf 2 1 0) .seqPassed, nsZ, .write 5, { size := 4096, plain := true, readPath := false, use := some (5, 0) }, by exact ⟨rfl, Or.inl ⟨rfl, rfl, Or.inl ⟨rfl, rfl⟩⟩, rfl, rfl, rfl, rfl, by decide, rfl, rfl, full_none _ (by with_reducible rfl) _ _ (by with_reducible rfl), by decide +kernel⟩⟩

theorem witness_WritesReserveStaging_5 : ∃ (s : State) (i : Nat) (x : Slot) (ns : Ns),
    s.slot i = some x ∧ x.phase = .ready ∧ (cmdOf x.cmd).opc = 9 ∧ s.pwr.pfailLow = false ∧
      s.nsAny (cmdOf x.cmd).nsid = some ns ∧ x.enc = false ∧
      s.stageRoom (s.stageDeckle x ns) ((cmdOf x.cmd).nlb * 4096) = true ∧
      (∀ r ∈ x.ranges, ∀ j, j < r.2.2.1 → (s.blk r.2.2.2 (r.2.1 + j)).ver = none) :=
  ⟨upN nsZ { sl (cf 9 1 1) .ready with ranges := [(0, 8, 1, 1)] }, 5, { sl (cf 9 1 1) .ready with ranges := [(0, 8, 1, 1)] }, nsZ, by decide⟩

/-! ZoneSequenceOrder -/

theorem witness_ZoneSequenceOrder_1 : ∃ (s : State) (i : Nat) (x : Slot) (ns : Ns),
    s.slot i = some x ∧ x.phase = .ready ∧ ((cmdOf x.cmd).opc = 2 ∨ (cmdOf x.cmd).opc = 10) ∧ s.pwr.pfailLow = false ∧
      s.nsAny (cmdOf x.cmd).nsid = some ns ∧ ns.zoned = true ∧ s.isHead i x (cmdOf x.cmd) = true ∧
      (s.zone (cmdOf x.cmd).nsid (zoneOfLba (cmdOf x.cmd).slba)).st.isOpen = true ∧
      (cmdOf x.cmd).slba = zslba (zoneOfLba (cmdOf x.cmd).slba) + (s.zone (cmdOf x.cmd).nsid (zoneOfLba (cmdOf x.cmd).slba)).wp + (s.zone (cmdOf x.cmd).nsid (zoneOfLba (cmdOf x.cmd).slba)).pend ∧
      (cmdOf x.cmd).slba + (cmdOf x.cmd).nlb ≤ zslba (zoneOfLba (cmdOf x.cmd).slba) + (s.zone (cmdOf x.cmd).nsid (zoneOfLba (cmdOf x.cmd).slba)).zcap :=
  ⟨upZ { st := .implicitOpen, wp := 2, pend := 1 } (sl (cf 2 1 0 ++ [(8, 3)]) .ready), 5, sl (cf 2 1 0 ++ [(8, 3)]) .ready, nsZ, by decide⟩

theorem witness_ZoneSequenceOrder_2 : ∃ (s : State) (i : Nat) (x : Slot) (ns : Ns),
    s.slot i = some x ∧ x.phase = .ready ∧ ((cmdOf x.cmd).opc = 2 ∨ (cmdOf x.cmd).opc = 10) ∧ s.pwr.pfailLow = false ∧
      s.nsAny (cmdOf x.cmd).nsid = some ns ∧ ns.zoned = true ∧ s.isHead i x (cmdOf x.cmd) = true ∧
      (s.zone (cmdOf x.cmd).nsid (zoneOfLba (cmdOf x.cmd).slba)).st.isOpen = true ∧
      (cmdOf x.cmd).slba + (cmdOf x.cmd).nlb ≤ zslba (zoneOfLba (cmdOf x.cmd).slba) + (s.zone (cmdOf x.cmd).nsid (zoneOfLba (cmdOf x.cmd).slba)).zcap ∧
      (cmdOf x.cmd).slba ≠ zslba (zoneOfLba (cmdOf x.cmd).slba) + ((s.zone (cmdOf x.cmd).nsid (zoneOfLba (cmdOf x.cmd).slba)).wp + (s.zone (cmdOf x.cmd).nsid (zoneOfLba (cmdOf x.cmd).slba)).pend) :=
  ⟨upZ { st := .implicitOpen, wp := 2, pend := 1 } (sl (cf 2 1 0 ++ [(8, 4)]) .ready), 5, sl (cf 2 1 0 ++ [(8, 4)]) .ready, nsZ, by decide⟩

theorem witness_ZoneSequenceOrder_3 : ∃ (s : State) (c : Instr) (i h : Nat) (x : Slot) (ns : Ns) (e : HzEntry),
    (c = .appendStage i ∨ c = .zoneSequenceHead i) ∧ s.slot i = some x ∧ x.phase = .appendReady ∧
      ((cmdOf x.cmd).opc = 3 ∨ ((cmdOf x.cmd).opc = 9 ∧ ∀ r ∈ x.ranges, s.touchesOffline r.2.2.2 r.2.1 (r.2.1 + r.2.2.1) = false)) ∧
      s.pwr.pfailLow = false ∧ s.nsAny (cmdOf x.cmd).nsid = some ns ∧ s.zoneStaging i x (cmdOf x.cmd) = false ∧
      x.hz.getLast? = some h ∧ tfind s.hz.entries h = some e ∧ i ∉ e.waiters ∧
      (s.zone (cmdOf x.cmd).nsid (zoneOfLba (cmdOf x.cmd).slba)).st.isOpen = true ∧
      (s.zone (cmdOf x.cmd).nsid (zoneOfLba (cmdOf x.cmd).slba)).wp + (cmdOf x.cmd).nlb ≤ (s.zone (cmdOf x.cmd).nsid (zoneOfLba (cmdOf x.cmd).slba)).zcap ∧
      (s.zoneDeckle (cmdOf x.cmd).nsid (zoneOfLba (cmdOf x.cmd).slba) = x.resvDk ∨ s.stageFits (s.zoneDeckle (cmdOf x.cmd).nsid (zoneOfLba (cmdOf x.cmd).slba)) x.resv = true) :=
  ⟨{ upZ { st := .implicitOpen, wp := 2 } { sl (cf 3 1 0) .appendReady with hz := [0] } with hz := { entries := [(0, {})] } }, .appendStage 5, 5, 0, { sl (cf 3 1 0) .appendReady with hz := [0] }, nsZ, {}, by decide⟩

/-! ZoneMgmtMovesZones -/

theorem witness_ZoneMgmtMovesZones_1 : ∃ (s : State) (i z : Nat) (x : Slot) (ns : Ns),
    s.slot i = some x ∧ x.phase = .ready ∧ (cmdOf x.cmd).opc = 5 ∧ s.pwr.pfailLow = false ∧ (cmdOf x.cmd).all = false ∧
      s.nsAny (cmdOf x.cmd).nsid = some ns ∧ zoneOfLba (cmdOf x.cmd).slba = z ∧ (cmdOf x.cmd).b40 = 1 ∧
      (s.zone (cmdOf x.cmd).nsid z).st = .closed ∧ (ns.mor = 0 ∨ s.openNs (cmdOf x.cmd).nsid < ns.mor) :=
  ⟨upZ { st := .closed, wp := 2 } (sl (cf 5 0 1) .ready), 5, 0, sl (cf 5 0 1) .ready, nsZ, by decide⟩

theorem witness_ZoneMgmtMovesZones_2 : ∃ (s u : State) (i z id g : Nat) (x : Slot) (ns : Ns),
    s.slot i = some x ∧ x.phase = .ready ∧ (cmdOf x.cmd).opc = 5 ∧ s.pwr.pfailLow = false ∧ (cmdOf x.cmd).all = false ∧
      s.nsAny (cmdOf x.cmd).nsid = some ns ∧ zoneOfLba (cmdOf x.cmd).slba = z ∧ (cmdOf x.cmd).b40 = 1 ∧
      (s.zone (cmdOf x.cmd).nsid z).st = .empty ∧ (ns.mor = 0 ∨ s.openNs (cmdOf x.cmd).nsid < ns.mor) ∧ s.activeAll < 4096 ∧
      (ns.mar = 0 ∨ s.activeNs (cmdOf x.cmd).nsid < ns.mar) ∧
      s.takeReam (cmdOf x.cmd).nsid ns x.cls x.grp 1 (zslba z) = .ok u id g :=
  ⟨upN nsC (sl (cf 5 0 1) .ready), tookOf ((upN nsC (sl (cf 5 0 1) .ready)).takeReam 1 nsC 0 0 1 0), 5, 0, 0, 0, sl (cf 5 0 1) .ready, nsC, by refine ⟨rfl, rfl, by decide, rfl, by decide, rfl, by decide, by decide, by decide, by decide, by decide, by decide, took_ok _ 0 0 (by decide +kernel)⟩⟩

theorem witness_ZoneMgmtMovesZones_3 : ∃ (s : State) (i z : Nat) (x : Slot) (ns : Ns),
    s.slot i = some x ∧ x.phase = .ready ∧ (cmdOf x.cmd).opc = 5 ∧ s.pwr.pfailLow = false ∧ (cmdOf x.cmd).all = false ∧
      s.nsAny (cmdOf x.cmd).nsid = some ns ∧ zoneOfLba (cmdOf x.cmd).slba = z ∧ (cmdOf x.cmd).b40 = 2 ∧
      (s.zone (cmdOf x.cmd).nsid z).st.isOpen = true :=
  ⟨upZ { st := .implicitOpen, wp := 2 } (sl (cf 5 0 2) .ready), 5, 0, sl (cf 5 0 2) .ready, nsZ, by decide⟩

theorem witness_ZoneMgmtMovesZones_4 : ∃ (s : State) (i z : Nat) (x : Slot) (ns : Ns),
    s.slot i = some x ∧ x.phase = .ready ∧ (cmdOf x.cmd).opc = 5 ∧ s.pwr.pfailLow = false ∧ (cmdOf x.cmd).all = false ∧
      s.nsAny (cmdOf x.cmd).nsid = some ns ∧ zoneOfLba (cmdOf x.cmd).slba = z ∧ (cmdOf x.cmd).b40 = 3 ∧
      (s.zone (cmdOf x.cmd).nsid z).st.active = true ∧ s.mirrorOk = true ∧
      (s.finishBytes (cmdOf x.cmd).nsid z = 0 ∨ s.stageFits (s.zoneDeckle (cmdOf x.cmd).nsid z) (s.finishBytes (cmdOf x.cmd).nsid z) = true) :=
  ⟨wDrc (upZ { st := .closed, wp := 2 } (sl (cf 5 0 3) .ready)), 5, 0, sl (cf 5 0 3) .ready, nsZ, by decide⟩

theorem witness_ZoneMgmtMovesZones_5 : ∃ (s : State) (i z : Nat) (x : Slot) (ns : Ns),
    s.slot i = some x ∧ x.phase = .ready ∧ (cmdOf x.cmd).opc = 5 ∧ s.pwr.pfailLow = false ∧ (cmdOf x.cmd).all = false ∧
      s.nsAny (cmdOf x.cmd).nsid = some ns ∧ zoneOfLba (cmdOf x.cmd).slba = z ∧ (cmdOf x.cmd).b40 = 4 ∧ s.mirrorOk = true ∧
      ((s.zone (cmdOf x.cmd).nsid z).st.active = true ∨ (s.zone (cmdOf x.cmd).nsid z).st = .full) :=
  ⟨wDrc (upZ { st := .full, wp := 507904 } (sl (cf 5 0 4) .ready)), 5, 0, sl (cf 5 0 4) .ready, nsZ, by decide⟩

theorem witness_ZoneMgmtMovesZones_6 : ∃ (s : State) (i z : Nat) (x : Slot) (ns : Ns),
    s.slot i = some x ∧ x.phase = .ready ∧ (cmdOf x.cmd).opc = 5 ∧ s.pwr.pfailLow = false ∧ (cmdOf x.cmd).all = false ∧
      s.nsAny (cmdOf x.cmd).nsid = some ns ∧ zoneOfLba (cmdOf x.cmd).slba = z ∧ (cmdOf x.cmd).b40 = 5 ∧
      (s.zone (cmdOf x.cmd).nsid z).st = .readOnly :=
  ⟨upZ { st := .readOnly, wp := 2 } (sl (cf 5 0 5) .ready), 5, 0, sl (cf 5 0 5) .ready, nsZ, by decide⟩

theorem witness_ZoneMgmtMovesZones_7 : ∃ (s : State) (i z a : Nat) (r : List Nat) (x : Slot) (ns : Ns),
    s.slot i = some x ∧ x.phase = .ready ∧ (cmdOf x.cmd).opc = 5 ∧ s.pwr.pfailLow = false ∧ (cmdOf x.cmd).all = true ∧
      s.nsAny (cmdOf x.cmd).nsid = some ns ∧ (cmdOf x.cmd).b40 = a ∧ 1 ≤ a ∧ a ≤ 5 ∧ x.todo = some (z :: r) ∧
      (mgmtRow a).2.1 (s.zone (cmdOf x.cmd).nsid z).st = true ∧ s.mirrorOk = true ∧
      (s.finishBytes (cmdOf x.cmd).nsid z = 0 ∨ s.stageFits (s.zoneDeckle (cmdOf x.cmd).nsid z) (s.finishBytes (cmdOf x.cmd).nsid z) = true) :=
  ⟨wDrc (upZ { st := .closed, wp := 2 } { sl (cf 5 0 4 ++ [(41, 1)]) .ready with todo := some [0] }), 5, 0, 4, [], { sl (cf 5 0 4 ++ [(41, 1)]) .ready with todo := some [0] }, nsZ, by decide⟩

/-! DirectCommandsEnd -/

theorem witness_DirectCommandsEnd_1 : ∃ (s : State) (i : Nat) (x : Slot),
    s.slot i = some x ∧ x.phase = .ready ∧ (cmdOf x.cmd).opc = 15 ∧ s.pwr.pfailLow = false :=
  ⟨upS (sl (cf 15 0 0) .ready), 5, sl (cf 15 0 0) .ready, by decide⟩

theorem witness_DirectCommandsEnd_2 : ∃ (s : State) (i : Nat) (x : Slot),
    s.slot i = some x ∧ x.phase = .ready ∧ (cmdOf x.cmd).opc = 4 ∧ s.pwr.pfailLow = false ∧
      s.flushFree x (s.flushSet x (cmdOf x.cmd)) = true ∧
      ((cmdOf x.cmd).media = false ∨ s.flushed (s.flushSet x (cmdOf x.cmd)) s.media.order (s.flushJournals (s.flushSet x (cmdOf x.cmd))) = true) :=
  ⟨upN nsZ (sl (cf 4 0 0) .ready), 5, sl (cf 4 0 0) .ready, by decide⟩

theorem witness_DirectCommandsEnd_3 : ∃ (s : State) (i : Nat) (x : Slot),
    s.slot i = some x ∧ x.phase = .ready ∧ (cmdOf x.cmd).opc = 4 ∧ s.pwr.pfailLow = false ∧
      s.flushFree x (s.flushSet x (cmdOf x.cmd)) = true ∧ (cmdOf x.cmd).media = true ∧
      s.flushed (s.flushSet x (cmdOf x.cmd)) s.media.order (s.flushJournals (s.flushSet x (cmdOf x.cmd))) = false :=
  ⟨{ upN nsZ (sl (cf 4 0 0 ++ [(1, 4)]) .ready) with media := { blks := [(bkey 1 0, { staged := some stg })] } }, 5, sl (cf 4 0 0 ++ [(1, 4)]) .ready, by decide⟩

theorem witness_DirectCommandsEnd_4 : ∃ (s : State) (i : Nat) (x : Slot),
    s.slot i = some x ∧ x.phase = .flushing ∧ (cmdOf x.cmd).opc = 4 ∧ s.pwr.pfailLow = false ∧
      s.flushed (s.flushSet x (cmdOf x.cmd)) x.flushOrder x.flushJrnl = true :=
  ⟨upN nsZ (sl (cf 4 0 0 ++ [(1, 4)]) .flushing), 5, sl (cf 4 0 0 ++ [(1, 4)]) .flushing, by decide⟩

theorem witness_DirectCommandsEnd_5 : ∃ (s : State) (i : Nat) (x : Slot) (ns : Ns) (l : List Nat),
    s.slot i = some x ∧ x.phase = .ready ∧ (cmdOf x.cmd).opc = 6 ∧ s.pwr.pfailLow = false ∧ s.ideBlocked x.gfn = false ∧
      s.nsAny (cmdOf x.cmd).nsid = some ns ∧
      s.zoneList (cmdOf x.cmd).nsid (zoneOfLba (cmdOf x.cmd).slba) (cmdOf x.cmd).b40 (ns.size / zspan) (x.segs.foldl (fun a p => a + p.2) 0 / 64 - 1) = l :=
  ⟨upN nsZ { sl (cf 6 0 0) .ready with segs := [(4096, 192)] }, 5, { sl (cf 6 0 0) .ready with segs := [(4096, 192)] }, nsZ, [0, 1], by decide⟩

theorem witness_DirectCommandsEnd_6 : ∃ (s : State) (i b : Nat) (r : List Nat) (x : Slot) (ns : Ns),
    s.slot i = some x ∧ x.phase = .ready ∧ (cmdOf x.cmd).opc = 7 ∧ s.pwr.pfailLow = false ∧
      s.nsAny (cmdOf x.cmd).nsid = some ns ∧
      x.todo.getD (s.mappedIn (cmdOf x.cmd).nsid (cmdOf x.cmd).slba ((cmdOf x.cmd).slba + (cmdOf x.cmd).nlb)) = b :: r ∧
      (cmdOf x.cmd).slba ≤ 16 * b ∧ 16 * (b + 1) ≤ (cmdOf x.cmd).slba + (cmdOf x.cmd).nlb ∧
      (s.bun (cmdOf x.cmd).nsid b).st ≠ 0 :=
  ⟨{ upN nsR (sl (cf 7 16 0) .ready) with media := { buns := [(bkey 1 0, { st := 1, loc := { ream := 0 } })] } }, 5, 0, [], sl (cf 7 16 0) .ready, nsR, by decide⟩

theorem witness_DirectCommandsEnd_7 : ∃ (s : State) (i : Nat) (x : Slot) (ns : Ns),
    s.slot i = some x ∧ x.phase = .ready ∧ (cmdOf x.cmd).opc = 7 ∧ s.pwr.pfailLow = false ∧
      s.nsAny (cmdOf x.cmd).nsid = some ns ∧
      x.todo.getD (s.mappedIn (cmdOf x.cmd).nsid (cmdOf x.cmd).slba ((cmdOf x.cmd).slba + (cmdOf x.cmd).nlb)) = [] :=
  ⟨upN nsR (sl (cf 7 16 0) .ready), 5, sl (cf 7 16 0) .ready, nsR, by decide⟩

/-! HostReadsEnd -/

theorem witness_HostReadsEnd_1 : ∃ (s : State) (i : Nat) (x : Slot) (ns : Ns) (b : List Byte),
    i < 2 ^ 32 ∧ s.slot i = some x ∧ x.dma = true ∧ x.phase = .dataFetch ∧ s.pwr.pfailLow = false ∧ x.stop = none ∧
      s.nsAny (cmdOf x.cmd).nsid = some ns ∧
      (tagMismatch (cmdOf x.cmd) ns ((List.range (cmdOf x.cmd).nlb).map (blockOf b)) x.tags = [] ∨ x.tags = []) :=
  ⟨upN nsR { sl (cf 2 1 0) .dataFetch with dma := true }, 5, { sl (cf 2 1 0) .dataFetch with dma := true }, nsR, [1#8], by refine ⟨by decide, rfl, rfl, rfl, rfl, rfl, rfl, Or.inr rfl⟩⟩

theorem witness_HostReadsEnd_2 : ∃ (s : State) (i o : Nat) (r : List Nat) (x : Slot) (ns : Ns) (b : List Byte),
    i < 2 ^ 32 ∧ s.slot i = some x ∧ x.dma = true ∧ x.phase = .dataFetch ∧ s.pwr.pfailLow = false ∧ x.stop = none ∧
      s.nsAny (cmdOf x.cmd).nsid = some ns ∧ x.tags ≠ [] ∧
      tagMismatch (cmdOf x.cmd) ns ((List.range (cmdOf x.cmd).nlb).map (blockOf b)) x.tags = o :: r :=
  ⟨upN nsT2 { sl (cf 2 1 0) .dataFetch with dma := true, tags := [65536] }, 5, 0, [], { sl (cf 2 1 0) .dataFetch with dma := true, tags := [65536] }, nsT2, [], by refine ⟨by decide, rfl, rfl, rfl, rfl, rfl, rfl, by decide, by simp [tagMismatch, nsT2, nsR, show (cmdOf (cmdB (cf 2 1 0))).nlb = 1 from rfl, show (cmdOf (cmdB (cf 2 1 0))).opc = 2 from rfl, show (cmdOf (cmdB (cf 2 1 0))).slba = 0 from rfl, sl]⟩⟩

theorem witness_HostReadsEnd_3 : ∃ (s : State) (i : Nat) (x : Slot) (res : DmaRes),
    i < 2 ^ 32 ∧ s.slot i = some x ∧ x.dma = true ∧ x.phase = .dataFetch ∧ s.pwr.pfailLow = false ∧ dmaBytes res = none :=
  ⟨upN nsR { sl (cf 2 1 0) .dataFetch with dma := true }, 5, { sl (cf 2 1 0) .dataFetch with dma := true }, .ur, by decide⟩

theorem witness_HostReadsEnd_4 : ∃ (s : State) (i : Nat) (x : Slot),
    i < 2 ^ 32 ∧ s.slot i = some x ∧ x.dma = true ∧ x.phase = .dataFetch ∧ s.pwr.pfailLow = false :=
  ⟨upN nsR { sl (cf 2 1 0) .dataFetch with dma := true }, 5, { sl (cf 2 1 0) .dataFetch with dma := true }, by decide⟩

theorem witness_HostReadsEnd_5 : ∃ (s : State) (i : Nat) (x : Slot),
    s.slot i = some x ∧ x.dma = true ∧ x.phase = .listFetch ∧ (cmdOf x.cmd).opc ≠ 9 ∧ s.pwr.pfailLow = false :=
  ⟨upN nsR { sl (cf 2 1 0 ++ [(1, 1), (32, 1)]) .listFetch with dma := true }, 5, { sl (cf 2 1 0 ++ [(1, 1), (32, 1)]) .listFetch with dma := true }, by decide⟩

theorem witness_HostReadsEnd_6 : ∃ (s : State) (i e : Nat) (x : Slot) (ns : Ns) (b : List Byte),
    s.slot i = some x ∧ x.dma = true ∧ x.phase = .listFetch ∧ (cmdOf x.cmd).opc ≠ 9 ∧ s.pwr.pfailLow = false ∧ x.stop = none ∧
      s.nsOf x (cmdOf x.cmd).nsid = some ns ∧ checkScatter (cmdOf x.cmd) b = .inl e :=
  ⟨upN nsR { sl (cf 2 1 0 ++ [(1, 1), (32, 1)]) .listFetch with dma := true }, 5, 0, { sl (cf 2 1 0 ++ [(1, 1), (32, 1)]) .listFetch with dma := true }, nsR, [1#8, 0#8, 0#8, 0#8, 0#8, 0#8, 0#8, 0#8, 4#8], by decide⟩

theorem witness_HostReadsEnd_7 : ∃ (s : State) (i : Nat) (x : Slot) (b : List Byte),
    s.slot i = some x ∧ x.dma = true ∧ x.phase = .tagFetch ∧ s.pwr.pfailLow = false ∧ x.stop = none ∧ s.dmaOk x.gfn = true :=
  ⟨upN nsT { sl (cf 2 1 0) .tagFetch with dma := true }, 5, { sl (cf 2 1 0) .tagFetch with dma := true }, [1#8, 0#8, 0#8, 0#8, 0#8, 0#8, 0#8, 0#8], by decide⟩

/-! UnitsAreCollected -/

theorem witness_UnitsAreCollected_1 : ∃ (s : State) (lane i idx : Nat) (x : Slot) (u : IoUnit),
    s.slot i = some x ∧ tfind x.units idx = some u ∧ u.st = .cipher ∧ s.pwr.pfailLow = false ∧ x.enc = true ∧ u.staged = false ∧
      lane < 96 ∧ (i, idx) ∈ (s.lane lane).inside ∧ s.collectFull lane = false ∧ s.laneKey x.gfn x.kslot x.kgen = true ∧
      x.stop = none :=
  ⟨{ upK nsR { sl (cf 2 1 0) .units with enc := true, kgen := 7, units := [(0, { nsid := 1, lba := 0, st := .cipher, lane := some 3 })] } with cip := { keys := [(0, { loaded := true, gen := 7 })], lanes := [(3, { inside := [(5, 0)] })] } }, 3, 5, 0, { sl (cf 2 1 0) .units with enc := true, kgen := 7, units := [(0, { nsid := 1, lba := 0, st := .cipher, lane := some 3 })] }, { nsid := 1, lba := 0, st := .cipher, lane := some 3 }, by decide⟩

theorem witness_UnitsAreCollected_2 : ∃ (s : State) (lane i idx : Nat) (x : Slot) (u : IoUnit),
    s.slot i = some x ∧ tfind x.units idx = some u ∧ u.st = .cipher ∧ s.pwr.pfailLow = false ∧ x.enc = true ∧ u.staged = false ∧
      lane < 96 ∧ (i, idx) ∈ (s.lane lane).inside ∧ s.collectFull lane = false ∧ s.laneKey x.gfn x.kslot x.kgen = true ∧
      x.stop = none ∧ (s.lane lane).faults ≠ 2 ∧ (s.lane lane).faults ≠ 3 :=
  ⟨{ upK nsR { sl (cf 2 1 0) .units with enc := true, kgen := 7, units := [(0, { nsid := 1, lba := 0, st := .cipher, lane := some 31 })] } with cip := { keys := [(0, { loaded := true, gen := 7 })], lanes := [(31, { inside := [(5, 0)] })] } }, 31, 5, 0, { sl (cf 2 1 0) .units with enc := true, kgen := 7, units := [(0, { nsid := 1, lba := 0, st := .cipher, lane := some 31 })] }, { nsid := 1, lba := 0, st := .cipher, lane := some 31 }, by decide⟩

theorem witness_UnitsAreCollected_3 : ∃ (s : State) (lane i idx : Nat) (x : Slot) (u : IoUnit) (w : BlkVer),
    s.slot i = some x ∧ tfind x.units idx = some u ∧ u.st = .cipher ∧ s.pwr.pfailLow = false ∧ x.enc = false ∧
      u.staged = false ∧ (cmdOf x.cmd).opc ≠ 9 ∧ lane < 96 ∧ (i, idx) ∈ (s.lane lane).inside ∧
      (s.blk u.nsid u.lba).ver = some w ∧ w.data.slot = x.kslot ∧ w.data.gen = x.kgen ∧ s.laneKey x.gfn x.kslot x.kgen = true ∧
      s.collectFull lane = false ∧ x.stop = none :=
  ⟨{ upK nsR { sl (cf 1 1 0) .units with kgen := 7, units := [(0, { nsid := 1, lba := 0, st := .cipher })] } with media := { blks := [(bkey 1 0, mb0)], reams := [(0, ream0)] }, cip := { keys := [(0, { loaded := true, gen := 7 })], lanes := [(1, { inside := [(5, 0)] })] } }, 1, 5, 0, { sl (cf 1 1 0) .units with kgen := 7, units := [(0, { nsid := 1, lba := 0, st := .cipher })] }, { nsid := 1, lba := 0, st := .cipher }, bv, by decide⟩

theorem witness_UnitsAreCollected_4 : ∃ (s : State) (k i idx : Nat) (r : List (Nat × Nat)) (x : Slot) (u : IoUnit),
    s.pwr.pfailLow = false ∧ ccPick s.sub.ccq s.sub.ccLast = some k ∧ tget s.sub.ccq k [] = (i, idx) :: r ∧ s.slot i = some x ∧
      x.phase = .units ∧ tfind x.units idx = some u ∧ u.st = .posted ∧ (∃ p ∈ x.units, p.1 ≠ idx ∧ p.2.st.final = false) :=
  ⟨{ upK nsR (sl [] .waiting) with sub := { slots := [(5, { sl (cf 1 2 0) .units with units := [(0, { nsid := 1, lba := 0, st := .posted }), (1, { nsid := 1, lba := 1, st := .cipher })] })], ccq := [(3, [(5, 0)])] } }, 3, 5, 0, [], { sl (cf 1 2 0) .units with units := [(0, { nsid := 1, lba := 0, st := .posted }), (1, { nsid := 1, lba := 1, st := .cipher })] }, { nsid := 1, lba := 0, st := .posted }, by decide⟩

theorem witness_UnitsAreCollected_5 : ∃ (s : State) (k i idx : Nat) (r : List (Nat × Nat)) (x : Slot) (u : IoUnit),
    s.pwr.pfailLow = false ∧ ccPick s.sub.ccq s.sub.ccLast = some k ∧ tget s.sub.ccq k [] = (i, idx) :: r ∧ s.slot i = some x ∧
      x.phase = .units ∧ tfind x.units idx = some u ∧ u.st = .posted ∧ u.res = 0 ∧ (∀ p ∈ x.units, p.1 ≠ idx → p.2.st = .ok) ∧
      tsorted x.units = true ∧ x.enc = true ∧ ((cmdOf x.cmd).opc = 2 ∨ (cmdOf x.cmd).opc = 10) :=
  ⟨{ upK nsR (sl [] .waiting) with sub := { slots := [(5, { sl (cf 2 1 0) .units with enc := true, units := [(0, { nsid := 1, lba := 0, st := .posted })] })], ccq := [(3, [(5, 0)])] } }, 3, 5, 0, [], { sl (cf 2 1 0) .units with enc := true, units := [(0, { nsid := 1, lba := 0, st := .posted })] }, { nsid := 1, lba := 0, st := .posted }, by decide⟩

/-! MirrorAcks -/

theorem witness_MirrorAcks_1 : ∃ (s : State) (i p a b : Nat) (x : Slot) (ns : Ns),
    s.slot i = some x ∧ x.phase = .mirror ∧ s.pwr.pfailLow = false ∧ s.nsAny (cmdOf x.cmd).nsid = some ns ∧
      p < (x.pieceList ns.zoned).length ∧ x.pieces = 0 :=
  ⟨upN nsR (sl (cf 2 1 0) .mirror), 5, 0, 0, 1, sl (cf 2 1 0) .mirror, nsR, by decide⟩

theorem witness_MirrorAcks_2 : ∃ (s : State) (i p a b : Nat) (x : Slot) (ns : Ns),
    s.slot i = some x ∧ x.phase = .mirror ∧ s.pwr.pfailLow = false ∧ s.nsAny (cmdOf x.cmd).nsid = some ns ∧ ns.zoned = false ∧
      p < (x.pieceList false).length ∧ x.mirrored.getLsbD p = false ∧ a % 8 ≠ b % 8 ∧ s.dramUp a = true ∧ s.dramUp b = true ∧
      (x.mirrored ||| (1#8 <<< p)).toNat ≠ allPieces (x.pieceList false).length :=
  ⟨{ upN nsR (sl (cf 2 80 0) .mirror) with drc := drc2 }, 5, 1, 0, 1, sl (cf 2 80 0) .mirror, nsR, by decide⟩

theorem witness_MirrorAcks_3 : ∃ (s : State) (i a b z : Nat) (x : Slot) (ns : Ns),
    s.slot i = some x ∧ x.phase = .mirror ∧ s.pwr.pfailLow = false ∧ (cmdOf x.cmd).opc = 2 ∧ x.stop = none ∧
      s.nsAny (cmdOf x.cmd).nsid = some ns ∧ ns.zoned = true ∧ zoneOfLba (cmdOf x.cmd).slba = z ∧ 0 < (cmdOf x.cmd).nlb ∧
      (cmdOf x.cmd).nlb ≤ 64 ∧ x.mirrored = 0 ∧ x.pieces = 0 ∧ x.adv = (cmdOf x.cmd).nlb ∧ x.cut = none ∧
      s.stageTurn i x (cmdOf x.cmd) = true ∧ (s.zone (cmdOf x.cmd).nsid z).st.isOpen = true ∧
      (cmdOf x.cmd).slba = zslba z + (s.zone (cmdOf x.cmd).nsid z).wp ∧
      s.parityBytes (cmdOf x.cmd).nsid z (cmdOf x.cmd).nlb = 0 ∧ a % 8 ≠ b % 8 ∧ s.dramUp a = true ∧ s.dramUp b = true ∧
      s.stageWindow (cmdOf x.cmd).nsid (cmdOf x.cmd).slba ((cmdOf x.cmd).slba + (cmdOf x.cmd).nlb - 1) ≠ none :=
  ⟨wDrc (upZ { st := .implicitOpen } { sl (cf 2 1 0) .mirror with adv := 1 }), 5, 0, 1, 0, { sl (cf 2 1 0) .mirror with adv := 1 }, nsZ, by decide⟩

/-! HazardEngine -/

theorem witness_HazardEngine_2 : ∃ (s : State) (req i : Nat) (key : SearchKey) (staging : Bool),
    hzFreeIn s.hz staging = some i :=
  ⟨{ up with hz := { entries := [(0, { lo := 0, last := 7, nsid := 1 })] } }, 2, 2, { lo := 4, last := 9, nsid := 1, w := true }, false, by decide⟩

theorem witness_HazardEngine_3 : ∃ (s : State) (req : Nat) (key : SearchKey) (staging : Bool),
    hzFreeIn s.hz staging = none :=
  ⟨{ up with hz := { entries := evens 8192 32768 } }, 2, {}, true, by rw [hzFreeIn, if_pos rfl]; exact lowest_none _ _ _ (fun j h => evens_full _ _ j h)⟩

theorem witness_HazardEngine_4 : ∃ (s : State) (req : Nat) (d : HzHandle),
    tfind s.hz.handles req = some d :=
  ⟨{ up with hz := { entries := [(0, { lo := 0, last := 7, nsid := 1 })], handles := [(2, { key := { lo := 4, last := 9, nsid := 1, w := true }, mask := 0xFFF, ceiling := none, last := 0 })] } }, 2, { key := { lo := 4, last := 9, nsid := 1, w := true }, mask := 0xFFF, ceiling := none, last := 0 }, by decide⟩

theorem witness_HazardEngine_5 : ∃ (s : State) (i lo last : Nat) (e : HzEntry),
    tfind s.hz.entries i = some e ∧ modifyOk i e lo last = true :=
  ⟨{ up with hz := { entries := [(0, { lo := 0, last := 7, nsid := 1 })] } }, 0, 0, 3, { lo := 0, last := 7, nsid := 1 }, by decide⟩

theorem witness_HazardEngine_6 : ∃ (s : State) (i : Nat) (e : HzEntry),
    tfind s.hz.entries i = some e :=
  ⟨{ up with hz := { entries := [(0, { lo := 0, last := 7, nsid := 1 })] } }, 0, { lo := 0, last := 7, nsid := 1 }, by decide⟩

/-! RangeMatch -/

theorem witness_RangeMatch_1 : ∃ (h : Hz) (b : Nat) (e : HzEntry) (k : HzKey),
    b < 12 :=
  ⟨{}, 11, { lo := 0, last := 7, nsid := 1 }, { lo := 7, last := 9, nsid := 1, w := true }, by decide⟩

theorem witness_RangeMatch_2 : ∃ (h : Hz) (b : Nat) (e : HzEntry) (k : HzKey),
    b < 12 ∧ e.w = false ∧ k.w = false :=
  ⟨{}, 11, { lo := 0, last := 7, nsid := 1 }, { lo := 7, last := 9, nsid := 1 }, by decide⟩

/-! VatBuffers -/

theorem witness_VatBuffers_1 : ∃ (s : State) (owner size n : Nat) (plain rp : Bool),
    s.poolFor owner { size := size, plain := plain, readPath := rp } = some n ∧
      (List.range 8).any (s.vat.eligible size plain) = true :=
  ⟨up, 5, 4096, 0, true, true, by decide⟩

theorem witness_VatBuffers_2 : ∃ (s s1 : State) (owner handle pool idx : Nat),
    s.handleBad owner handle = none ∧ handle / 2 ^ 29 % 8 = pool ∧ handle / 2 ^ 8 % 2 ^ 21 = idx ∧
      { s with vat := { s.vat with bufs := (tset s.vat.bufs (bufKey pool idx) { alloc := false, owner := 0x7F, gen := (s.vat.buf pool idx).gen + 1 }) } } = s1 :=
  ⟨{ up with vat := { bufs := [(bufKey 0 3, { alloc := true, owner := 5, gen := 2 })] } }, { up with vat := { bufs := [(bufKey 0 3, { alloc := false, owner := 0x7F, gen := 3 })] } }, 5, 770, 0, 3, by exact ⟨rfl, rfl, rfl, rfl⟩⟩

theorem witness_VatBuffers_3 : ∃ (s : State) (owner handle pool idx o : Nat),
    s.handleBad owner handle = none ∧ handle / 2 ^ 29 % 8 = pool ∧ handle / 2 ^ 8 % 2 ^ 21 = idx :=
  ⟨{ up with vat := { bufs := [(bufKey 0 3, { alloc := true, owner := 5, gen := 2 })] } }, 5, 770, 0, 3, 6, by decide⟩

theorem witness_VatBuffers_4 : ∃ (s : State) (owner handle : Nat),
    s.handleBad owner handle = some 2 :=
  ⟨{ up with vat := { bufs := [(bufKey 0 3, { alloc := true, owner := 5, gen := 2 })], rejected := true } }, 5, 769, by decide⟩

/-! ParamMessages -/

theorem witness_ParamMessages_1 : ∃ (s : State) (src : Src) (r : Req),
    s.stands src r 0x0001 0 :=
  ⟨upM 0x0001 [], some 0, rq 0x0001 [], by repeat' (first | apply And.intro | rfl | decide)⟩

theorem witness_ParamMessages_2 : ∃ (s : State) (src : Src) (r : Req) (n : Nat),
    s.stands src r 0x0002 4 ∧ fieldLe r.payload 0 4 = n ∧ inR 1 255 n = true ∧ 4 + 4 * n ≤ r.len :=
  ⟨upM 0x0002 (pl 8 [(0, 1), (4, 1), (7, 0x0C)]), some 0, rq 0x0002 (pl 8 [(0, 1), (4, 1), (7, 0x0C)]), 1, by repeat' (first | apply And.intro | rfl | decide)⟩

theorem witness_ParamMessages_3 : ∃ (s : State) (src : Src) (r : Req) (id v st d : Nat),
    s.stands src r 0x0003 20 ∧ s.adm.devOp = none ∧ fieldLe r.payload 0 4 = 1 ∧ fieldLe r.payload 8 4 = id ∧
      fieldLe r.payload 12 8 = v ∧ s.entryRefused src 8 id v = some (st, d) :=
  ⟨upSet 0 [(8, 1), (11, 0x77)], some 0, rqSet 0 [(8, 1), (11, 0x77)], 0x77000001, 0, 0x40D, 0, by repeat' (first | apply And.intro | decide +kernel | rfl | decide)⟩

theorem witness_ParamMessages_4 : ∃ (s : State) (src : Src) (r : Req) (id v : Nat),
    s.stands src r 0x0003 20 ∧ s.adm.devOp = none ∧ fieldLe r.payload 0 4 = 1 ∧ fieldLe r.payload 8 4 = id ∧
      fieldLe r.payload 12 8 = v ∧ s.entryRefused src 8 id v = none ∧ pageOutside (tset s.par.live id v) (8, id, v) = true :=
  ⟨(upSet 0 [(8, 1), (9, 0x50), (11, 9)]).setPv (pCls 0 8) 1, some 0, rqSet 0 [(8, 1), (9, 0x50), (11, 9)], 0x09005001, 0, by repeat' (first | apply And.intro | decide +kernel | rfl | decide)⟩

theorem witness_ParamMessages_5 : ∃ (s : State) (src : Src) (r : Req) (id v : Nat),
    s.stands src r 0x0003 20 ∧ s.adm.devOp = none ∧ fieldLe r.payload 0 4 = 1 ∧ fieldLe r.payload 8 4 = id ∧
      fieldLe r.payload 12 8 = v ∧ s.entryRefused src 8 id v = none ∧ pageOutside (tset s.par.live id v) (8, id, v) = false ∧
      (rulesOk (s.ruleTbl (tset s.par.live id v)) s.homes = false ∨ s.blockers (tset s.par.live id v) ≠ 0) :=
  ⟨upSet 0 [(8, 0x12), (11, 6), (12, 10)], some 0, rqSet 0 [(8, 0x12), (11, 6), (12, 10)], 0x06000012, 10, by repeat' (first | apply And.intro | decide +kernel | rfl | decide)⟩

theorem witness_ParamMessages_6 : ∃ (s : State) (src : Src) (r : Req) (id v : Nat),
    s.stands src r 0x0003 20 ∧ s.adm.devOp = none ∧ fieldLe r.payload 0 4 = 1 ∧ bitN (fieldLe r.payload 4 4) 0 = true ∧
      fieldLe r.payload 8 4 = id ∧ fieldLe r.payload 12 8 = v ∧ s.entryRefused src 8 id v = none ∧
      pageOutside (tset s.par.live id v) (8, id, v) = false ∧ rulesOk (s.ruleTbl (tset s.par.live id v)) s.homes = true ∧
      s.blockers (tset s.par.live id v) = 0 :=
  ⟨upSet 1 [(8, 0x12), (11, 6), (12, 3)], some 0, rqSet 1 [(8, 0x12), (11, 6), (12, 3)], 0x06000012, 3, by repeat' (first | apply And.intro | decide +kernel | rfl | decide)⟩

theorem witness_ParamMessages_7 : ∃ (s : State) (src : Src) (r : Req) (id v : Nat),
    s.stands src r 0x0003 20 ∧ s.adm.devOp = none ∧ fieldLe r.payload 0 4 = 1 ∧ bitN (fieldLe r.payload 4 4) 0 = false ∧
      fieldLe r.payload 8 4 = id ∧ fieldLe r.payload 12 8 = v ∧ s.entryRefused src 8 id v = none ∧
      pageOutside (tset s.par.live id v) (8, id, v) = false ∧ rulesOk (s.ruleTbl (tset s.par.live id v)) s.homes = true ∧
      s.blockers (tset s.par.live id v) = 0 ∧ s.drainsFirst (tset s.par.live id v) = false ∧ clrLoop id = none ∧
      id ≠ pProfileLock ∧ id ≠ pPlp ∧ id ≠ pHoldup ∧ id ≠ pQuorum :=
  ⟨upSet 0 [(8, 0x12), (11, 6), (12, 3)], some 0, rqSet 0 [(8, 0x12), (11, 6), (12, 3)], 0x06000012, 3, by repeat' (first | apply And.intro | decide +kernel | rfl | decide)⟩

theorem witness_ParamMessages_8 : ∃ (s : State) (src : Src) (r : Req) (v : Nat),
    s.stands src r 0x0003 20 ∧ s.adm.devOp = none ∧ fieldLe r.payload 0 4 = 1 ∧ bitN (fieldLe r.payload 4 4) 0 = false ∧
      fieldLe r.payload 8 4 = pProfileLock ∧ fieldLe r.payload 12 8 = v ∧ s.entryRefused src 8 pProfileLock v = none ∧
      rulesOk (s.ruleTbl (tset s.par.live pProfileLock v)) s.homes = true ∧ s.blockers (tset s.par.live pProfileLock v) = 0 ∧
      s.drainsFirst (tset s.par.live pProfileLock v) = false ∧ s.fst.bcOlderErased = true :=
  ⟨upSet 0 [(8, 1), (11, 1), (12, 2)], some 0, rqSet 0 [(8, 1), (11, 1), (12, 2)], 2, by repeat' (first | apply And.intro | decide +kernel | rfl | decide)⟩

theorem witness_ParamMessages_9 : ∃ (s : State) (src : Src) (r : Req) (id v n : Nat),
    s.stands src r 0x0003 20 ∧ s.adm.devOp = none ∧ fieldLe r.payload 0 4 = 1 ∧ bitN (fieldLe r.payload 4 4) 0 = false ∧
      fieldLe r.payload 8 4 = id ∧ fieldLe r.payload 12 8 = v ∧ s.entryRefused src 8 id v = none ∧
      pageOutside (tset s.par.live id v) (8, id, v) = false ∧ rulesOk (s.ruleTbl (tset s.par.live id v)) s.homes = true ∧
      s.blockers (tset s.par.live id v) = 0 ∧ s.drainsFirst (tset s.par.live id v) = false ∧ clrLoop id = some n :=
  ⟨upSet 0 [(8, 0x30), (11, 11), (12, 2)], some 0, rqSet 0 [(8, 0x30), (11, 11), (12, 2)], 0x0B000030, 2, 0, by repeat' (first | apply And.intro | decide +kernel | rfl | decide)⟩

theorem witness_ParamMessages_10 : ∃ (s : State) (src : Src) (r : Req) (v : Nat),
    s.stands src r 0x0003 20 ∧ s.adm.devOp = none ∧ fieldLe r.payload 0 4 = 1 ∧ bitN (fieldLe r.payload 4 4) 0 = false ∧
      fieldLe r.payload 8 4 = pQuorum ∧ fieldLe r.payload 12 8 = v ∧ s.entryRefused src 8 pQuorum v = none ∧
      rulesOk (s.ruleTbl (tset s.par.live pQuorum v)) s.homes = true ∧ s.blockers (tset s.par.live pQuorum v) = 0 ∧
      s.drainsFirst (tset s.par.live pQuorum v) = false :=
  ⟨upSet 0 [(8, 2), (11, 9), (12, 32)], some 0, rqSet 0 [(8, 2), (11, 9), (12, 32)], 32, by repeat' (first | apply And.intro | decide +kernel | rfl | decide)⟩

/-! QueueMessages -/

theorem witness_QueueMessages_1 : ∃ (s : State) (src : Src) (r : Req) (q : QReq),
    s.stands src r 0x0010 24 ∧ s.qreqOf src r.payload = q ∧ s.mayName src q.gfn = true ∧ (s.fn q.gfn).vf ≠ .absent ∧
      (s.fn q.gfn).vf ≠ .bare ∧ (s.fn q.gfn).flr = false ∧ s.qreqBad q = none ∧ s.q q.gfn q.qid = none ∧ q.depth < q.entries ∧
      s.depthUsed q.gfn + q.depth ≤ s.pv (pQuota q.gfn) :=
  ⟨upM 0x0010 pCq, some 0, rq 0x0010 pCq, up.qreqOf (some 0) pCq, by refine ⟨⟨?_, ?_, ?_, ?_, ?_, ?_⟩, ?_, ?_, ?_, ?_, ?_, ?_, ?_, ?_, ?_⟩ <;> first | decide | rfl | decide +kernel⟩

theorem witness_QueueMessages_2 : ∃ (s : State) (src : Src) (r : Req) (g qid : Nat) (q : Queue),
    s.stands src r 0x0011 4 ∧ s.gfnArg src (fieldLe r.payload 2 2) = g ∧ fieldLe r.payload 0 2 = qid ∧ s.mayName src g = true ∧
      (s.fn g).vf ≠ .absent ∧ (s.fn g).vf ≠ .bare ∧ (s.fn g).flr = false ∧ s.q g qid = some q ∧ q.deleting = false ∧
      s.slotsOf g qid = [] ∧ s.waiters (.deleteQueue g qid) = [] ∧ s.waiters (.queueReset g qid) = [] ∧
      s.waiters (.queueResetMerged g qid) = [] :=
  ⟨{ upM 0x0011 (pl 4 []) with qs := [(qkey 0 0, q0)] }, some 0, rq 0x0011 (pl 4 []), 0, 0, q0, by repeat' (first | apply And.intro | rfl | decide)⟩

theorem witness_QueueMessages_3 : ∃ (s : State) (src : Src) (r : Req) (g qid : Nat) (q : Queue),
    s.stands src r 0x0012 4 ∧ s.gfnArg src (fieldLe r.payload 2 2) = g ∧ fieldLe r.payload 0 2 = qid ∧ s.mayName src g = true ∧
      (s.fn g).vf ≠ .absent ∧ (s.fn g).vf ≠ .bare ∧ (s.fn g).flr = false ∧ s.q g qid = some q ∧ q.deleting = false ∧
      q.resetting = false ∧ (s.fn g).abBusy = false ∧ s.slotsOf g qid = [] ∧ s.waiters (.queueReset g qid) = [] ∧
      s.waiters (.queueResetMerged g qid) = [] :=
  ⟨{ upM 0x0012 (pl 4 []) with qs := [(qkey 0 0, { q0 with cnt300 := 3, tail := 2 })] }, some 0, rq 0x0012 (pl 4 []), 0, 0, { q0 with cnt300 := 3, tail := 2 }, by repeat' (first | apply And.intro | rfl | decide)⟩

/-! NamespaceMessages -/

theorem witness_NamespaceMessages_1 : ∃ (s : State) (src : Src) (r : Req) (n : NsReq),
    s.stands src r 0x0020 24 ∧ s.nsReqOf src r.payload = n ∧ nsReqBad n = none ∧ s.pfOf n.gfn ≠ none ∧
      (s.fn n.gfn).vf ≠ .absent ∧ s.nsRuleBroken n = false ∧
      n.capacity + s.nss.foldl (fun a p => a + nsCapacity p.2) 0 ≤ 2 ^ 40 ∧ n.need ≤ s.groupUnreserved n.home :=
  ⟨reams (page0 (upM 0x0020 pNs)), some 0, rq 0x0020 pNs, up.nsReqOf (some 0) pNs, by repeat' (first | apply And.intro | rfl | decide)⟩

theorem witness_NamespaceMessages_2 : ∃ (s : State) (src : Src) (r : Req) (nsid g : Nat) (n : Ns),
    s.stands src r 0x0023 7 ∧ fieldLe r.payload 0 4 = nsid ∧ s.gfnArg src (fieldLe r.payload 4 2) = g ∧ byteAt r.payload 6 = 1 ∧
      tfind s.nss nsid = some n ∧ n.busy = 0 ∧ s.pfOf g ≠ none ∧ (s.fn g).vf ≠ .absent ∧ n.fns.contains g = false :=
  ⟨{ upM 0x0023 (pl 7 [(0, 1), (6, 1)]) with nss := [(1, { nsZ with fns := [] })] }, some 0, rq 0x0023 (pl 7 [(0, 1), (6, 1)]), 1, 0, { nsZ with fns := [] }, by repeat' (first | apply And.intro | rfl | decide)⟩

theorem witness_NamespaceMessages_3 : ∃ (s : State) (src : Src) (r : Req) (nsid g : Nat) (n : Ns),
    s.stands src r 0x0023 7 ∧ fieldLe r.payload 0 4 = nsid ∧ s.gfnArg src (fieldLe r.payload 4 2) = g ∧ byteAt r.payload 6 = 0 ∧
      tfind s.nss nsid = some n ∧ n.busy = 0 ∧ s.pfOf g ≠ none ∧ (s.fn g).vf ≠ .absent ∧ n.fns.contains g = true ∧
      (s.keepEarly nsid [g]).earlyDone nsid (some g) = true ∧ s.waiters (.nsDetach nsid g) = [] :=
  ⟨{ upM 0x0023 (pl 7 [(0, 1)]) with nss := [(1, nsZ)] }, some 0, rq 0x0023 (pl 7 [(0, 1)]), 1, 0, nsZ, by repeat' (first | apply And.intro | rfl | decide)⟩

theorem witness_NamespaceMessages_4 : ∃ (s : State) (src : Src) (r : Req) (nsid tag : Nat) (n : Ns),
    s.stands src r 0x0022 5 ∧ fieldLe r.payload 0 4 = nsid ∧ byteAt r.payload 4 = tag ∧ tag ≤ 2 ∧ tfind s.nss nsid = some n ∧
      n.busy = 0 ∧ (s.keepEarly nsid n.fns).earlyDone nsid none = true ∧ s.waiters (.nsFormat nsid tag) = [] :=
  ⟨{ upM 0x0022 (pl 5 [(0, 1), (4, 2)]) with nss := [(1, nsZ)], zones := [(zkey 1 0, { st := .full, wp := 507904 })] }, some 0, rq 0x0022 (pl 5 [(0, 1), (4, 2)]), 1, 2, nsZ, by repeat' (first | apply And.intro | rfl | decide)⟩

theorem witness_NamespaceMessages_5 : ∃ (s : State) (src : Src) (r : Req) (nsid : Nat) (n : Ns),
    s.stands src r 0x0021 4 ∧ fieldLe r.payload 0 4 = nsid ∧ tfind s.nss nsid = some n ∧ n.busy = 0 ∧
      (s.keepEarly nsid n.fns).earlyDone nsid none = true ∧ s.waiters (.nsDelete nsid) = [] :=
  ⟨{ upM 0x0021 (pl 4 [(0, 1)]) with nss := [(1, nsZ)] }, some 0, rq 0x0021 (pl 4 [(0, 1)]), 1, nsZ, by repeat' (first | apply And.intro | rfl | decide)⟩

/-! KeyMessages -/

theorem witness_KeyMessages_1 : ∃ (s : State) (src : Src) (r : Req) (k : Nat) (kek : List Byte),
    s.stands src r 0x0030 80 ∧ fieldLe r.payload 0 2 = k ∧ k < 0x1000 ∧
      s.mayName src (s.gfnArg src (fieldLe r.payload 2 2)) = true ∧
      s.pageOwner (k / 16) = s.gfnArg src (fieldLe r.payload 2 2) ∧ tfind s.cip.keks (byteAt r.payload 4) = some kek ∧
      (s.keySlot k).gen ≠ 0xFFFFFFFF#32 ∧ s.fst.blobUsed + 2 ≤ 2048 :=
  ⟨{ page0 (upM 0x0030 (pl 80 [(0, 3), (4, 1)])) with cip := { keks := [(1, List.replicate 32 1#8)] } }, some 0, rq 0x0030 (pl 80 [(0, 3), (4, 1)]), 3, List.replicate 32 1#8, by repeat' (first | apply And.intro | rfl | decide)⟩

theorem witness_KeyMessages_2 : ∃ (s : State) (src : Src) (r : Req) (k : Nat),
    s.stands src r 0x0030 80 ∧ fieldLe r.payload 0 2 = k ∧ 0x8000 < k ∧ k ≤ 0x800F ∧ s.selfOf src = s.mgmtPf ∧
      byteAt r.payload 4 = 0 ∧ (sliceB r.payload 40 40).any (fun b => decide (b ≠ 0)) = false ∧ s.fst.blobUsed + 2 ≤ 2048 :=
  ⟨upM 0x0030 (pl 80 [(0, 1), (1, 0x80), (8, 5)]), some 0, rq 0x0030 (pl 80 [(0, 1), (1, 0x80), (8, 5)]), 0x8001, by repeat' (first | apply And.intro | rfl | decide)⟩

theorem witness_KeyMessages_3 : ∃ (s : State) (src : Src) (r : Req) (k : Nat),
    s.stands src r 0x0031 4 ∧ fieldLe r.payload 0 2 = k ∧ k < 4096 ∧
      s.mayName src (s.gfnArg src (fieldLe r.payload 2 2)) = true ∧
      s.pageOwner (k / 16) = s.gfnArg src (fieldLe r.payload 2 2) ∧ (s.keySlot k).loaded = true ∧ s.fst.blobUsed + 2 ≤ 2048 :=
  ⟨{ page0 (upM 0x0031 (pl 4 [(0, 3)])) with cip := { keys := [(3, { loaded := true, gen := 2 })] } }, some 0, rq 0x0031 (pl 4 [(0, 3)]), 3, by repeat' (first | apply And.intro | rfl | decide)⟩

theorem witness_KeyMessages_4 : ∃ (s : State) (src : Src) (r : Req) (k : Nat),
    s.stands src r 0x0031 4 ∧ fieldLe r.payload 0 2 = k ∧ k < 4096 ∧
      s.mayName src (s.gfnArg src (fieldLe r.payload 2 2)) = true ∧
      s.pageOwner (k / 16) = s.gfnArg src (fieldLe r.payload 2 2) ∧ (s.keySlot k).loaded = false :=
  ⟨page0 (upM 0x0031 (pl 4 [(0, 5)])), some 0, rq 0x0031 (pl 4 [(0, 5)]), 5, by repeat' (first | apply And.intro | decide +kernel | rfl | decide)⟩

/-! LoopMessages -/

theorem witness_LoopMessages_1 : ∃ (s : State) (src : Src) (r : Req) (ps : Nat),
    s.stands src r 0x0070 16 ∧ byteAt r.payload 0 = ps ∧ ps < 3 ∧ fieldLe r.payload 4 4 ≤ 3600 ∧ s.pstate ≠ ps :=
  ⟨upM 0x0070 (pl 16 [(0, 1)]), some 0, rq 0x0070 (pl 16 [(0, 1)]), 1, by repeat' (first | apply And.intro | decide +kernel | rfl | decide)⟩

theorem witness_LoopMessages_2 : ∃ (s : State) (src : Src) (r : Req) (ps : Nat),
    s.stands src r 0x0070 16 ∧ byteAt r.payload 0 = ps ∧ 3 ≤ ps ∧ ps ≤ 5 ∧ fieldLe r.payload 4 4 ≤ 3600 ∧ s.pstate ≠ ps ∧
      (s.modeOf = 1 ∨ s.modeOf = 2) :=
  ⟨upM 0x0070 (pl 16 [(0, 3)]), some 0, rq 0x0070 (pl 16 [(0, 3)]), 3, by repeat' (first | apply And.intro | decide +kernel | rfl | decide)⟩

theorem witness_LoopMessages_3 : ∃ (s : State) (src : Src) (r : Req) (ps : Nat),
    s.stands src r 0x0070 16 ∧ byteAt r.payload 0 = ps ∧ 3 ≤ ps ∧ ps ≤ 5 ∧ fieldLe r.payload 4 4 ≤ 3600 ∧ s.pstate ≠ ps ∧
      s.modeOf = 3 :=
  ⟨{ upM 0x0070 (pl 16 [(0, 3)]) with mode := { booting := false, hold := 2 }, adm := { devOp := some 1 } }, some 0, rq 0x0070 (pl 16 [(0, 3)]), 3, by repeat' (first | apply And.intro | decide +kernel | rfl | decide)⟩

theorem witness_LoopMessages_4 : ∃ (s : State) (src : Src) (r : Req) (ps : Nat),
    s.stands src r 0x0070 16 ∧ byteAt r.payload 0 = ps ∧ ps ≤ 5 ∧ fieldLe r.payload 4 4 ≤ 3600 ∧ s.pstate = ps :=
  ⟨upM 0x0070 (pl 16 [(0, 0)]), some 0, rq 0x0070 (pl 16 [(0, 0)]), 0, by repeat' (first | apply And.intro | decide +kernel | rfl | decide)⟩

theorem witness_LoopMessages_5 : ∃ (s : State) (src : Src) (r : Req) (n : Nat),
    s.stands src r 0x0080 8 ∧ byteAt r.payload 0 = n ∧ n < 32 :=
  ⟨upM 0x0080 (pl 8 [(0, 31), (6, 20)]), some 0, rq 0x0080 (pl 8 [(0, 31), (6, 20)]), 31, by repeat' (first | apply And.intro | decide +kernel | rfl | decide)⟩

theorem witness_LoopMessages_6 : ∃ (s : State) (src : Src) (r : Req) (n : Nat),
    s.stands src r 0x0081 32 ∧ byteAt r.payload 0 = n ∧ n < 32 ∧ (∃ i, i < 4 ∧ fieldLe r.payload (4 + 4 * i) 4 ≠ 0) :=
  ⟨upM 0x0081 (pl 32 [(0, 8), (4, 1)]), some 0, rq 0x0081 (pl 32 [(0, 8), (4, 1)]), 8, by repeat' (first | exact ⟨0, by decide, by decide⟩ | apply And.intro | rfl | decide | decide +kernel)⟩

theorem witness_LoopMessages_7 : ∃ (s : State) (src : Src) (r : Req),
    s.stands src r 0x0082 16 ∧ injBad r.payload = none :=
  ⟨upM 0x0082 (pl 16 [(0, 31), (2, 2), (8, 1)]), some 0, rq 0x0082 (pl 16 [(0, 31), (2, 2), (8, 1)]), by repeat' (first | apply And.intro | decide +kernel | rfl | decide)⟩

theorem witness_LoopMessages_8 : ∃ (s : State) (src : Src) (r : Req),
    s.stands src r 0x0083 12 ∧ byteAt r.payload 0 = 1 ∧ fieldLe r.payload 8 4 % 4 ≠ 3 :=
  ⟨upM 0x0083 (pl 12 [(0, 1)]), some 0, rq 0x0083 (pl 12 [(0, 1)]), by repeat' (first | apply And.intro | decide +kernel | rfl | decide)⟩

theorem witness_LoopMessages_9 : ∃ (s : State) (src : Src) (r : Req),
    s.stands src r 0x0083 12 ∧ byteAt r.payload 0 = 2 ∧ inR 1 254 (fieldLe r.payload 8 4) = true :=
  ⟨upM 0x0083 (pl 12 [(0, 2), (8, 254)]), some 0, rq 0x0083 (pl 12 [(0, 2), (8, 254)]), by repeat' (first | apply And.intro | decide +kernel | rfl | decide)⟩

theorem witness_LoopMessages_10 : ∃ (s : State) (src : Src) (r : Req),
    s.stands src r 0x0083 1 ∧ byteAt r.payload 0 = 0 :=
  ⟨upM 0x0083 (pl 1 []), some 0, rq 0x0083 (pl 1 []), by repeat' (first | apply And.intro | decide +kernel | rfl | decide)⟩

theorem witness_LoopMessages_11 : ∃ (s : State) (src : Src) (r : Req) (w : Nat) (x : HzResult),
    s.stands src r 0x00C0 36 ∧ byteAt r.payload 2 = w ∧ (w = 1 ∨ w = 2 ∨ w = 4) ∧ fieldLe r.payload 0 2 ≠ 0 ∧
      (List.range 16).any (fun b => bitN (fieldLe r.payload 0 2) b && decide (hzWidth s.hz b ≠ w)) = false ∧
      hzResult (hzSearch s.hz (hseKey r.payload w) (fieldLe r.payload 0 2) none) = x :=
  ⟨upM 0x00C0 (pl 36 [(0, 1), (2, 2)]), some 0, rq 0x00C0 (pl 36 [(0, 1), (2, 2)]), 2, {}, by repeat' (first | apply And.intro | decide +kernel | rfl | decide)⟩

/-! LogMessages -/

theorem witness_LogMessages_1 : ∃ (s : State) (src : Src) (r : Req) (g n : Nat),
    s.stands src r 0x0060 12 ∧ byteAt r.payload 0 = 3 ∧ s.gfnArg src (fieldLe r.payload 2 2) = g ∧
      s.logAllowed src (s.logReqOf src r.payload) = true ∧
      logTake (s.fn g).alog.length (fieldLe r.payload 4 4) (fieldLe r.payload 8 4) 32 = n :=
  ⟨upF { mbBusy := true, req := some (rqLog 3), alog := [{ code := 2, count := 0, nsid := 0, arg := 1, st := 0, time := 0 }] }, some 0, rqLog 3, 0, 1, by repeat' (first | apply And.intro | decide +kernel | rfl | decide)⟩

theorem witness_LogMessages_2 : ∃ (s : State) (src : Src) (r : Req) (g n : Nat) (l : List OutEntry),
    s.stands src r 0x0060 12 ∧ s.gfnArg src (fieldLe r.payload 2 2) = g ∧ s.logAllowed src (s.logReqOf src r.payload) = true ∧
      (byteAt r.payload 0 = 4 ∧ l = (s.fn g).log4 ∨ byteAt r.payload 0 = 5 ∧ l = (s.fn g).log5 ∨ byteAt r.payload 0 = 6 ∧ g = s.selfOf src ∧ l = (s.fn g).log6) ∧
      logTake l.length (fieldLe r.payload 4 4) (fieldLe r.payload 8 4) 32 = n :=
  ⟨upF { mbBusy := true, req := some (rqLog 5), log5 := [oe0] }, some 0, rqLog 5, 0, 1, [oe0], by refine ⟨⟨rfl, rfl, by decide, by decide, by decide, by decide, by decide, by decide⟩, by decide, by decide, Or.inr (Or.inl ⟨by decide, rfl⟩), by decide⟩⟩

theorem witness_LogMessages_3 : ∃ (s : State) (src : Src) (r : Req),
    s.stands src r 0x0061 8 ∧ inR 1 63 (fieldLe r.payload 4 4) = true :=
  ⟨upM 0x0061 (pl 8 [(4, 63)]), some 0, rq 0x0061 (pl 8 [(4, 63)]), by repeat' (first | apply And.intro | decide +kernel | rfl | decide)⟩

theorem witness_LogMessages_4 : ∃ (s : State) (src : Src) (r : Req),
    s.stands src r 0x0062 1 ∧ byteAt r.payload 0 = 1 :=
  ⟨upM 0x0062 (pl 1 [(0, 1)]), some 0, rq 0x0062 (pl 1 [(0, 1)]), by repeat' (first | apply And.intro | decide +kernel | rfl | decide)⟩

theorem witness_LogMessages_5 : ∃ (s : State),
    s.led.frozen = true :=
  ⟨{ up with led := { frozen := true } }, by decide⟩

theorem witness_LogMessages_6 : ∃ (s : State) (src : Src) (r : Req),
    s.stands src r 0x0062 1 ∧ byteAt r.payload 0 = 0 ∧ s.led.frozen = true :=
  ⟨{ upM 0x0062 (pl 1 []) with led := { frozen := true } }, some 0, rq 0x0062 (pl 1 []), by repeat' (first | apply And.intro | decide +kernel | rfl | decide)⟩

theorem witness_LogMessages_7 : ∃ (s : State) (src : Src) (r : Req),
    s.stands src r 0x0062 1 ∧ byteAt r.payload 0 = 0 ∧ s.led.frozen = false :=
  ⟨upM 0x0062 (pl 1 []), some 0, rq 0x0062 (pl 1 []), by repeat' (first | apply And.intro | decide +kernel | rfl | decide)⟩

theorem witness_LogMessages_8 : ∃ (s : State) (src : Src) (r : Req) (nonce : List Byte),
    s.stands src r 0x0063 1 ∧ byteAt r.payload 0 = 0 ∧ s.devBusy = none :=
  ⟨upM 0x0063 (pl 1 []), some 0, rq 0x0063 (pl 1 []), [], by repeat' (first | apply And.intro | decide +kernel | rfl | decide)⟩

theorem witness_LogMessages_9 : ∃ (s : State) (src : Src) (r : Req),
    s.stands src r 0x0063 148 ∧ byteAt r.payload 0 = 1 ∧ s.devBusy = none ∧
      (s.clearAllowed (sliceB r.payload 4 48) (sliceB r.payload 52 96) = false ∨ s.led.frozen = true) :=
  ⟨upM 0x0063 (pl 148 [(0, 1)]), some 0, rq 0x0063 (pl 148 [(0, 1)]), by refine ⟨⟨rfl, rfl, by decide, by decide, by decide, by decide, by decide, by decide⟩, by decide, by decide, Or.inl rfl⟩⟩

theorem witness_LogMessages_10 (sig : List Byte) (hl : sig.length = 96) (hv : Config.ecdsaVerify (upClear sig).fst.fuses.owner (Config.sha384 (ascii "HLS-LCLR" ++ zeros 48 ++ (upClear sig).fst.fuses.serial)) sig = true) : ∃ (s : State) (src : Src) (r : Req),
    s.stands src r 0x0063 148 ∧ byteAt r.payload 0 = 1 ∧ s.devBusy = none ∧ s.led.frozen = false ∧ s.led.prog = none ∧
      s.led.stage = [] ∧ s.clearAllowed (sliceB r.payload 4 48) (sliceB r.payload 52 96) = true :=
  ⟨upClear sig, none, rqClear sig, by exact ⟨clear_stands sig, rfl, rfl, rfl, rfl, rfl, clear_ok sig hl hv⟩⟩

theorem witness_LogMessages_12 : ∃ (s : State) (src : Src) (r : Req) (m : Nat),
    s.stands src r 0x0064 36 ∧ fieldLe r.payload 32 4 = m ∧ bitN m 0 = false ∧ m < 2 ^ 9 :=
  ⟨upM 0x0064 (pl 36 [(32, 0xFE), (33, 1)]), some 0, rq 0x0064 (pl 36 [(32, 0xFE), (33, 1)]), 0x1FE, by repeat' (first | apply And.intro | decide +kernel | rfl | decide)⟩

/-! FirmwareMessages -/

theorem witness_FirmwareMessages_1 : ∃ (s : State) (src : Src) (r : Req) (slot total n : Nat),
    s.stands src r 0x0040 16 ∧ fieldLe r.payload 0 4 = 0 ∧ byteAt r.payload 4 = slot ∧ slot ≤ 1 ∧
      fieldLe r.payload 8 4 = total ∧ inR 1 33554432 total = true ∧ s.devBusy = none ∧ (s.fst.slot = slot → s.modeOf = 4) ∧
      min 4064 total = n ∧ r.len = 16 + n ∧ s.sectorReady (slot * 512) = true :=
  ⟨{ upM 0x0040 (pl 18 [(8, 2), (16, 7)]) with fst := { slot := 1, verified := [0] } }, some 0, rq 0x0040 (pl 18 [(8, 2), (16, 7)]), 0, 2, 2, by repeat' (first | apply And.intro | rfl | decide)⟩

theorem witness_FirmwareMessages_2 : ∃ (s : State) (src : Src) (r : Req) (slot total k n : Nat),
    s.stands src r 0x0040 16 ∧ fieldLe r.payload 0 4 = k ∧ k ≠ 0 ∧ byteAt r.payload 4 = slot ∧ slot ≤ 1 ∧
      fieldLe r.payload 8 4 = total ∧ inR 1 33554432 total = true ∧ s.adm.dlActive = true ∧ s.adm.dlSrc = src ∧
      s.adm.devOp = none ∧ s.adm.dlNext = k ∧ s.adm.dlSlot = slot ∧ s.adm.dlTotal = total ∧ min 4064 (total - k * 4064) = n ∧
      r.len = 16 + n ∧ (∀ j ∈ newSectors slot (k * 4064) n, s.sectorReady j = true) :=
  ⟨{ upM 0x0040 (pl 18 [(0, 1), (8, 0xE2), (9, 15), (16, 7)]) with fst := { slot := 1, verified := [0] }, adm := { dlActive := true, dlSrc := some 0, dlNext := 1, dlTotal := 4066, dlSlot := 0 } }, some 0, rq 0x0040 (pl 18 [(0, 1), (8, 0xE2), (9, 15), (16, 7)]), 0, 4066, 1, 2, by repeat' (first | apply And.intro | decide +kernel | rfl | decide)⟩

theorem witness_FirmwareMessages_3 : ∃ (s : State),
    s.adm.dlActive = true :=
  ⟨{ up with adm := { dlActive := true } }, by decide⟩

theorem witness_FirmwareMessages_4 (l : List Byte) (hn : 0 < l.length) (hc : imgCheck {} 1 l = 0) : ∃ (s : State) (src : Src) (r : Req) (slot : Nat),
    s.stands src r 0x0041 1 ∧ byteAt r.payload 0 = slot ∧ slot ≤ 1 ∧ s.devBusy = none ∧ s.glb.ledger = false ∧
      (s.img slot).complete = true ∧ imgCheck s.fst.fuses slot (s.img slot).bytes = 0 ∧ s.fst.bcOlderErased = true ∧
      s.modeOf ≠ 4 :=
  ⟨{ upM 0x0041 (pl 1 [(0, 1)]) with fst := { slot := 0, imgs := [(1, { bytes := l, total := l.length })] } }, some 0, rq 0x0041 (pl 1 [(0, 1)]), 1, by refine ⟨⟨(reqOf_fst (upM 0x0041 (pl 1 [(0, 1)])) _ _).trans (by decide), rfl, (takeable_fst (upM 0x0041 (pl 1 [(0, 1)])) _ _).trans (by decide), (myTurn_fst (upM 0x0041 (pl 1 [(0, 1)])) _ _).trans (by decide), rfl, (refuses_fst (upM 0x0041 (pl 1 [(0, 1)])) _ _ _).trans (by decide), by decide, by decide⟩, rfl, by decide, rfl, rfl, img_complete l hn, hc, rfl, fun h => absurd ((modeOf_fst (upM 0x0041 (pl 1 [(0, 1)])) _).symm.trans h) (by decide)⟩⟩

theorem witness_FirmwareMessages_5 (l : List Byte) (hn : 0 < l.length) (hc : imgCheck {} 1 l = 0) : ∃ (s : State) (src : Src) (r : Req) (slot : Nat),
    s.stands src r 0x0041 1 ∧ byteAt r.payload 0 = slot ∧ slot ≤ 1 ∧ s.devBusy = none ∧ s.glb.ledger = false ∧
      (s.img slot).complete = true ∧ imgCheck s.fst.fuses slot (s.img slot).bytes = 0 ∧ s.fst.bcOlderErased = true ∧
      s.modeOf = 4 :=
  ⟨{ ({ upM 0x0041 (pl 1 [(0, 1)]) with mode := { booting := false, rescue := true } } : State) with fst := { slot := 2, imgs := [(1, { bytes := l, total := l.length })] } }, some 0, rq 0x0041 (pl 1 [(0, 1)]), 1, by refine ⟨⟨(reqOf_fst ({ upM 0x0041 (pl 1 [(0, 1)]) with mode := { booting := false, rescue := true } } : State) _ _).trans (by decide), rfl, (takeable_fst ({ upM 0x0041 (pl 1 [(0, 1)]) with mode := { booting := false, rescue := true } } : State) _ _).trans (by decide), (myTurn_fst ({ upM 0x0041 (pl 1 [(0, 1)]) with mode := { booting := false, rescue := true } } : State) _ _).trans (by decide), rfl, (refuses_fst ({ upM 0x0041 (pl 1 [(0, 1)]) with mode := { booting := false, rescue := true } } : State) _ _ _).trans (by decide), by decide, by decide⟩, rfl, by decide, rfl, rfl, img_complete l hn, hc, rfl, (modeOf_fst ({ upM 0x0041 (pl 1 [(0, 1)]) with mode := { booting := false, rescue := true } } : State) _).trans (by decide)⟩⟩

theorem witness_FirmwareMessages_6 : ∃ (s : State) (src : Src) (r : Req) (slot reason : Nat),
    s.stands src r 0x0041 1 ∧ byteAt r.payload 0 = slot ∧ slot ≤ 1 ∧ s.devBusy = none ∧ s.glb.ledger = false ∧
      (s.img slot).complete = true ∧ imgCheck s.fst.fuses slot (s.img slot).bytes = reason ∧ reason ≠ 0 :=
  ⟨{ upM 0x0041 (pl 1 [(0, 1)]) with fst := { slot := 0, imgs := [(1, img0)] } }, some 0, rq 0x0041 (pl 1 [(0, 1)]), 1, 6, by repeat' (first | apply And.intro | decide +kernel | rfl | decide)⟩

theorem witness_FirmwareMessages_7 : ∃ (s : State) (src : Src) (r : Req) (slot : Nat),
    s.stands src r 0x0042 1 ∧ byteAt r.payload 0 = slot ∧ slot ≤ 1 ∧ s.devBusy = none ∧ s.glb.ledger = false ∧
      (s.img slot).committed = true :=
  ⟨{ upM 0x0042 (pl 1 [(0, 1)]) with fst := { slot := 0, imgs := [(1, { img0 with committed := true })] } }, some 0, rq 0x0042 (pl 1 [(0, 1)]), 1, by repeat' (first | apply And.intro | decide +kernel | rfl | decide)⟩

theorem witness_FirmwareMessages_8 : ∃ (s : State) (src : Src) (r : Req),
    s.mode.hold = 1 ∧ s.mode.drained = true ∧ s.mode.latchedPs = none ∧ s.waiters (.fwActivate s.adm.devArg) = [src] ∧
      s.reqOf src = some r :=
  ⟨{ upF { mbBusy := true, req := some (rq 0x0042 []), wait := some (.fwActivate 1) } with mode := { booting := false, hold := 1, drained := true }, adm := { devOp := some 0x42, devArg := 1 } }, some 0, rq 0x0042 [], by decide⟩

theorem witness_FirmwareMessages_9 : ∃ (s : State) (src : Src) (r : Req),
    s.mode.hold = 1 ∧ s.mode.latchedPs = none ∧ s.waiters (.fwActivate s.adm.devArg) = [src] ∧ s.reqOf src = some r :=
  ⟨{ upF { mbBusy := true, req := some (rq 0x0042 []), wait := some (.fwActivate 1) } with mode := { booting := false, hold := 1 }, adm := { devOp := some 0x42, devArg := 1 } }, some 0, rq 0x0042 [], by decide⟩

/-! ProfileMessages -/

theorem witness_ProfileMessages_1 : ∃ (s : State) (src : Src) (r : Req) (p : Nat) (c : ProfCopy),
    s.stands src r 0x0050 1 ∧ byteAt r.payload 0 = p ∧ p ≤ 3 ∧ s.devBusy = none ∧ s.glb.ledger = false ∧ s.profCopy p = some c ∧
      (s.par.lock ≤ 3 → s.par.lock = p) ∧ rulesOk (s.ruleTbl (underProfile s.par.live c.values)) s.homes = true ∧
      s.blockers (underProfile s.par.live c.values) = 0 :=
  ⟨{ upM 0x0050 (pl 1 [(0, 3)]) with par := { profiles := [(6, { valid := true, gen := 1 })] } }, some 0, rq 0x0050 (pl 1 [(0, 3)]), 3, { valid := true, gen := 1 }, by refine ⟨⟨rfl, rfl, rfl, rfl, by decide, by decide⟩, rfl, by decide, rfl, rfl, rfl, ?_, ?_, ?_⟩ <;> decide +kernel⟩

theorem witness_ProfileMessages_2 : ∃ (s : State) (p : Nat) (c : ProfCopy),
    s.mode.hold = 2 ∧ s.mode.drained = false ∧ s.ioDrained = true ∧ s.adm.devArg = p ∧ s.profCopy p = some c ∧
      s.mode.latchedPs = none ∧
      (s.drainsFirst (underProfile s.par.live c.values) = true → s.drainedFor (underProfile s.par.live c.values) = true) :=
  ⟨{ up with par := { profiles := [(6, { valid := true, gen := 1 })] }, mode := { booting := false, hold := 2 }, adm := { devOp := some 0x50, devArg := 3 } }, 3, { valid := true, gen := 1 }, by repeat' (first | apply And.intro | decide +kernel | rfl | decide)⟩

theorem witness_ProfileMessages_3 : ∃ (s : State) (p : Nat) (c : ProfCopy),
    s.mode.hold = 2 ∧ s.mode.drained = false ∧ s.ioDrained = true ∧ s.adm.devArg = p ∧ s.profCopy p = some c ∧
      s.drainsFirst (underProfile s.par.live c.values) = true ∧ s.drainedFor (underProfile s.par.live c.values) = false ∧
      s.media.drainTo = none :=
  ⟨{ up with par := { profiles := [(6, { valid := true, gen := 1 })] }, mode := { booting := false, hold := 2 }, adm := { devOp := some 0x50, devArg := 3 }, media := { plp := true, blks := [(bkey 1 0, { staged := some stg })] } }, 3, { valid := true, gen := 1 }, by repeat' (first | apply And.intro | decide +kernel | rfl | decide)⟩

theorem witness_ProfileMessages_4 : ∃ (s : State),
    s.mode.hold = 1 ∧ s.mode.drained = false ∧ s.ioDrained = true :=
  ⟨{ up with mode := { booting := false, hold := 1 } }, by decide⟩

theorem witness_ProfileMessages_5 : ∃ (s : State) (src : Src) (r : Req) (p o : Nat) (a b : ProfCopy) (ok : Bool),
    s.stands src r 0x0051 1 ∧ byteAt r.payload 0 = p ∧ p ≤ 3 ∧ s.devBusy = none ∧ s.glb.ledger = false ∧
      rulesOk (s.ruleTbl s.par.live) s.homes = true ∧ tget s.par.profiles (2 * p) {} = a ∧
      tget s.par.profiles (2 * p + 1) {} = b ∧
      (o = 0 ∧ (a.valid = false ∨ b.valid = true ∧ a.gen ≤ b.gen) ∨ o = 1 ∧ a.valid = true ∧ (b.valid = false ∨ b.gen < a.gen)) :=
  ⟨{ upM 0x0051 (pl 1 [(0, 3)]) with par := { profiles := [(6, { valid := true, gen := 1 }), (7, { valid := true, gen := 2 })] } }, some 0, rq 0x0051 (pl 1 [(0, 3)]), 3, 0, { valid := true, gen := 1 }, { valid := true, gen := 2 }, true, by repeat' (first | apply And.intro | decide +kernel | rfl | decide)⟩

theorem witness_ProfileMessages_6 : ∃ (s : State) (g : Nat) (r : Req) (vs : List (Nat × Nat)),
    (∀ p ∈ s.fns, p.2.wait = none ∨ p.2.wait = some (.stagingDrain vs)) ∧ s.adm.oobWait = none ∧
      s.waiters (.stagingDrain vs) = [some g] ∧ s.reqOf (some g) = some r ∧ (∃ p ∈ vs, p.1 = pPlp ∨ p.1 = pHoldup) ∧
      (∀ p ∈ vs, clrLoop p.1 = none ∧ p.1 ≠ pProfileLock) ∧ s.drainedFor (applyVals s.par.live vs) = true :=
  ⟨{ upF { mbBusy := true, req := some (rq 0x0003 []), wait := some (.stagingDrain [(pPlp, 0)]) } with media := { draining := true, plp := true } }, 0, rq 0x0003 [], [(pPlp, 0)], by repeat' (first | apply And.intro | decide +kernel | rfl | decide)⟩

theorem witness_ProfileMessages_7 : ∃ (s : State) (c : ProfCopy),
    (∀ p ∈ s.fns, ∀ vs, p.2.wait ≠ some (.stagingDrain vs)) ∧ (∀ vs, s.adm.oobWait ≠ some (.stagingDrain vs)) ∧
      s.adm.devOp = some 0x50 ∧ s.profCopy s.adm.devArg = some c ∧ s.mode.hold = 2 ∧ s.mode.drained = true ∧
      s.mode.latchedPs = none ∧ s.drainedFor (underProfile s.par.live c.values) = true :=
  ⟨{ up with adm := { devOp := some 0x50, devArg := 3 }, par := { profiles := [(6, { valid := true, gen := 1 })] }, mode := { booting := false, hold := 2, drained := true }, media := { draining := true } }, { valid := true, gen := 1 }, by refine ⟨fun p hp => ?_, fun vs => by simp [up, State.reset], rfl, by decide, rfl, rfl, rfl, by decide +kernel⟩; simp [up, State.reset] at hp⟩

/-! FunctionMessages -/

theorem witness_FunctionMessages_1 : ∃ (s : State) (src : Src) (r : Req) (g : Nat),
    s.stands src r 0x0090 3 ∧ byteAt r.payload 2 = 1 ∧ s.vfArg src r = g ∧ s.ownVf src g = true ∧ (s.fn g).vf = .bare ∧
      (s.fn g).flr = false :=
  ⟨upV 0x0090 (pl 3 [(0, 8), (2, 1)]) { vf := .bare }, some 0, rq 0x0090 (pl 3 [(0, 8), (2, 1)]), 8, by repeat' (first | apply And.intro | rfl | decide)⟩

theorem witness_FunctionMessages_2 : ∃ (s : State) (src : Src) (r : Req) (g : Nat),
    s.stands src r 0x0090 3 ∧ byteAt r.payload 2 = 0 ∧ s.vfArg src r = g ∧ s.ownVf src g = true ∧ (s.fn g).vf = .quiesced ∧
      (s.fn g).flr = false ∧ s.slotsOfFn g = [] ∧ (∀ x ∈ s.fns, src = some x.1 → x.2.wait = none) :=
  ⟨upV 0x0090 (pl 3 [(0, 8)]) { vf := .quiesced, dirty := some dlog }, some 0, rq 0x0090 (pl 3 [(0, 8)]), 8, by repeat' (first | apply And.intro | rfl | decide)⟩

theorem witness_FunctionMessages_3 : ∃ (s : State) (src : Src) (r : Req) (g : Nat) (f : Fn),
    s.stands src r 0x0091 3 ∧ byteAt r.payload 2 = 1 ∧ s.vfArg src r = g ∧ s.ownVf src g = true ∧
      ((s.fn g).vf = .active ∨ (s.fn g).vf = .quiesced) ∧ (s.fn g).flr = false ∧
      (if (s.fn g).vf = .active then { s.fn g with vf := .quiesced, quCount := 0 } else s.fn g) = f :=
  ⟨upV 0x0091 (pl 3 [(0, 8), (2, 1)]) { vf := .active }, some 0, rq 0x0091 (pl 3 [(0, 8), (2, 1)]), 8, { vf := .quiesced }, by refine ⟨?_, rfl, rfl, ?_, ?_, rfl, rfl⟩ <;> (first | (refine ⟨?_, ?_, ?_, ?_, ?_, ?_, ?_, ?_⟩ <;> decide) | decide)⟩

theorem witness_FunctionMessages_4 : ∃ (s : State) (src : Src) (r : Req) (g : Nat),
    s.stands src r 0x0091 3 ∧ byteAt r.payload 2 = 1 ∧ s.vfArg src r = g ∧ s.cutBefore src g = true :=
  ⟨{ up with fns := [(0, { vf := .active, mbBusy := true, cutOf := some 8, req := some (rq 0x0091 (pl 3 [(0, 8), (2, 1)])) }), (8, { vf := .active, flr := true })] }, some 0, rq 0x0091 (pl 3 [(0, 8), (2, 1)]), 8, by repeat' (first | apply And.intro | decide +kernel | rfl | decide)⟩

theorem witness_FunctionMessages_5 : ∃ (s : State) (src : Src) (r : Req) (g : Nat),
    s.slotsOfFn g = [] ∧ (s.fn g).flr = false ∧ s.waiters (.quiesce g) = [src] ∧ s.reqOf src = some r :=
  ⟨{ up with fns := [(0, { vf := .active, req := some (rq 0x0091 []), wait := some (.quiesce 8) }), (8, { vf := .quiesced, quCount := 3 })] }, some 0, rq 0x0091 [], 8, by decide⟩

theorem witness_FunctionMessages_6 : ∃ (s : State) (src : Src) (r : Req) (g : Nat),
    s.slotsOfFn g ≠ [] ∧ (s.fn g).flr = false ∧ s.waiters (.quiesce g) = [src] ∧ s.reqOf src = some r :=
  ⟨{ up with fns := [(0, { vf := .active, req := some (rq 0x0091 []), wait := some (.quiesce 8) }), (8, { vf := .quiesced, quCount := 3 })], sub := { slots := [(5, slV .waiting)] } }, some 0, rq 0x0091 [], 8, by decide⟩

theorem witness_FunctionMessages_7 : ∃ (s : State) (src : Src) (r : Req) (g : Nat),
    s.stands src r 0x0091 3 ∧ byteAt r.payload 2 = 0 ∧ s.vfArg src r = g ∧ s.ownVf src g = true ∧ (s.fn g).vf = .quiesced ∧
      (s.fn g).flr = false :=
  ⟨upV 0x0091 (pl 3 [(0, 8)]) { vf := .quiesced, quCount := 3 }, some 0, rq 0x0091 (pl 3 [(0, 8)]), 8, by repeat' (first | apply And.intro | decide +kernel | rfl | decide)⟩

theorem witness_FunctionMessages_8 : ∃ (s : State) (src : Src) (r : Req) (g : Nat) (all l : List Nat),
    s.stands src r 0x0092 4 ∧ s.vfArg src r = g ∧ s.ownVf src g = true ∧ (s.fn g).vf = .quiesced ∧ (s.fn g).flr = false ∧
      s.slotsOfFn g = [] ∧ s.queuesOf g = all ∧ (all.filter (fun q => decide (fieldLe r.payload 2 2 ≤ q))).take 254 = l :=
  ⟨{ upV 0x0092 (pl 4 [(0, 8)]) { vf := .quiesced } with qs := [(qkey 8 2, q0)] }, some 0, rq 0x0092 (pl 4 [(0, 8)]), 8, [2], [2], by repeat' (first | apply And.intro | decide +kernel | rfl | decide)⟩

theorem witness_FunctionMessages_9 : ∃ (s : State) (src : Src) (r : Req) (g : Nat) (e : StateEnt) (q : Queue),
    s.stands src r 0x0093 22 ∧ s.vfArg src r = g ∧ s.ownVf src g = true ∧ (s.fn g).vf = .quiesced ∧ (s.fn g).flr = false ∧
      s.slotsOfFn g = [] ∧ fieldLe r.payload 4 4 = 1 ∧ stateEntOf r.payload 0 = e ∧ s.q g e.qid = some q ∧
      s.entBad g e = false :=
  ⟨{ upV 0x0093 (pImp 1) { vf := .quiesced } with qs := [(qkey 8 2, q0)] }, some 0, rq 0x0093 (pImp 1), 8, stateEntOf (pImp 1) 0, q0, by repeat' (first | apply And.intro | decide +kernel | rfl | decide)⟩

theorem witness_FunctionMessages_10 : ∃ (s : State) (src : Src) (r : Req) (g : Nat),
    s.stands src r 0x0093 22 ∧ s.vfArg src r = g ∧ s.ownVf src g = true ∧ (s.fn g).vf = .quiesced ∧ (s.fn g).flr = false ∧
      s.slotsOfFn g = [] ∧ fieldLe r.payload 4 4 = 1 ∧ s.entBad g (stateEntOf r.payload 0) = true :=
  ⟨upV 0x0093 (pImp 1) { vf := .quiesced }, some 0, rq 0x0093 (pImp 1), 8, by repeat' (first | apply And.intro | decide +kernel | rfl | decide)⟩

/-! TenantMessages -/

theorem witness_TenantMessages_1 : ∃ (s : State) (src : Src) (r : Req) (p : Nat) (e : Relay) (rest : List Relay),
    s.stands src r 0x0094 0 ∧ s.selfOf src = p ∧ (s.fn p).inbox.filter (fun x => !x.fetched) = e :: rest :=
  ⟨upF { mbBusy := true, req := some (rq 0x0094 []), inbox := [rel false] }, some 0, rq 0x0094 [], 0, rel false, [], by repeat' (first | apply And.intro | decide +kernel | rfl | decide)⟩

theorem witness_TenantMessages_2 : ∃ (s : State) (src : Src) (r : Req),
    s.stands src r 0x0094 0 ∧ (s.fn (s.selfOf src)).inbox.filter (fun x => !x.fetched) = [] :=
  ⟨upF { mbBusy := true, req := some (rq 0x0094 []), inbox := [rel true] }, some 0, rq 0x0094 [], by repeat' (first | apply And.intro | decide +kernel | rfl | decide)⟩

theorem witness_TenantMessages_3 : ∃ (s : State) (src : Src) (r : Req) (p : Nat) (e : Relay),
    s.stands src r 0x0095 6 ∧ s.selfOf src = p ∧
      (s.fn p).inbox.find? (fun x => x.fetched && decide (x.rid = fieldLe r.payload 0 2)) = some e ∧ e.gfn ≠ p :=
  ⟨{ up with fns := [(0, { vf := .active, mbBusy := true, req := some (rq 0x0095 (pl 8 [(0, 1)])), inbox := [rel true] }), (8, { vf := .active, mbBusy := true, mbRelayed := true, req := some (rq 0x10 []) })] }, some 0, rq 0x0095 (pl 8 [(0, 1)]), 0, rel true, by repeat' (first | apply And.intro | decide +kernel | rfl | decide)⟩

theorem witness_TenantMessages_4 : ∃ (s : State) (src : Src) (r : Req),
    s.stands src r 0x0095 6 ∧
      (s.fn (s.selfOf src)).inbox.find? (fun x => x.fetched && decide (x.rid = fieldLe r.payload 0 2)) = none :=
  ⟨upF { mbBusy := true, req := some (rq 0x0095 (pl 8 [(0, 1)])), inbox := [rel false] }, some 0, rq 0x0095 (pl 8 [(0, 1)]), by repeat' (first | apply And.intro | decide +kernel | rfl | decide)⟩

theorem witness_TenantMessages_5 : ∃ (s : State) (g p : Nat) (e : Relay),
    s.portOf g = p ∧ (s.fn p).inbox.find? (fun x => decide (x.gfn = g)) = some e ∧ g ≠ p :=
  ⟨{ up with fns := [(0, { vf := .active, numVfs := 2, vfEnable := true, inbox := [rel true] }), (8, { vf := .active, mbBusy := true, mbRelayed := true, req := some (rq 0x10 []) })] }, 8, 0, rel true, by decide⟩

theorem witness_TenantMessages_6 : ∃ (s : State) (src : Src) (r : Req) (g : Nat),
    s.stands src r 0x00A0 36 ∧ s.vfArg src r = g ∧ s.ownVf src g = true ∧ ((s.fn g).vf = .active ∨ (s.fn g).vf = .quiesced) ∧
      (s.fn g).flr = false ∧ dirtyBad r.payload = none ∧ (s.fn g).dirty = none ∧ s.loggers < 64 :=
  ⟨upV 0x00A0 (pl 36 [(0, 8), (13, 0x20), (21, 0x10), (29, 0x20)]) { vf := .active }, some 0, rq 0x00A0 (pl 36 [(0, 8), (13, 0x20), (21, 0x10), (29, 0x20)]), 8, by repeat' (first | apply And.intro | decide +kernel | rfl | decide)⟩

theorem witness_TenantMessages_7 : ∃ (s : State) (src : Src) (r : Req) (g : Nat) (d : Dirty),
    s.stands src r 0x00A1 2 ∧ s.vfArg src r = g ∧ s.ownVf src g = true ∧ ((s.fn g).vf = .active ∨ (s.fn g).vf = .quiesced) ∧
      (s.fn g).flr = false ∧ (s.fn g).dirty = some d ∧ s.bitmapOk (s.portOf g) = true ∧ d.failed = false :=
  ⟨upV 0x00A1 (pl 2 [(0, 8)]) { vf := .active, dirty := some dlog }, some 0, rq 0x00A1 (pl 2 [(0, 8)]), 8, dlog, by repeat' (first | apply And.intro | decide +kernel | rfl | decide)⟩

theorem witness_TenantMessages_8 : ∃ (s : State) (src : Src) (r : Req) (g : Nat) (d : Dirty),
    s.stands src r 0x00A2 2 ∧ s.vfArg src r = g ∧ s.ownVf src g = true ∧ ((s.fn g).vf = .active ∨ (s.fn g).vf = .quiesced) ∧
      (s.fn g).flr = false ∧ (s.fn g).dirty = some d ∧ s.bitmapOk (s.portOf g) = true ∧ d.failed = false :=
  ⟨upV 0x00A2 (pl 2 [(0, 8)]) { vf := .quiesced, dirty := some dlog }, some 0, rq 0x00A2 (pl 2 [(0, 8)]), 8, dlog, by repeat' (first | apply And.intro | decide +kernel | rfl | decide)⟩

theorem witness_TenantMessages_9 : ∃ (s : State) (src : Src) (r : Req) (c : Instr) (typ g : Nat) (d : Dirty),
    (c = .dirtyLogHarvest src ∧ typ = 0x00A1 ∨ c = .dirtyLogStop src ∧ typ = 0x00A2) ∧ s.stands src r typ 2 ∧
      s.vfArg src r = g ∧ s.ownVf src g = true ∧ ((s.fn g).vf = .active ∨ (s.fn g).vf = .quiesced) ∧ (s.fn g).flr = false ∧
      (s.fn g).dirty = some d ∧ (s.bitmapOk (s.portOf g) = false ∨ d.failed = true) :=
  ⟨upV 0x00A2 (pl 2 [(0, 8)]) { vf := .active, dirty := some { dlog with failed := true } }, some 0, rq 0x00A2 (pl 2 [(0, 8)]), .dirtyLogStop (some 0), 0x00A2, 8, { dlog with failed := true }, by repeat' (first | apply And.intro | decide +kernel | rfl | decide)⟩

theorem witness_TenantMessages_10 : ∃ (s : State) (src : Src) (r : Req) (g : Nat),
    s.stands src r 0x00B0 2 ∧ s.vfArg src r = g ∧ s.ownVf src g = true ∧ ((s.fn g).vf = .active ∨ (s.fn g).vf = .quiesced) ∧
      (s.fn g).flr = false ∧ (s.fn g).abBusy = false ∧ s.slotsOfFn g ≠ [] :=
  ⟨{ upV 0x00B0 (pl 2 [(0, 8)]) { vf := .active } with sub := { slots := [(5, slV .waiting)] } }, some 0, rq 0x00B0 (pl 2 [(0, 8)]), 8, by repeat' (first | apply And.intro | decide +kernel | rfl | decide)⟩

theorem witness_TenantMessages_11 : ∃ (s : State) (src : Src) (r : Req) (g : Nat),
    s.stands src r 0x00B0 2 ∧ s.vfArg src r = g ∧ s.ownVf src g = true ∧ ((s.fn g).vf = .active ∨ (s.fn g).vf = .quiesced) ∧
      (s.fn g).flr = false ∧ (s.fn g).abBusy = false ∧ s.slotsOfFn g = [] ∧ s.waiters (.fnAbort g) = [] :=
  ⟨upV 0x00B0 (pl 2 [(0, 8)]) { vf := .active }, some 0, rq 0x00B0 (pl 2 [(0, 8)]), 8, by repeat' (first | apply And.intro | decide +kernel | rfl | decide)⟩

theorem witness_TenantMessages_12 : ∃ (s : State) (src : Src) (r : Req) (g : Nat),
    s.stands src r 0x00B0 2 ∧ s.vfArg src r = g ∧ s.ownVf src g = true ∧ ((s.fn g).vf = .active ∨ (s.fn g).vf = .quiesced) ∧
      ((s.fn g).flr = true ∨ (s.fn g).abBusy = true) :=
  ⟨upV 0x00B0 (pl 2 [(0, 8)]) { vf := .active, abBusy := true }, some 0, rq 0x00B0 (pl 2 [(0, 8)]), 8, by repeat' (first | apply And.intro | decide +kernel | rfl | decide)⟩

/-! ControllerResets -/

theorem witness_ControllerResets_1 : ∃ (s : State) (src : Src) (r : Req),
    s.stands src r 0x00B1 0 ∧ s.devBusy = none :=
  ⟨upM 0x00B1 [], some 0, rq 0x00B1 [], by repeat' (first | apply And.intro | rfl | decide)⟩

theorem witness_ControllerResets_2 : ∃ (s : State),
    s.watchdogRuns = true :=
  ⟨{ up with brd := { released := true } }, by decide⟩

theorem witness_ControllerResets_3 : ∃ (s : State) (f : BootFacts),
    s.mode.resetting = true ∧ s.sub.slots = [] :=
  ⟨{ up with mode := { booting := true, resetting := true } }, {}, by decide⟩

theorem witness_ControllerResets_4 : ∃ (s : State) (i : Nat) (x : Slot),
    s.mode.resetting = true ∧ s.slot i = some x ∧ x.phase = .fixed ∧ x.logTo = none :=
  ⟨{ upS (sl [] .fixed) with mode := { booting := true, resetting := true } }, 5, sl [] .fixed, by decide⟩

/-! SanitizeRuns -/

theorem witness_SanitizeRuns_1 : ∃ (s : State) (src : Src) (r : Req) (c : Instr) (a : Nat),
    s.stands src r 0x00B2 8 ∧ byteAt r.payload 0 = a ∧
      (a = 1 ∧ c = .sanitizeCryptoErase src ∨ a = 2 ∧ c = .sanitizeBlockErase src) ∧ fieldLe r.payload 4 4 = 0x5A4E0001 ∧
      s.devBusy = none ∧ s.glb.ledger = false :=
  ⟨upM 0x00B2 (pl 8 [(0, 2), (4, 1), (6, 0x4E), (7, 0x5A)]), some 0, rq 0x00B2 (pl 8 [(0, 2), (4, 1), (6, 0x4E), (7, 0x5A)]), .sanitizeBlockErase (some 0), 2, by repeat' (first | apply And.intro | decide +kernel | rfl | decide)⟩

theorem witness_SanitizeRuns_2 : ∃ (s : State),
    s.adm.sanitize ≠ 0 ∧ s.ready = true ∧ s.nss.all (fun p => s.earlyDone p.1 none) = true :=
  ⟨{ up with adm := { sanitize := 1, sanState := 1 } }, by decide⟩

/-! OutOfBandMessages -/

theorem witness_OutOfBandMessages_1 : ∃ (s : State) (bytes : List Byte) (r : Req),
    s.brd.pwrgd = true ∧ mctpTakes bytes = true ∧ reqOfBytes (bytes.drop 3) = r ∧ s.modeOf ≠ 5 ∧ s.modeOf ≠ 0 ∧
      s.oobFull = false ∧ s.refuses none r.typ = none :=
  ⟨upB, mctpMsg (msgB 1#8), reqOfBytes (msgB 1#8), by exact ⟨rfl, mctp_takes _ (by decide), rfl, by decide, by decide, rfl, by decide⟩⟩

theorem witness_OutOfBandMessages_2 : ∃ (s : State) (bytes : List Byte) (r : Req) (st d : Nat),
    s.brd.pwrgd = true ∧ mctpTakes bytes = true ∧ reqOfBytes (bytes.drop 3) = r ∧ s.modeOf ≠ 5 ∧ s.modeOf ≠ 0 ∧
      s.oobFull = false ∧ s.refuses none r.typ = some (st, d) :=
  ⟨upB, mctpMsg (msgB 0x77#8), reqOfBytes (msgB 0x77#8), 0x401, 0, by exact ⟨rfl, mctp_takes _ (by decide), rfl, by decide, by decide, rfl, by decide⟩⟩

theorem witness_OutOfBandMessages_3 : ∃ (s : State) (bytes l : List Byte),
    s.brd.pwrgd = true ∧ mctpTakes bytes = true ∧ s.modeOf ≠ 5 ∧ s.oobFull = true ∧
      mctpHead ++ replyBytes (reqOfBytes (bytes.drop 3)) 4 0x405 0 [] = l :=
  ⟨{ upB with adm := { oob := some (rq 1 []) } }, mctpMsg (msgB 1#8), mctpHead ++ replyBytes (reqOfBytes ((mctpMsg (msgB 1#8)).drop 3)) 4 0x405 0 [], by exact ⟨rfl, mctp_takes _ (by decide), by decide, rfl, rfl⟩⟩

theorem witness_OutOfBandMessages_4 : ∃ (s : State) (bytes : List Byte),
    s.brd.pwrgd = true ∧ mctpTakes bytes = true ∧ s.modeOf = 0 ∧ s.oobFull = false :=
  ⟨{ upB with mode := {} }, mctpMsg (msgB 1#8), by exact ⟨rfl, mctp_takes _ (by decide), by decide, rfl⟩⟩

theorem witness_OutOfBandMessages_5 : ∃ (s : State) (bytes : List Byte),
    s.brd.pwrgd = true ∧ mctpTakes bytes = true ∧ s.modeOf = 5 ∧ s.oobFull = false ∧ s.pwr.stuck = false ∧
      (s.pwr.phase = 2 → s.pwr.entryStep ≠ 10) :=
  ⟨{ upB with mode := { booting := false, dormant := true }, pwr := { cur := 3 } }, mctpMsg (msgB 1#8), by exact ⟨rfl, mctp_takes _ (by decide), by decide, rfl, rfl, by decide⟩⟩

theorem witness_OutOfBandMessages_6 : ∃ (s : State) (bytes : List Byte),
    s.brd.pwrgd = true ∧ mctpTakes bytes = false ∧ s.modeOf ≠ 5 :=
  ⟨upB, [], by exact ⟨rfl, rfl, by decide⟩⟩

theorem witness_OutOfBandMessages_7 : ∃ (s : State) (eid : Nat),
    s.brd.pwrgd = true ∧ s.modeOf ≠ 5 ∧ 1 ≤ eid ∧ eid ≤ 254 :=
  ⟨upB, 254, by decide⟩

theorem witness_OutOfBandMessages_8 : ∃ (s : State) (eid : Nat),
    s.brd.pwrgd = true ∧ s.modeOf ≠ 5 ∧ inR 1 254 eid = false :=
  ⟨upB, 255, by decide⟩

theorem witness_OutOfBandMessages_9 : ∃ (s : State),
    s.brd.pwrgd = true ∧ s.modeOf ≠ 5 :=
  ⟨upB, by decide⟩

theorem witness_OutOfBandMessages_10 : ∃ (s : State),
    s.brd.pwrgd = true ∧ s.modeOf ≠ 5 :=
  ⟨upB, by decide⟩

theorem witness_OutOfBandMessages_11 : ∃ (s : State),
    s.brd.pwrgd = true ∧ s.modeOf ≠ 5 :=
  ⟨upB, by decide⟩

theorem witness_OutOfBandMessages_12 : ∃ (s : State) (p dwords index : Nat),
    s.doeUp p = true ∧ (s.fn p).doeErr = false ∧ dwords ≤ 1024 :=
  ⟨up, 0, 1024, 2, by decide⟩

theorem witness_OutOfBandMessages_13 : ∃ (s : State) (p dwords index : Nat),
    s.doeUp p = true ∧ (s.fn p).doeErr = false ∧ 1024 < dwords :=
  ⟨up, 0, 1025, 0, by decide⟩

theorem witness_OutOfBandMessages_14 : ∃ (s : State) (p : Nat),
    s.doeUp p = true :=
  ⟨upF { doeErr := true }, 0, by decide⟩

/-! SecureMessages -/

theorem witness_SecureMessages_1 : ∃ (s : State) (p d : Nat),
    s.doeUp p = true ∧ (s.fn p).doeErr = false ∧ d ≤ 1024 ∧ s.led.bootSealed = false :=
  ⟨up, 0, 4, by repeat' (first | apply And.intro | rfl | decide | exact ⟨_, rfl, rfl⟩)⟩

theorem witness_SecureMessages_2 : ∃ (s : State) (p d : Nat),
    s.spdmServes p d :=
  ⟨upD {}, 0, 1024, by repeat' (first | apply And.intro | rfl | decide | exact ⟨_, rfl, rfl⟩)⟩

theorem witness_SecureMessages_3 : ∃ (s : State) (p d : Nat),
    s.spdmServes p d ∧ (s.fn p).spdmVersion = true :=
  ⟨upD { spdmVersion := true }, 0, 4, by repeat' (first | apply And.intro | rfl | decide | exact ⟨_, rfl, rfl⟩)⟩

theorem witness_SecureMessages_4 : ∃ (s : State) (p d : Nat),
    s.spdmServes p d ∧ (s.fn p).spdmCaps = true :=
  ⟨upD { spdmCaps := true }, 0, 4, by repeat' (first | apply And.intro | rfl | decide | exact ⟨_, rfl, rfl⟩)⟩

theorem witness_SecureMessages_5 : ∃ (s : State) (p d : Nat),
    s.spdmServes p d ∧ (s.fn p).spdmAlgs = true :=
  ⟨upD { spdmAlgs := true }, 0, 4, by repeat' (first | apply And.intro | rfl | decide | exact ⟨_, rfl, rfl⟩)⟩

theorem witness_SecureMessages_6 : ∃ (s : State) (p d op : Nat),
    s.spdmServes p d ∧ (s.fn p).spdmAlgs = true ∧ op % 256 = 0 :=
  ⟨upD { spdmAlgs := true }, 0, 4, 0x100, by repeat' (first | apply And.intro | rfl | decide | exact ⟨_, rfl, rfl⟩ | exact Or.inl rfl | exact Or.inr rfl)⟩

theorem witness_SecureMessages_7 : ∃ (s : State) (p d : Nat),
    s.spdmServes p d ∧ (s.fn p).spdmAlgs = true :=
  ⟨upD { spdmAlgs := true }, 0, 4, by repeat' (first | apply And.intro | rfl | decide | exact ⟨_, rfl, rfl⟩)⟩

theorem witness_SecureMessages_8 : ∃ (s : State) (p d i : Nat),
    s.spdmServes p d ∧ (s.fn p).spdmAlgs = true ∧ (i ≤ 8 ∨ i = 0xFF) :=
  ⟨upD { spdmAlgs := true }, 0, 4, 8, by repeat' (first | apply And.intro | rfl | decide | exact ⟨_, rfl, rfl⟩)⟩

theorem witness_SecureMessages_9 : ∃ (s : State) (p d op : Nat),
    s.spdmServes p d ∧ (s.fn p).spdmAlgs = true ∧ (s.fn p).session (sessionId op) = none ∧ (s.fn p).sessions.length < 2 :=
  ⟨upD { spdmAlgs := true, sessions := ses true }, 0, 4, 4, by repeat' (first | apply And.intro | rfl | decide | exact ⟨_, rfl, rfl⟩ | exact Or.inl rfl | exact Or.inr rfl)⟩

theorem witness_SecureMessages_10 : ∃ (s : State) (p d op : Nat),
    s.spdmServes p d ∧ (s.fn p).spdmAlgs = true ∧ (s.fn p).session (sessionId op) = none ∧ 2 ≤ (s.fn p).sessions.length :=
  ⟨upD { spdmAlgs := true, sessions := ses true ++ ses false }, 0, 4, 4, by repeat' (first | apply And.intro | rfl | decide | exact ⟨_, rfl, rfl⟩ | exact Or.inl rfl | exact Or.inr rfl)⟩

theorem witness_SecureMessages_11 : ∃ (s : State) (p d x : Nat) (c : Instr),
    s.spdmServes p d ∧ (s.fn p).spdmAlgs = false ∧
      c ∈ [.getDigests p d, .getCertificate p d x, .challenge p d x, .getMeasurements p d x, .keyExchange p d x] :=
  ⟨upD {}, 0, 4, 0, .keyExchange 0 4 0, by repeat' (first | apply And.intro | rfl | decide | exact ⟨_, rfl, rfl⟩ | exact Or.inl rfl | exact Or.inr rfl)⟩

theorem witness_SecureMessages_12 : ∃ (s : State) (p op : Nat),
    s.spdmServes p (sessionDw op) ∧ s.hasSession p (sessionId op) false :=
  ⟨upD { sessions := ses false }, 0, 3, by repeat' (first | apply And.intro | rfl | decide | exact ⟨_, rfl, rfl⟩ | exact Or.inl rfl | exact Or.inr rfl)⟩

theorem witness_SecureMessages_13 : ∃ (s : State) (p op : Nat),
    s.spdmServes p (sessionDw op) ∧ s.hasSession p (sessionId op) false :=
  ⟨upD { sessions := ses false }, 0, 3, by repeat' (first | apply And.intro | rfl | decide | exact ⟨_, rfl, rfl⟩ | exact Or.inl rfl | exact Or.inr rfl)⟩

theorem witness_SecureMessages_14 : ∃ (s : State) (p op : Nat),
    s.spdmServes p (sessionDw op) ∧ s.hasSession p (sessionId op) true :=
  ⟨upD { sessions := ses true }, 0, 3, by repeat' (first | apply And.intro | rfl | decide | exact ⟨_, rfl, rfl⟩ | exact Or.inl rfl | exact Or.inr rfl)⟩

theorem witness_SecureMessages_15 : ∃ (s : State) (p op : Nat) (x : Session),
    s.spdmServes p (sessionDw op) ∧ (s.fn p).session (sessionId op) = some x ∧ x.established = true :=
  ⟨upD { sessions := ses true }, 0, 3, { id := 3, established := true }, by repeat' (first | apply And.intro | rfl | decide | exact ⟨_, rfl, rfl⟩ | exact Or.inl rfl | exact Or.inr rfl)⟩

theorem witness_SecureMessages_16 : ∃ (s : State) (p op : Nat),
    s.spdmServes p (sessionDw op) ∧ s.hasSession p (sessionId op) true :=
  ⟨upD { sessions := ses true }, 0, 3, by repeat' (first | apply And.intro | rfl | decide | exact ⟨_, rfl, rfl⟩ | exact Or.inl rfl | exact Or.inr rfl)⟩

theorem witness_SecureMessages_17 : ∃ (s : State) (p op n : Nat) (ok : Bool) (c : Instr),
    s.spdmServes p (sessionDw op) ∧ (s.fn p).session (sessionId op) = none ∧
      c ∈ [.finish p op ok, .heartbeatSpdm p op, .keyUpdate p op, .endSession p op, .ideKmKeyProg p op n, .ideKmKSetGo p op n, .ideKmKSetStop p op n] :=
  ⟨upD { sessions := ses true }, 0, 4, 0, true, .heartbeatSpdm 0 4, by repeat' (first | apply And.intro | rfl | decide | exact ⟨_, rfl, rfl⟩ | exact Or.inl rfl | exact Or.inr rfl)⟩

theorem witness_SecureMessages_18 : ∃ (s : State) (p op n : Nat),
    s.ideServes p op n :=
  ⟨upI {}, 0, 3, 7, by repeat' (first | apply And.intro | rfl | decide | exact ⟨_, rfl, rfl⟩ | exact Or.inl rfl | exact Or.inr rfl)⟩

theorem witness_SecureMessages_19 : ∃ (s : State) (p op n : Nat),
    s.ideServes p op n ∧ (s.ideOf n).keyed = true :=
  ⟨upI { keyed := true }, 0, 3, 7, by repeat' (first | apply And.intro | rfl | decide | exact ⟨_, rfl, rfl⟩ | exact Or.inl rfl | exact Or.inr rfl)⟩

theorem witness_SecureMessages_20 : ∃ (s : State) (p op n : Nat),
    s.ideServes p op n ∧ (s.ideOf n).secure = true :=
  ⟨upI { keyed := true, secure := true }, 0, 3, 7, by repeat' (first | apply And.intro | rfl | decide | exact ⟨_, rfl, rfl⟩ | exact Or.inl rfl | exact Or.inr rfl)⟩

theorem witness_SecureMessages_21 : ∃ (s : State) (n : Nat),
    (s.ideOf n).secure = true :=
  ⟨upI { keyed := true, secure := true }, 7, by decide⟩

/-! HostLinkEvents -/

theorem witness_HostLinkEvents_1 : ∃ (s : State) (g : Nat),
    s.reach g = true :=
  ⟨up, 0, by decide⟩

theorem witness_HostLinkEvents_2 : ∃ (s : State) (p : Nat) (d : Bool),
    p < s.nPf ∧ (s.port p).up = true :=
  ⟨up, 0, true, by decide⟩

theorem witness_HostLinkEvents_3 : ∃ (s : State) (p : Nat),
    p < s.nPf ∧ (s.port p).up = true ∧ s.slotsOfGroup p ≠ [] :=
  ⟨upS (sl [] .waiting), 0, by decide⟩

theorem witness_HostLinkEvents_4 : ∃ (s : State) (p : Nat),
    p < s.nPf ∧ (s.port p).up = true ∧ s.slotsOfGroup p = [] :=
  ⟨upF { vf := .active }, 0, by decide⟩

theorem witness_HostLinkEvents_5 : ∃ (s : State) (p : Nat),
    p < s.nPf ∧ (s.port p).up = false ∧ s.brd.perstLow = false ∧ s.slotsOfGroup p = [] :=
  ⟨{ upB with hif := {} }, 7, by decide⟩

theorem witness_HostLinkEvents_6 : ∃ (s : State),
    s.brd.perstLow = false ∧ s.pwr.dumping = false ∧ s.brd.pwrgd = true :=
  ⟨upB, by decide⟩

theorem witness_HostLinkEvents_7 : ∃ (s : State),
    s.brd.perstLow = false ∧ s.pwr.dumping = false ∧ s.brd.pwrgd = false :=
  ⟨up, by decide⟩

theorem witness_HostLinkEvents_8 : ∃ (s : State),
    s.brd.perstLow = false ∧ s.pwr.dumping = true :=
  ⟨{ upB with pwr := { dumping := true } }, by decide⟩

theorem witness_HostLinkEvents_9 : ∃ (s : State) (st : Straps) (f : BootFacts),
    s.brd.perstHeld = true :=
  ⟨{ upB with brd := { pwrgd := true, perstLow := true, perstHeld := true } }, {}, {}, by decide⟩

theorem witness_HostLinkEvents_10 : ∃ (s : State) (st : Straps) (f : BootFacts),
    s.brd.perstLow = true ∧ s.brd.perstHeld = false ∧ s.brd.pwrgd = true ∧ s.brd.released = false ∧ s.pwr.pfailLow = false ∧
      s.pwr.afterDump = false ∧ s.brd.thermtrip = false :=
  ⟨{ State.reset with brd := { pwrgd := true, perstLow := true } }, {}, {}, by decide⟩

/-! FunctionEvents -/

theorem witness_FunctionEvents_1 : ∃ (s : State) (g : Nat),
    s.reach g = true ∧ s.isPf g = false ∧ (s.fn g).flr = false :=
  ⟨upV 0 [] { vf := .active }, 8, by decide⟩

theorem witness_FunctionEvents_2 : ∃ (s : State) (g : Nat),
    s.reach g = true ∧ s.isPf g = true ∧ (s.fn g).flr = false :=
  ⟨up, 0, by decide⟩

theorem witness_FunctionEvents_3 : ∃ (s : State) (g : Nat),
    s.flrOver g = true ∧ (s.fn g).leaving = false :=
  ⟨upV 0 [] { vf := .active, flr := true }, 8, by decide⟩

theorem witness_FunctionEvents_4 : ∃ (s : State) (g : Nat),
    s.flrOver g = true ∧ (s.fn g).leaving = true ∧ s.isPf g = false :=
  ⟨upV 0 [] { vf := .active, flr := true, leaving := true }, 8, by decide⟩

theorem witness_FunctionEvents_5 : ∃ (s : State) (p n : Nat),
    s.isPf p = true ∧ s.reach p = true ∧ (s.fn p).flr = false ∧ n < (s.fn p).numVfs :=
  ⟨{ up with fns := [(0, { vf := .active, numVfs := 2, vfEnable := true }), (8, { vf := .bare }), (9, { vf := .bare })] }, 0, 1, by decide⟩

theorem witness_FunctionEvents_6 : ∃ (s : State) (p n : Nat),
    s.isPf p = true ∧ s.reach p = true ∧ (s.fn p).flr = false ∧ (s.fn p).numVfs ≤ n :=
  ⟨up, 0, 1, by decide⟩

theorem witness_FunctionEvents_7 : ∃ (s : State) (p n : Nat),
    s.isPf p = true ∧ s.reach p = true ∧ (s.fn p).flr = false ∧ n < (s.fn p).numVfs :=
  ⟨{ up with fns := [(0, { vf := .active, numVfs := 2, vfEnable := true }), (8, { vf := .bare }), (9, { vf := .bare })] }, 0, 1, by decide⟩

/-! PowerEvents -/

theorem witness_PowerEvents_1 : ∃ (s : State) (p : Nat) (l : Bool),
    s.isPf p = true ∧ s.reach p = true ∧ (s.modFn p (fun f => { f with d3 := true, l12 := l })).allD3 = false :=
  ⟨{ upB with hif := { ports := [(0, { up := true }), (1, { up := true })] } }, 0, true, by decide⟩

theorem witness_PowerEvents_2 : ∃ (s : State) (p : Nat),
    s.isPf p = true ∧ s.reach p = true ∧ (s.modeOf = 1 ∨ s.modeOf = 2) ∧ s.pwr.phase = 0 ∧
      (s.modFn p (fun f => { f with d3 := true, l12 := true })).allD3 = true :=
  ⟨upF {}, 0, by decide⟩

theorem witness_PowerEvents_3 : ∃ (s : State) (p : Nat),
    s.isPf p = true ∧ s.reach p = true ∧ s.modeOf = 3 ∧ s.pwr.phase = 0 ∧
      (s.modFn p (fun f => { f with d3 := true, l12 := true })).allD3 = true :=
  ⟨{ upF {} with mode := { booting := false, hold := 1 } }, 0, by decide⟩

theorem witness_PowerEvents_4 : ∃ (s : State) (p : Nat),
    s.isPf p = true ∧ s.mode.dormant = false ∧ s.modeOf ≠ 3 :=
  ⟨upF { d3 := true }, 0, by decide⟩

theorem witness_PowerEvents_5 : ∃ (s : State) (p : Nat),
    s.isPf p = true ∧ s.modeOf = 3 :=
  ⟨{ upF {} with mode := { booting := false, hold := 1 } }, 0, by decide⟩

theorem witness_PowerEvents_6 : ∃ (s : State) (p : Nat),
    s.isPf p = true ∧ s.mode.dormant = true ∧ s.pwr.phase = 3 :=
  ⟨upW { cur := 3, phase := 3 }, 0, by decide⟩

theorem witness_PowerEvents_7 : ∃ (s : State) (p : Nat),
    s.isPf p = true ∧ s.mode.dormant = true ∧ s.pwr.phase = 1 :=
  ⟨upEnt 2 3, 0, by decide⟩

theorem witness_PowerEvents_8 : ∃ (s : State),
    s.mode.dormant = false ∧ s.mode.booting = false ∧ s.pwr.cur.toNat < 3 ∧ (∀ p ∈ s.sub.landing, p.2 = []) :=
  ⟨up, by decide⟩

theorem witness_PowerEvents_9 : ∃ (s : State),
    s.pwr.phase = 1 ∧ s.pwr.pfailLow = false ∧
      (s.pwr.entryStep = 1 ∨ s.pwr.entryStep = 2 ∧ s.sub.slots = [] ∨ s.pwr.entryStep = 5 ∨ s.pwr.entryStep = 6 ∨ s.pwr.entryStep = 7 ∧ s.pwr.goal ≠ 5) :=
  ⟨upEnt 1 3, by decide⟩

theorem witness_PowerEvents_10 : ∃ (s : State),
    s.pwr.phase = 1 ∧ s.pwr.pfailLow = false ∧ s.pwr.entryStep = 3 ∧ s.stagingEmpty = true ∧ s.journalsDone = true ∧
      s.tagsEmpty = true :=
  ⟨upEnt 3 3, by decide⟩

theorem witness_PowerEvents_11 : ∃ (s : State),
    s.pwr.phase = 1 ∧ s.pwr.pfailLow = false ∧ s.pwr.entryStep = 4 ∧ s.parkedAll = true :=
  ⟨upEnt 4 3, by decide⟩

theorem witness_PowerEvents_12 : ∃ (s : State),
    s.pwr.phase = 1 ∧ s.pwr.pfailLow = false ∧ s.pwr.entryStep = 7 ∧ s.pwr.goal = 5 :=
  ⟨upEnt 7 5, by decide⟩

theorem witness_PowerEvents_13 : ∃ (s : State),
    s.pwr.phase = 1 ∧ s.pwr.entryStep = 8 :=
  ⟨upEnt 8 3, by decide⟩

theorem witness_PowerEvents_14 : ∃ (s : State),
    s.pwr.phase = 2 ∧ s.pwr.entryStep = 9 :=
  ⟨upW { phase := 2, entryStep := 9, goal := 3, target := 3 }, by decide⟩

theorem witness_PowerEvents_15 : ∃ (s : State),
    s.pwr.phase = 2 ∧ s.pwr.entryStep = 10 ∧ s.pwr.heldWake = none ∧ s.alarmDue = false :=
  ⟨upW { phase := 2, entryStep := 10, goal := 3, target := 3 }, by decide⟩

theorem witness_PowerEvents_16 : ∃ (s : State) (c : Nat),
    s.pwr.phase = 2 ∧ s.pwr.entryStep = 10 ∧ 3 ≤ s.pwr.goal.toNat ∧
      (s.pwr.heldWake = some c ∨ s.pwr.heldWake = none ∧ s.alarmDue = true ∧ c = 1) :=
  ⟨upW { phase := 2, entryStep := 10, goal := 3, target := 3, heldWake := some 5 }, 5, by decide⟩

theorem witness_PowerEvents_17 : ∃ (s : State) (code : Nat),
    (code = 2 ∨ code = 3 ∨ code = 5 ∨ code = 6 ∨ code = 1 ∧ s.alarmDue = true) ∧ s.mode.dormant = true ∧ s.pwr.phase = 0 ∧
      s.pwr.stuck = false ∧ 3 ≤ s.pwr.cur.toNat :=
  ⟨upW { cur := 3, target := 3 }, 5, by decide⟩

theorem witness_PowerEvents_18 : ∃ (s : State) (code : Nat),
    (code = 2 ∨ code = 3 ∨ code = 5 ∨ code = 6 ∨ code = 1 ∧ s.alarmDue = true) ∧ s.mode.dormant = true ∧ s.pwr.phase = 1 ∧
      s.pwr.cur.toNat < 3 :=
  ⟨upEnt 2 3, 5, by decide⟩

theorem witness_PowerEvents_19 : ∃ (s : State) (code : Nat),
    (code = 2 ∨ code = 3 ∨ code = 5 ∨ code = 6 ∨ code = 1 ∧ s.alarmDue = true) ∧ s.mode.dormant = true ∧ s.pwr.phase = 3 :=
  ⟨upW { cur := 3, phase := 3 }, 5, by decide⟩

theorem witness_PowerEvents_20 : ∃ (s : State) (a b : Bool) (f : BootFacts),
    s.pwr.phase = 3 ∧ s.pwr.retryWait = false ∧ s.pwr.stuck = false ∧ s.mode.dormant = true ∧ s.pwr.cur.toNat < 3 ∧
      s.pwr.next = none ∧ s.adm.oobHeld = none ∧ s.mode.booting = false :=
  ⟨upW { cur := 2, phase := 3 }, true, true, {}, by decide⟩

theorem witness_PowerEvents_21 : ∃ (s : State) (f : BootFacts),
    s.pwr.phase = 3 ∧ s.pwr.retryWait = false ∧ s.pwr.stuck = false ∧ s.mode.dormant = true ∧ (s.pwr.cur = 3 ∨ s.pwr.cur = 4) ∧
      s.pwr.next = none ∧ s.adm.oobHeld = none ∧ s.mode.booting = false ∧ s.fst.halt = false :=
  ⟨upW { cur := 3, phase := 3 }, {}, by decide⟩

theorem witness_PowerEvents_22 : ∃ (s : State) (a b : Bool) (f : BootFacts),
    s.pwr.phase = 3 ∧ s.pwr.retryWait = false ∧ s.pwr.stuck = false ∧ s.mode.dormant = true ∧ (s.pwr.cur = 3 ∨ s.pwr.cur = 4) ∧
      (a && b) = false :=
  ⟨upW { cur := 3, phase := 3 }, false, true, {}, by decide⟩

theorem witness_PowerEvents_23 : ∃ (s : State) (a b : Bool) (f : BootFacts),
    s.pwr.phase = 3 ∧ s.pwr.retryWait = false ∧ s.pwr.stuck = false ∧ s.mode.dormant = true ∧ s.pwr.cur = 5 :=
  ⟨upW { cur := 5, phase := 3 }, true, true, {}, by decide⟩

theorem witness_PowerEvents_24 : ∃ (s : State) (c i : Nat),
    s.railsRising = true ∧ s.pwr.retries ≠ 3 :=
  ⟨upW { cur := 3, phase := 3 }, 0, 2, by decide⟩

theorem witness_PowerEvents_25 : ∃ (s : State) (c i : Nat),
    s.railsRising = true ∧ s.pwr.retries = 3 :=
  ⟨upW { cur := 3, phase := 3, retries := 3 }, 1, 2, by decide⟩

theorem witness_PowerEvents_26 : ∃ (s : State),
    s.pwr.retryWait = true :=
  ⟨upW { cur := 3, phase := 3, retryWait := true }, by decide⟩

theorem witness_PowerEvents_27 : ∃ (s : State) (h : List HubSteep) (r : List RailSteep),
    s.pwr.cur = 4 ∧ s.pwr.phase = 0 ∧ s.pwr.stuck = false ∧ s.firstBreach h r = none :=
  ⟨upW { cur := 4, target := 4 }, (List.range 96).map (fun k => { link := k, temps := [40], alert := 0 }), [], by decide⟩

theorem witness_PowerEvents_28 : ∃ (s : State) (h : List HubSteep) (r : List RailSteep) (k i : Nat),
    s.pwr.cur = 4 ∧ s.pwr.phase = 0 ∧ s.pwr.stuck = false ∧ s.mode.dormant = true ∧ s.firstBreach h r = some (k, i) :=
  ⟨(upW { cur := 4, target := 4 }).setPv (pLinkEnable 0) 1, [{ link := 0, temps := [150, 0, 0, 0, 0, 0, 0, 0], alert := 0 }], [], 1, 0, by decide⟩

theorem witness_PowerEvents_29 : ∃ (s : State) (g bar off : Nat) (w : Bool),
    s.reach g = true ∧ s.modeOf = 5 ∧ (s.pwr.phase = 1 ∨ s.pwr.phase = 0 ∧ s.pwr.stuck = false) :=
  ⟨asleep, 0, 0, 0x10, false, by exact ⟨by decide, by decide, Or.inr ⟨rfl, rfl⟩⟩⟩

theorem witness_PowerEvents_30 : ∃ (s : State) (g bar off : Nat) (w : Bool),
    s.reach g = true ∧ s.modeOf = 5 ∧ s.pwr.phase = 3 :=
  ⟨{ up with mode := { booting := false, dormant := true }, pwr := { cur := 3, phase := 3 } }, 0, 4, 0, true, by decide⟩

/-! BoardPower -/

theorem witness_BoardPower_1 : ∃ (s : State) (c : Bool),
    s.pwr.pfailLow = false ∧ s.heldInReset = false ∧ s.pwr.phase ≠ 2 ∧ s.pwr.cur.toNat < 3 ∧
      (s.mode.booting = false ∨ s.nothingAtRisk = false) ∧ s.media.plp = true :=
  ⟨{ upB with media := { plp := true, holdup := 60 } }, true, by decide⟩

theorem witness_BoardPower_2 : ∃ (s : State) (c : Bool),
    s.pwr.pfailLow = false ∧ s.heldInReset = false ∧ s.pwr.phase ≠ 2 ∧ s.pwr.cur.toNat < 3 ∧
      (s.media.plp = false ∨ s.mode.booting = true ∧ s.nothingAtRisk = true) :=
  ⟨upB, true, by decide⟩

theorem witness_BoardPower_3 : ∃ (s : State) (c : Bool),
    s.pwr.pfailLow = false ∧ (s.heldInReset = true ∨ s.pwr.phase = 2 ∨ 3 ≤ s.pwr.cur.toNat) :=
  ⟨{ upB with pwr := { phase := 2 } }, true, by decide⟩

theorem witness_BoardPower_4 : ∃ (s : State),
    s.pwr.dumping = true :=
  ⟨upP { dumping := true, pfailLow := true }, by decide⟩

theorem witness_BoardPower_5 : ∃ (s : State),
    s.pwr.pfailLow = true ∧ (s.pwr.dumping = true ∨ s.pwr.afterDump = true ∨ s.brd.released = false) :=
  ⟨upP { dumping := true, pfailLow := true }, by decide⟩

theorem witness_BoardPower_6 : ∃ (s : State),
    s.pwr.pfailLow = true ∧ s.pwr.dumping = false ∧ s.pwr.afterDump = false ∧ s.brd.released = true :=
  ⟨upP { pfailLow := true }, by decide⟩

theorem witness_BoardPower_7 : ∃ (s : State),
    s.pwr.afterDump = true ∧ s.pwr.pfailLow = false :=
  ⟨upP { afterDump := true }, by decide⟩

theorem witness_BoardPower_8 : ∃ (s : State) (st : Straps),
    s.brd.pwrgd = false ∧ s.brd.thermtrip = false :=
  ⟨State.reset, {}, by decide⟩

theorem witness_BoardPower_9 : ∃ (s : State),
    s.brd.pwrgd = true :=
  ⟨{ State.reset with brd := { pwrgd := true, released := true }, fst := { slot := 0 } }, by decide⟩

theorem witness_BoardPower_10 : ∃ (s : State) (f : BootFacts),
    s.mayRelease = true :=
  ⟨{ State.reset with brd := { pwrgd := true } }, {}, by decide⟩

theorem witness_BoardPower_11 : ∃ (s : State),
    s.drc.fill = true :=
  ⟨{ upB with mode := {}, drc := { fill := true } }, by decide⟩

theorem witness_BoardPower_12 : ∃ (s : State),
    s.mayReady = true ∧ s.mode.dormant = false ∧ s.pwr.next = none ∧ s.adm.oobHeld = none :=
  ⟨{ State.reset with brd := { pwrgd := true, released := true }, fst := { slot := 0 } }, by decide⟩

theorem witness_BoardPower_13 : ∃ (s : State),
    s.brd.straps.test = true :=
  ⟨{ upB with brd := { straps := { test := true } } }, by decide⟩

theorem witness_BoardPower_15 : ∃ (s : State),
    s.brd.aonUp = false :=
  ⟨State.reset, by decide⟩

theorem witness_BoardPower_16 : ∃ (s : State),
    s.brd.aonUp = true :=
  ⟨{ upB with brd := { pwrgd := true, released := true, aonUp := true } }, by decide⟩

/-! BoardFaults -/

theorem witness_BoardFaults_1 : ∃ (s : State),
    s.brd.thermtrip = false ∧ s.brd.pwrgd = false :=
  ⟨up, by decide⟩

theorem witness_BoardFaults_2 : ∃ (s : State),
    s.brd.thermtrip = false ∧ s.brd.pwrgd = true :=
  ⟨upB, by decide⟩

theorem witness_BoardFaults_3 : ∃ (s : State) (d : Nat),
    s.clockDue d = true ∧ (d = 7 ∨ d = 8) :=
  ⟨upB, 7, by decide⟩

theorem witness_BoardFaults_4 : ∃ (s : State) (d : Nat),
    s.clockDue d = true ∧ (d = 16 ∨ d = 17) :=
  ⟨upB, 17, by decide⟩

theorem witness_BoardFaults_5 : ∃ (s : State) (d : Nat),
    s.clockDue d = true ∧ d ≠ 7 ∧ d ≠ 8 ∧ d ≠ 16 ∧ d ≠ 17 :=
  ⟨upB, 19, by decide⟩

theorem witness_BoardFaults_6 : ∃ (s : State) (d : Nat),
    s.clockDue d = true :=
  ⟨upB, 19, by decide⟩

theorem witness_BoardFaults_8 : ∃ (s : State) (st : List (Nat × Nat)),
    s.brd.released = true ∧ s.pwr.cur.toNat < 3 ∧ (∀ i, i < 8 → s.pv (pPmbus i) ≠ 0xFF → railFault (tget st i 0) = false) :=
  ⟨upPmb, [(0, 0)], by decide +kernel⟩

theorem witness_BoardFaults_9 : ∃ (s : State) (st : List (Nat × Nat)) (i : Nat),
    s.brd.released = true ∧ s.pwr.cur.toNat < 3 ∧ i < 8 ∧ s.pv (pPmbus i) ≠ 0xFF ∧ railFault (tget st i 0) = true :=
  ⟨upPmb, [(0, 1)], 0, by decide +kernel⟩

theorem witness_BoardFaults_10 : ∃ (s : State) (r mv : Nat),
    r < 2 ∧ s.pf (pAvs r) ≠ 0xFF ∧ s.brd.released = true ∧ s.pwr.cur.toNat < 3 ∧ mvOk r mv = true ∧
      (∀ v, tfind s.brd.avsMv r = some v → mv ≤ v + 10 ∧ v ≤ mv + 10) ∧ tget s.brd.avsTries r 0 < 3 :=
  ⟨upAvs 2, 0, 750, by refine ⟨?_, ?_, ?_, ?_, ?_, ?_, ?_⟩ <;> (first | decide | (intro v h; cases h))⟩

theorem witness_BoardFaults_11 : ∃ (s : State) (r mv : Nat),
    r < 2 ∧ s.pf (pAvs r) ≠ 0xFF ∧ s.brd.released = true ∧ s.pwr.cur.toNat < 3 ∧ mvOk r mv = true ∧
      (∀ v, tfind s.brd.avsMv r = some v → mv ≤ v + 10 ∧ v ≤ mv + 10) ∧ tget s.brd.avsTries r 0 < 2 :=
  ⟨upAvs 1, 0, 750, by refine ⟨?_, ?_, ?_, ?_, ?_, ?_, ?_⟩ <;> (first | decide | (intro v h; cases h))⟩

theorem witness_BoardFaults_12 : ∃ (s : State) (r mv : Nat),
    r < 2 ∧ s.pf (pAvs r) ≠ 0xFF ∧ s.brd.released = true ∧ s.pwr.cur.toNat < 3 ∧ mvOk r mv = true ∧
      (∀ v, tfind s.brd.avsMv r = some v → mv ≤ v + 10 ∧ v ≤ mv + 10) ∧ tget s.brd.avsTries r 0 = 2 :=
  ⟨upAvs 2, 0, 750, by refine ⟨?_, ?_, ?_, ?_, ?_, ?_, ?_⟩ <;> (first | decide | (intro v h; cases h))⟩

theorem witness_BoardFaults_13 : ∃ (s : State) (g : Nat),
    s.reach g = true ∧ s.isPf g = true ∧ s.modeOf ≠ 5 :=
  ⟨up, 0, by decide⟩

theorem witness_BoardFaults_14 : ∃ (s : State) (g : Nat),
    s.reach g = true ∧ s.isPf g = true ∧ s.modeOf = 5 ∧ s.pwr.phase = 0 ∧ s.pwr.stuck = false :=
  ⟨asleep, 0, by decide⟩

theorem witness_BoardFaults_15 : ∃ (s : State) (g off : Nat),
    s.reach g = true ∧ s.isPf g = true ∧ s.modeOf ≠ 5 :=
  ⟨up, 0, 0x200000, by decide⟩

/-! MediaUnits -/

theorem witness_MediaUnits_1 : ∃ (s : State) (id q p e b f : Nat) (r : Ream),
    tfind s.media.reams id = some r ∧ s.progBlk r p = some b ∧ s.mediaRuns = true ∧ r.kind ≠ 3 ∧ r.kind < 5 ∧ q < r.quireCount ∧
      p < 32 ∧ (r.quire q).issued.getLsbD p = false ∧ s.sheetFull id r q p = true ∧ s.encoderFor (32 * r.deckle + p) = some e ∧
      f < 2 :=
  ⟨upR [(0, ream0)], 0, 0, 1, 1, blockKey 1 0 0, 0, ream0, by decide⟩

theorem witness_MediaUnits_2 : ∃ (s : State) (id q p e b f : Nat) (r : Ream),
    tfind s.media.reams id = some r ∧ s.progBlk r p = some b ∧ s.mediaRuns = true ∧ r.kind ≠ 3 ∧ r.kind < 5 ∧ q < r.quireCount ∧
      p < 32 ∧ (r.quire q).issued.getLsbD p = false ∧ s.sheetFull id r q p = true ∧ s.encoderFor (32 * r.deckle + p) = some e ∧
      2 ≤ f ∧ s.ldp.encFenced.contains (e ^^^ 1) = false :=
  ⟨upR [(0, ream0)], 0, 0, 1, 1, blockKey 1 0 0, 2, ream0, by decide⟩

theorem witness_MediaUnits_3 : ∃ (s : State) (k q : Nat) (op : LinkOp) (l : List LinkOp),
    tget (s.link k).queues q [] = op :: l ∧ op.token = false ∧ q % 2 = 1 ∧ s.tokenFor k op = true :=
  ⟨upL { lk0 with queues := [(1, [{ opc := 3, die := 3 }])] }, 0, 1, { opc := 3, die := 3 }, [], by decide⟩

theorem witness_MediaUnits_4 : ∃ (s : State) (k c q : Nat) (op : LinkOp) (l : List LinkOp),
    ((List.range 8).map (fun i => ((s.link k).nextChan + i) % 8)).findSome? (fun c => (s.chanServes k c).map (fun q => (c, q))) = some (c, q) ∧
      tget (s.link k).queues q [] = op :: l ∧ (s.pwr.pfailLow = false ∨ op.opc ≠ 4) :=
  ⟨upL { lk0 with queues := [(0, [op1])] }, 0, 0, 0, op1, [], by decide⟩

theorem witness_MediaUnits_5 : ∃ (s : State) (k c q : Nat) (op : LinkOp) (l : List LinkOp),
    ((List.range 8).map (fun i => ((s.link k).nextChan + i) % 8)).findSome? (fun c => (s.chanServes k c).map (fun q => (c, q))) = some (c, q) ∧
      tget (s.link k).queues q [] = op :: l ∧ s.pwr.pfailLow = true ∧ op.opc = 4 :=
  ⟨{ upL { lk0 with queues := [(1, [{ opc := 4, die := 3, token := true }])] } with pwr := { pfailLow := true } }, 0, 0, 1, { opc := 4, die := 3, token := true }, [], by decide⟩

theorem witness_MediaUnits_6 : ∃ (s : State) (id q : Nat) (r : Ream),
    tfind s.media.reams id = some r ∧ (∀ x ∈ s.media.reams, x.1 = id → x.2.kind < 3 ∧ s.runEmpty id x.2 = false) ∧
      (r.quire q).programmed = 0xFFFFFFFF#32 ∧ (r.quire q).verified = false :=
  ⟨upR [(0, { ream0 with quires := [(0, { programmed := 0xFFFFFFFF#32 })] })], 0, 0, { ream0 with quires := [(0, { programmed := 0xFFFFFFFF#32 })] }, by decide⟩

theorem witness_MediaUnits_7 : ∃ (s : State) (id q : Nat) (r : Ream),
    tfind s.media.reams id = some r ∧ r.kind = 4 ∧ (r.quire q).programmed = 0xFFFFFFFF#32 ∧ (r.quire q).verified = false :=
  ⟨{ upR [(0, { ream0 with kind := 4, quires := [(0, { programmed := 0xFFFFFFFF#32 })] })] with media := { reams := [(0, { ream0 with kind := 4, quires := [(0, { programmed := 0xFFFFFFFF#32 })] })], blks := [(bkey 1 0, { staged := some { stg with loc := { ream := 9, cw := 3 }, flush := some { ream := 0, pos := 1, cw := 3, flushArea := true } } })] } }, 0, 0, { ream0 with kind := 4, quires := [(0, { programmed := 0xFFFFFFFF#32 })] }, by decide⟩

theorem witness_MediaUnits_8 : ∃ (s : State) (k c e m p i idx : Nat) (op : LinkOp) (l : List LinkOp) (x : Slot) (loc : MediaLoc),
    tget (s.link k).queues (2 * c) [] = op :: l ∧ opIsRead op.opc = true ∧ op.waits = false ∧
      (s.die k op.die).op.isSome = true ∧ ((s.die k op.die).st = 2 ∨ (s.die k op.die).st = 3) ∧ op.owner = .unit i idx ∧
      s.slot i = some x ∧ s.unitLoc i idx = some loc ∧ (∀ sl, s.slackOf x e = some sl → (m : Int) ≤ sl) :=
  ⟨(upU { lk0 with queues := [(0, [op1])], dies := [(3, { st := 2, op := some 4 })] }).setPv (pCls 0 2) 0, 0, 0, 500, 60, 300, 5, 0, op1, [], slU, { ream := 0, pos := 1 }, by exact ⟨rfl, rfl, rfl, rfl, Or.inl rfl, rfl, rfl, rfl, fun sl h => absurd h (by rw [show State.slackOf _ _ _ = none by decide]; simp)⟩⟩

theorem witness_MediaUnits_9 : ∃ (s : State) (i idx : Nat) (cw : CwMeta) (x : Slot) (u : IoUnit) (v : BlkVer) (loc : MediaLoc),
    s.slot i = some x ∧ x.stop = none ∧ tfind x.units idx = some u ∧ u.st = .decode ∧ u.recon = false ∧ u.rung < 2 ∧
      u.rung < x.relocRung ∧ s.ldp.decoding { slot := i, idx := idx, soft := false } = true ∧
      (s.blk u.nsid u.lba).media = some (v, loc) ∧ cw.slice = none ∧ cw.conv = true ∧
      cwGood cw (s.epochAt loc) u.nsid u.lba = true ∧ cw.kind ≠ 1 ∧ cw.kind ≠ 5 ∧ v.lost = false :=
  ⟨{ upU2 with ldp := { jobs := [{ slot := 5, idx := 0 }] } }, 5, 0, { nsid := 1 }, xU, { nsid := 1, lba := 0, st := .decode }, bv, { ream := 0, pos := 1 }, by decide⟩

theorem witness_MediaUnits_10 : ∃ (s : State) (i idx k : Nat) (cw : CwMeta) (x : Slot) (u : IoUnit) (v : BlkVer) (loc : MediaLoc) (n : Nat × Nat × Nat × Nat) (op : LinkOp),
    s.slot i = some x ∧ x.stop = none ∧ tfind x.units idx = some u ∧ u.st = .decode ∧ u.recon = false ∧
      (s.blk u.nsid u.lba).media = some (v, loc) ∧ cw.slice = none ∧
      (cw.conv && cwGood cw (s.epochAt loc) u.nsid u.lba) = false ∧ nextRead u.rung u.lset u.tries x.retryMax = some n ∧
      s.ldp.decoding { slot := i, idx := idx, soft := false } = true ∧
      s.readOp loc n.2.2.2 n.2.1 (.unit i idx) = some (k, op) :=
  ⟨{ upU2 with ldp := { jobs := [{ slot := 5, idx := 0 }] } }, 5, 0, 1, { conv := false }, xU, { nsid := 1, lba := 0, st := .decode }, bv, { ream := 0, pos := 1 }, (2, 1, 1, 1), opOf (upU2.readOp { ream := 0, pos := 1 } 1 1 (.unit 5 0)), by decide⟩

/-! MediaProgress -/

theorem witness_MediaProgress_1 : ∃ (s : State) (b c id p nb : Nat) (r : Ream),
    tfind s.media.bad b = some c ∧ s.reamOf b = some (id, r, p) ∧ tfind s.media.reams id = some r ∧ s.sparePick b = some nb ∧
      (s.mblk nb).asStamped = true ∧ tfind s.media.repls b = none ∧ s.replOld b = none ∧ r.programmedAt p ≠ [] :=
  ⟨{ upB with media := { reams := [(0, { ream0 with quires := [(2, { programmed := 0xFFFFFFFF#32 })] })], bad := [(blockKey 1 0 0, 0)] } }, blockKey 1 0 0, 0, 0, 1, blockKey 1 0 7680, { ream0 with quires := [(2, { programmed := 0xFFFFFFFF#32 })] }, by decide⟩

theorem witness_MediaProgress_2 : ∃ (s : State) (b c id p nb : Nat) (r : Ream),
    tfind s.media.bad b = some c ∧ s.reamOf b = some (id, r, p) ∧ tfind s.media.reams id = some r ∧ s.sparePick b = some nb ∧
      nb ≠ b ∧ p < r.entries.length ∧ (s.mblk nb).asStamped = true ∧ tfind s.media.repls b = none ∧ s.replOld b = none ∧
      r.programmedAt p = [] ∧ r.failedQuire p = none :=
  ⟨{ upB with media := { reams := [(0, ream0)], bad := [(blockKey 1 0 0, 0)] } }, blockKey 1 0 0, 0, 0, 1, blockKey 1 0 7680, ream0, by decide⟩

theorem witness_MediaProgress_3 : ∃ (s : State) (d kind g n z id : Nat) (u : State),
    s.mediaRuns = true ∧ d < 3 ∧ s.ownWanted d kind = true ∧ s.formReam d kind g 0 0 0 = .ok u id :=
  ⟨upB, 0, 4, 0, 0, 0, 0, formedOf (upB.formReam 0 4 0 0 0 0), by exact ⟨by decide, by decide, by decide, form_ok _ 0 (by decide +kernel)⟩⟩

theorem witness_MediaProgress_4 : ∃ (s : State) (d kind g n z id tgt : Nat) (r : Ream) (u : State),
    s.mediaRuns = true ∧ d < 3 ∧ (kind = 1 ∨ kind = 2) ∧ s.refreshPick kind g n z = some id ∧ tfind s.media.reams id = some r ∧
      s.formReam r.deckle r.kind r.grp r.nsid r.zslba 0 = .ok u tgt :=
  ⟨{ upB with media := { reams := [(0, { ream0 with closed := true })], refresh := [0] } }, 0, 2, 0, 0, 0, 0, 1, { ream0 with closed := true }, formedOf (State.formReam { upB with media := { reams := [(0, { ream0 with closed := true })], refresh := [0] } } 0 2 0 0 0 0), by exact ⟨by decide, by decide, by decide, by decide, rfl, form_ok _ 1 (by decide +kernel)⟩⟩

theorem witness_MediaProgress_5 : ∃ (s : State) (b : Nat),
    (s.mblk b).st = .erasing ∧ (∀ x ∈ (s.link (b / 2 ^ 20)).tags, x.2.op.owner ≠ .erase b) :=
  ⟨{ upB with media := { mblks := [(9, { st := .erasing })] } }, 9, by decide⟩

theorem witness_MediaProgress_6 : ∃ (s : State) (b : Nat),
    (s.mblk b).st = .erasing ∧ (∀ x ∈ (s.link (b / 2 ^ 20)).tags, x.2.op.owner ≠ .erase b) :=
  ⟨{ upB with media := { mblks := [(9, { st := .erasing })] } }, 9, by decide⟩

theorem witness_MediaProgress_7 : ∃ (s : State) (src : Nat) (m : Reloc) (r w : Ream),
    s.media.relocs.find? (fun (m : Reloc) => m.src == src) = some m ∧ tfind s.media.reams src = some r ∧
      tfind s.media.reams m.tgt = some w ∧ s.mediaRuns = true ∧ relocReady r w = true :=
  ⟨{ upR [] with media := { reams := [(0, { ream0 with closed := true }), (1, { ream0 with target := true })], relocs := [{ src := 0, tgt := 1, cause := 0 }] } }, 0, { src := 0, tgt := 1, cause := 0 }, { ream0 with closed := true }, { ream0 with target := true }, by decide⟩

theorem witness_MediaProgress_8 : ∃ (s : State) (g v : Nat),
    g < 16 ∧ (s.grp g).victim = none ∧ ((s.grp g).gcOn = true ∨ s.freePct g < s.pvA pGcStart ∨ s.hasEvac g = true) ∧
      s.gcVictim g = some v :=
  ⟨{ upR [(0, { ream0 with closed := true })] with nss := [(1, { nsR with charged := [1, 0, 0], formed := [1, 0, 0] })], media := { reams := [(0, { ream0 with closed := true })], blks := [(bkey 1 0, mb0)] } }, 0, 0, by decide +kernel⟩

theorem witness_MediaProgress_9 : ∃ (s : State) (nsid b g v : Nat) (ns : Ns) (u w : State) (locs : List MediaLoc),
    tfind s.nss nsid = some ns ∧
      (List.range 16).find? (fun g => match (s.grp g).victim with | some v => s.bundleIn nsid b v | none => false) = some g ∧
      (s.grp g).victim = some v ∧ s.gcPlaces g nsid ns = .ok u locs ∧ u.bundleTo nsid b locs [] false = some w :=
  ⟨upGc, 1, 0, 0, 0, nsR, gcTo.1, (gcTo.1.bundleTo 1 0 gcTo.2 [] false).getD upGc, gcTo.2, by exact ⟨rfl, by decide, by decide, gc_ok (by decide +kernel), getD_some _ upGc (by decide +kernel)⟩⟩

theorem witness_MediaProgress_10 : ∃ (s : State) (d nsid lba : Nat) (b : Blk) (g : Staged) (u : State) (l : MediaLoc),
    s.mediaRuns = true ∧ d < 3 ∧ lba < 2 ^ 40 ∧ s.evictAll (bkey nsid lba) = true ∧ s.media.blks = [(bkey nsid lba, b)] ∧
      b.staged = some g ∧ g.deckle = d ∧ s.isPartial g = true ∧ b.onMedia = false ∧
      (s.flushPad d 64).flushPlace d g.loc.cw = (u, some l) :=
  ⟨upEv, 0, 1, 0, { staged := some stg }, stg, flTo.1, flTo.2.getD { ream := 0 }, by exact ⟨by decide, by decide, by decide, by decide, rfl, rfl, rfl, by decide, rfl, fl_ok (by decide +kernel)⟩⟩

theorem witness_MediaProgress_11 : ∃ (s : State) (d : Nat),
    s.mediaRuns = true ∧ d < 3 ∧ (s.dk d).dumpReady < dumpWanted s.media.cap0 ∧
      (s.dk d).dumpReady + (s.dk d).dumpHeld < s.dumpReams d :=
  ⟨upR [(0, { ream0 with kind := 5 })], 0, by decide⟩

theorem witness_MediaProgress_12 : ∃ (s : State) (d id : Nat) (u : State),
    s.mediaRuns = true ∧ d < 3 ∧ (s.dk d).dumpReady < dumpWanted s.media.cap0 ∧
      s.dumpReams d ≤ (s.dk d).dumpReady + (s.dk d).dumpHeld ∧ s.formReam d 5 0 0 0 0 = .ok u id :=
  ⟨upB, 1, 1048576, formedOf (upB.formReam 1 5 0 0 0 0), by exact ⟨by decide, by decide, by decide, by decide, form_ok _ 1048576 (by decide +kernel)⟩⟩

theorem witness_MediaProgress_13 : ∃ (s : State) (d : Nat),
    s.mediaRuns = true ∧ d < 3 :=
  ⟨upB, 1, by decide⟩

theorem witness_MediaProgress_14 : ∃ (s : State) (d : Nat),
    s.mediaRuns = true ∧ d < 3 ∧ s.journalToken d = true :=
  ⟨upB, 1, by decide⟩

theorem witness_MediaProgress_15 : ∃ (s : State) (d : Nat),
    s.mediaRuns = true ∧ d < 3 :=
  ⟨{ upB with media := { deckles := [(1, { intentWait := [33554441] })] } }, 1, by decide⟩

/-! LinkStates -/

theorem witness_LinkStates_1 : ∃ (s : State) (k a b : Nat) (e : Bool),
    (s.link k).st = 1 ∧ (s.link k).jts1 < 7 :=
  ⟨upL { st := 1 }, 0, 0, 0, false, by decide⟩

theorem witness_LinkStates_2 : ∃ (s : State) (k a b : Nat) (e : Bool),
    (s.link k).st = 1 ∧ 7 ≤ (s.link k).jts1 :=
  ⟨upL { st := 1, jts1 := 7 }, 0, 0, 0, false, by decide⟩

theorem witness_LinkStates_3 : ∃ (s : State) (k a b : Nat),
    (s.link k).st = 2 ∧ a ≤ 10 ∧ b ≤ 10 ∧ (s.link k).eqReqs < 4 :=
  ⟨upL { st := 2 }, 0, 10, 10, by decide⟩

theorem witness_LinkStates_4 : ∃ (s : State) (k : Nat),
    (s.link k).st = 2 ∧ (s.link k).jts2 < 7 :=
  ⟨upL { st := 2 }, 0, by decide⟩

theorem witness_LinkStates_5 : ∃ (s : State) (k : Nat),
    (s.link k).st = 2 ∧ 7 ≤ (s.link k).jts2 :=
  ⟨upL { st := 2, jts2 := 7 }, 0, by decide⟩

theorem witness_LinkStates_6 : ∃ (s : State) (k : Nat),
    (s.link k).st ≠ 6 :=
  ⟨upL lk0, 0, by decide⟩

theorem witness_LinkStates_7 : ∃ (s : State) (k : Nat) (b : List Byte),
    (s.link k).st = 3 :=
  ⟨upL { st := 3 }, 0, List.replicate 128 0#8, by decide⟩

theorem witness_LinkStates_8 : ∃ (s : State) (k : Nat) (b : List Byte),
    (s.link k).st = 3 ∧ (s.link k).gotAlign = true ∧ (s.link k).sentAck = true :=
  ⟨upL { st := 3, gotAlign := true, sentAck := true }, 0, List.replicate 128 0#8, by decide⟩

theorem witness_LinkStates_9 : ∃ (s : State) (k : Nat),
    (s.link k).st = 3 :=
  ⟨upL { st := 3 }, 0, by decide⟩

theorem witness_LinkStates_10 : ∃ (s : State) (k : Nat),
    ((s.link k).st = 1 ∨ (s.link k).st = 2) ∧ satInc (s.link k).bringfail ≠ 3 :=
  ⟨upL { st := 2 }, 0, by decide⟩

theorem witness_LinkStates_11 : ∃ (s : State) (k : Nat),
    (s.link k).bring ≠ 0 ∧ (s.link k).bring ≠ 8 ∧ (s.link k).st ≠ 6 ∧ satInc (s.link k).bringfail ≠ 3 :=
  ⟨upL { st := 1, bring := 1, bringfail := 1 }, 0, by decide⟩

theorem witness_LinkStates_12 : ∃ (s : State) (k : Nat),
    (s.link k).bring ≠ 0 ∧ (s.link k).bring ≠ 8 ∧ (s.link k).st ≠ 6 ∧ satInc (s.link k).bringfail = 3 :=
  ⟨upL { st := 1, bring := 1, bringfail := 2 }, 0, by decide⟩

theorem witness_LinkStates_13 : ∃ (s : State) (k : Nat),
    (s.link k).st = 6 ∧ (s.link k).faultOver = false :=
  ⟨upL { st := 6 }, 0, by decide⟩

theorem witness_LinkStates_14 : ∃ (s : State) (k : Nat),
    (s.link k).flows = true ∧ ((s.link k).stalled.filter (fun t => decide (s.now - t ≤ 10000000))).length < 2 :=
  ⟨upL lk0, 0, by decide⟩

theorem witness_LinkStates_15 : ∃ (s : State) (k : Nat),
    (s.link k).flows = true ∧ 2 ≤ ((s.link k).stalled.filter (fun t => decide (s.now - t ≤ 10000000))).length :=
  ⟨upL { lk0 with stalled := [0, 0] }, 0, by decide⟩

theorem witness_LinkStates_16 : ∃ (s : State) (k : Nat) (f : TxFlit),
    (s.link k).flows = true ∧ (s.link k).replay = [f] ∧ f.retx < 4 :=
  ⟨upL { lk0 with replay := [{ seq := 0 }] }, 0, { seq := 0 }, by decide⟩

theorem witness_LinkStates_17 : ∃ (s : State) (k : Nat),
    (s.link k).st ≠ 0 ∧ (s.link k).st ≠ 6 :=
  ⟨upL lk0, 0, by decide⟩

theorem witness_LinkStates_18 : ∃ (s : State) (k : Nat),
    (s.link k).bring = 8 :=
  ⟨upL { lk0 with bring := 8 }, 0, by decide⟩

theorem witness_LinkStates_19 : ∃ (s : State) (k : Nat),
    (s.link k).bring = 8 ∧ (s.link k).reqTries < 2 :=
  ⟨upL { lk0 with bring := 8, reqTries := 1 }, 0, by decide⟩

theorem witness_LinkStates_20 : ∃ (s : State) (k : Nat),
    (s.link k).reqOut ≠ 0 ∧ (s.link k).reqTries = 0 :=
  ⟨upL { lk0 with reqOut := 2, bring := 4 }, 0, by decide⟩

theorem witness_LinkStates_21 : ∃ (s : State) (k : Nat),
    (s.link k).reqOut ≠ 0 ∧ (s.link k).reqTries ≠ 0 ∧ (s.link k).st ≠ 6 :=
  ⟨upL { lk0 with reqOut := 2, reqTries := 1, bring := 4 }, 0, by decide⟩

/-! HubMessages -/

theorem witness_HubMessages_1 : ∃ (s : State) (k : Nat) (b : List Byte),
    (s.link k).flows = true :=
  ⟨upL lk0, 0, List.replicate 128 0#8, by decide⟩

theorem witness_HubMessages_2 : ∃ (s : State) (k : Nat) (m : List Byte),
    s.fwAway = false ∧ s.rxFirst k 0 = some m ∧ (s.link k).tagOf (cmplOf m).tag = none :=
  ⟨upX lk0 0 (pl 16 [(0, 2), (1, 1)]), 0, pl 16 [(0, 2), (1, 1)], by decide⟩

theorem witness_HubMessages_3 : ∃ (s : State) (k slot r q p : Nat) (m : List Byte) (g : Tag) (x : Ream),
    s.fwAway = false ∧ s.rxFirst k 0 = some m ∧ (s.link k).tagOf (cmplOf m).tag = some (slot, g) ∧ g.op.opc = 3 ∧
      g.op.owner = .sheet r q p ∧ (cmplOf m).opc = 3 ∧ (cmplOf m).die = g.op.die ∧ (cmplOf m).res = 0 ∧ (cmplOf m).dst ≠ 6 ∧
      tfind s.media.reams r = some x ∧ p < 32 :=
  ⟨{ upX { lk0 with tags := [(7, tag3)] } 0 (pl 16 [(0, 2), (1, 3), (2, 7), (4, 3)]) with media := { reams := [(0, ream0)] } }, 0, 7, 0, 0, 1, pl 16 [(0, 2), (1, 3), (2, 7), (4, 3)], tag3, ream0, by decide⟩

theorem witness_HubMessages_4 : ∃ (s : State) (k slot : Nat) (m : List Byte) (g : Tag),
    s.fwAway = false ∧ s.rxFirst k 2 = some m ∧ (s.link k).tagOf (fieldLe m 2 2) = some (slot, g) ∧ opIsRead g.op.opc = true ∧
      g.cmplLen = none :=
  ⟨upX { lk0 with tags := [(7, { gen := 0, op := op1 })] } 2 (pl 16 [(0, 4), (2, 7)]), 0, 7, pl 16 [(0, 4), (2, 7)], { gen := 0, op := op1 }, by decide⟩

theorem witness_HubMessages_5 : ∃ (s : State) (k : Nat),
    (s.link k).flows = true :=
  ⟨upL lk0, 0, by decide⟩

theorem witness_HubMessages_6 : ∃ (s : State) (k : Nat) (m : List Byte),
    s.rxFirst k 3 = some m ∧ byteAt m 0 = 0x12 :=
  ⟨upX lk0 3 (pl 16 [(0, 0x12)]), 0, pl 16 [(0, 0x12)], by decide⟩

theorem witness_HubMessages_7 : ∃ (s : State) (k : Nat),
    (s.link k).flows = true ∧ (s.link k).hbSeen = false ∧ (s.link k).hbRow < 2 :=
  ⟨upL lk0, 0, by decide⟩

theorem witness_HubMessages_8 : ∃ (s : State) (k : Nat),
    (s.link k).flows = true ∧ (s.link k).hbSeen = false ∧ 2 ≤ (s.link k).hbRow :=
  ⟨upL { lk0 with hbRow := 2 }, 0, by decide⟩

theorem witness_HubMessages_9 : ∃ (s : State) (k : Nat),
    (s.link k).flows = true ∧ (s.link k).hbSeen = true :=
  ⟨upL { lk0 with hbSeen := true }, 0, by decide⟩

theorem witness_HubMessages_10 : ∃ (s : State) (k d : Nat),
    (s.link k).flows = true ∧ (s.die k d).op.isSome = true ∧ (s.die k d).unknown = false ∧ (s.die k d).retired = false ∧
      inR 4 5 (s.die k d).st = false :=
  ⟨upL { lk0 with dies := [(3, { st := 2, op := some 7 })] }, 0, 3, by decide⟩

theorem witness_HubMessages_11 : ∃ (s : State) (k : Nat) (m : List Byte),
    s.rxFirst k 3 = some m ∧ byteAt m 0 = 0x10 ∧ byteAt m 1 = 1 :=
  ⟨upX lk0 3 (pl 16 [(0, 0x10), (1, 1), (2, 3)]), 0, pl 16 [(0, 0x10), (1, 1), (2, 3)], by decide⟩

theorem witness_HubMessages_12 : ∃ (s : State) (k : Nat) (m : List Byte),
    s.rxFirst k 3 = some m ∧ byteAt m 0 = 0x10 ∧ byteAt m 1 = 2 :=
  ⟨upX lk0 3 (pl 32 [(0, 0x10), (1, 2)]), 0, pl 32 [(0, 0x10), (1, 2)], by decide⟩

theorem witness_HubMessages_13 : ∃ (s : State) (k : Nat) (m : List Byte),
    s.rxFirst k 3 = some m ∧ byteAt m 0 = 0x10 ∧ byteAt m 1 = 3 :=
  ⟨upX lk0 3 (pl 32 [(0, 0x10), (1, 3)]), 0, pl 32 [(0, 0x10), (1, 3)], by decide⟩

theorem witness_HubMessages_14 : ∃ (s : State) (k : Nat) (m : List Byte),
    s.rxFirst k 3 = some m ∧ byteAt m 0 = 0x10 ∧ byteAt m 1 = 4 ∧ (s.link k).lost = false ∧ (s.link k).bring = 0 :=
  ⟨upX lk0 3 (pl 16 [(0, 0x10), (1, 4)]), 0, pl 16 [(0, 0x10), (1, 4)], by decide⟩

theorem witness_HubMessages_15 : ∃ (s : State) (k : Nat) (m : List Byte),
    s.rxFirst k 3 = some m ∧ byteAt m 0 = 0x10 ∧ byteAt m 1 = 5 :=
  ⟨upX lk0 3 (pl 16 [(0, 0x10), (1, 5)]), 0, pl 16 [(0, 0x10), (1, 5)], by decide⟩

theorem witness_HubMessages_16 : ∃ (s : State) (k : Nat) (m : List Byte),
    s.rxFirst k 3 = some m ∧ byteAt m 0 = 0x10 ∧ byteAt m 1 = 6 :=
  ⟨upX lk0 3 (pl 16 [(0, 0x10), (1, 6)]), 0, pl 16 [(0, 0x10), (1, 6)], by decide⟩

theorem witness_HubMessages_17 : ∃ (s : State) (k : Nat) (m : List Byte),
    s.rxFirst k 3 = some m ∧ byteAt m 0 = 0x11 :=
  ⟨upX lk0 3 (pl 64 [(0, 0x11)]), 0, pl 64 [(0, 0x11)], by decide⟩

theorem witness_HubMessages_18 : ∃ (s : State) (k : Nat) (m : List Byte),
    s.rxFirst k 3 = some m ∧ byteAt m 0 = 0x13 ∧ bitN (byteAt m 1) 0 = true ∧ byteAt m 2 = 2 ∧ (s.link k).st = 4 :=
  ⟨upX { lk0 with parkAsked := 2 } 3 (pl 16 [(0, 0x13), (1, 1), (2, 2)]), 0, pl 16 [(0, 0x13), (1, 1), (2, 2)], by decide⟩

theorem witness_HubMessages_19 : ∃ (s : State) (k : Nat) (m : List Byte),
    s.rxFirst k 3 = some m ∧ byteAt m 0 = 0x13 ∧ bitN (byteAt m 1) 0 = true ∧ byteAt m 2 ≠ 2 :=
  ⟨upX { lk0 with parkAsked := 2 } 3 (pl 16 [(0, 0x13), (1, 1), (2, 1)]), 0, pl 16 [(0, 0x13), (1, 1), (2, 1)], by decide⟩

theorem witness_HubMessages_20 : ∃ (s : State) (k : Nat) (m : List Byte),
    s.rxFirst k 3 = some m ∧ byteAt m 0 = 0x14 ∧ bitN (byteAt m 1) 0 = true :=
  ⟨upX { lk0 with st := 5 } 3 (pl 16 [(0, 0x14), (1, 1)]), 0, pl 16 [(0, 0x14), (1, 1)], by decide⟩

theorem witness_HubMessages_21 : ∃ (s : State) (k : Nat) (m : List Byte),
    s.rxFirst k 3 = some m ∧ byteAt m 0 = 0x15 ∧ bitN (byteAt m 1) 0 = true ∧ (s.link k).reqOut = 2 ∧ byteAt m 2 = 2 ∧
      fieldLe m 4 2 = 0 :=
  ⟨upX { lk0 with reqOut := 2, bring := 4 } 3 (pl 16 [(0, 0x15), (1, 1), (2, 2)]), 0, pl 16 [(0, 0x15), (1, 1), (2, 2)], by decide⟩

theorem witness_HubMessages_22 : ∃ (s : State) (k : Nat) (m : List Byte),
    s.rxFirst k 3 = some m ∧ byteAt m 0 = 0x15 ∧ bitN (byteAt m 1) 0 = true ∧ (s.link k).reqOut = 1 ∧ byteAt m 2 = 0 ∧
      m.length = 72 :=
  ⟨upX { lk0 with reqOut := 1, bring := 2 } 3 (pl 72 [(0, 0x15), (1, 1)]), 0, pl 72 [(0, 0x15), (1, 1)], by decide⟩

theorem witness_HubMessages_23 : ∃ (s : State) (k : Nat) (m : List Byte),
    s.rxFirst k 3 = some m ∧ byteAt m 0 = 0x16 ∧ bitN (byteAt m 1) 0 = true ∧ (s.link k).reqOut = 3 ∧ fieldLe m 12 4 = 4 :=
  ⟨upX { lk0 with reqOut := 3, bring := 3 } 3 (pl 16 [(0, 0x16), (1, 1), (12, 4)]), 0, pl 16 [(0, 0x16), (1, 1), (12, 4)], by decide⟩

theorem witness_HubMessages_24 : ∃ (s : State) (k : Nat) (m : List Byte),
    s.rxFirst k 3 = some m ∧ byteAt m 0 = 0x16 ∧ bitN (byteAt m 1) 0 = true ∧ (s.link k).reqOut = 3 ∧ fieldLe m 12 4 ≠ 3 ∧
      fieldLe m 12 4 ≠ 4 :=
  ⟨upX { lk0 with reqOut := 3, bring := 3 } 3 (pl 16 [(0, 0x16), (1, 1), (12, 1)]), 0, pl 16 [(0, 0x16), (1, 1), (12, 1)], by decide⟩

theorem witness_HubMessages_25 : ∃ (s : State) (k v : Nat),
    k < 96 :=
  ⟨upB, 95, 3, by decide⟩

theorem witness_HubMessages_26 : ∃ (s : State) (k v : Nat),
    k < 96 :=
  ⟨upB, 95, 3, by decide⟩

theorem witness_HubMessages_27 : ∃ (s : State) (k : Nat),
    k < 96 ∧ (∀ a, (s.link k).tempAt = some a → 10000000 ≤ s.now - a) :=
  ⟨upL lk0, 0, by exact ⟨by decide, fun a h => by cases h⟩⟩

theorem witness_HubMessages_28 : ∃ (s : State) (k : Nat) (vs : List Int),
    k < 96 ∧ (∀ a, (s.link k).tempAt = some a → 10000000 ≤ s.now - a) :=
  ⟨upL lk0, 0, [40], by exact ⟨by decide, fun a h => by cases h⟩⟩

theorem witness_HubMessages_29 : ∃ (s : State) (k : Nat),
    s.fwAway = true :=
  ⟨{ up with mode := { resetting := true } }, 0, by decide⟩

/-! CalenderSamples -/

theorem witness_CalenderSamples_1 : ∃ (s b : State) (c : LoopCfg) (n : Nat) (late : Nat × Nat),
    s.calRuns = true ∧ n < 32 ∧ (s.latch n).2.clsBoundary n = b ∧ b.loopCfg n = c :=
  ⟨up, (up.latch 3).2.clsBoundary 3, ((up.latch 3).2.clsBoundary 3).loopCfg 3, 3, (2, 1), by exact ⟨by decide, by decide, rfl, rfl⟩⟩

theorem witness_CalenderSamples_2 : ∃ (s b : State) (c : LoopCfg) (n : Nat) (late : Nat × Nat),
    s.calRuns = true ∧ n < 32 ∧ (s.latch n).2.clsBoundary n = b ∧ b.loopCfg n = c ∧ s.heldAs c (s.loop n).holdLeft = false ∧
      c.on = true :=
  ⟨upLoop, (upLoop.latch 31).2.clsBoundary 31, ((upLoop.latch 31).2.clsBoundary 31).loopCfg 31, 31, (0, 0), by exact ⟨by decide, by decide, rfl, rfl, by decide +kernel, by decide +kernel⟩⟩

theorem witness_CalenderSamples_3 : ∃ (s : State) (input : Nat) (v : Int),
    s.calRuns = true ∧ (input = 1 ∨ input = 5) :=
  ⟨up, 5, 7077888, by decide⟩

theorem witness_CalenderSamples_4 : ∃ (s : State) (input : Nat),
    s.calRuns = true ∧ (input = 1 ∨ input = 5) :=
  ⟨up, 1, by decide⟩

theorem witness_CalenderSamples_5 : ∃ (s : State) (input : Nat) (v : Option Int),
    s.calRuns = true ∧ refreshed input = true ∧ input ≠ 1 ∧ input ≠ 5 :=
  ⟨up, 11, none, by decide⟩

theorem witness_CalenderSamples_6 : ∃ (s : State) (c : Nat),
    s.calRuns = true ∧ c < 64 ∧ s.undriven c = true :=
  ⟨up, 63, by decide⟩

theorem witness_CalenderSamples_7 : ∃ (s : State) (c : Nat),
    s.undriven c = false :=
  ⟨{ ((upLoop.setPv (pCls 5 6) 31).setPv (pCls 5 0) 1) with cal := { loops := [(31, { cfg := { cls := some 5, on := true, act := 1285 } })] } }, 5, by decide⟩

/-! DramCommands -/

theorem witness_DramCommands_1 : ∃ (s : State) (ch : Nat) (q : DReq),
    (s.chan ch).st = 1 ∧ (s.chan ch).reqs = [q] ∧ q.isWrite = false ∧ paCh q.addr = ch ∧ s.paUp (paLine q.addr) = true ∧
      tget s.drc.errs (paLine q.addr) [] = [] ∧ s.mergeOf (paLine q.addr) = none :=
  ⟨upC { ch0 with reqs := [{ port := 1, addr := 3, isWrite := false, at_ := 0 }] }, 0, { port := 1, addr := 3, isWrite := false, at_ := 0 }, by decide⟩

theorem witness_DramCommands_2 : ∃ (s : State) (ch : Nat) (q : DReq),
    (s.chan ch).st = 1 ∧ (s.chan ch).reqs = [q] ∧ q.isWrite = true ∧ paCh q.addr = ch ∧ s.urg q = 3 :=
  ⟨{ upC { ch0 with reqs := [{ port := 0, addr := 0, isWrite := true, bytes := [1#8], at_ := 0 }] } with now := 1000000 }, 0, { port := 0, addr := 0, isWrite := true, bytes := [1#8], at_ := 0 }, by decide⟩

theorem witness_DramCommands_3 : ∃ (s : State) (port a : Nat) (bytes : List Byte),
    s.paUp a = true ∧ bytes ≠ [] ∧ bytes.length < 128 ∧ a + bytes.length ≤ paLine a + 128 ∧ s.mergeOf (paLine a) = none ∧
      s.drc.merge.length < 64 :=
  ⟨upC ch0, 1, 120, List.replicate 8 5#8, by decide⟩

theorem witness_DramCommands_4 : ∃ (s : State) (port a : Nat) (bytes : List Byte),
    s.paUp a = true ∧ bytes.length = 128 ∧ a % 128 = 0 ∧ s.mergeOf a = none :=
  ⟨upC ch0, 1, 1024, List.replicate 128 5#8, by decide⟩

theorem witness_DramCommands_5 : ∃ (s : State) (port a : Nat) (bytes : List Byte),
    s.paUp a = false ∧ bytes ≠ [] ∧ a + bytes.length ≤ paLine a + 128 :=
  ⟨upC {}, 1, 127, [5#8], by decide⟩

theorem witness_DramCommands_6 : ∃ (s : State) (k : Nat) (e : Merge),
    tfind s.drc.merge k = some e ∧ s.paUp e.line = true ∧ tget s.drc.errs e.line [] = [] ∧ (s.chan (paCh e.line)).reqs = [] ∧
      s.memOk :=
  ⟨{ upC ch0 with drc := { chans := [(0, ch0)], merge := [(2, { line := 0, bytes := [(127, 1#8)], since := 0, port := 1 })] } }, 2, { line := 0, bytes := [(127, 1#8)], since := 0, port := 1 }, by repeat' (first | apply And.intro | decide | rfl)⟩

/-! DramMaintenance -/

theorem witness_DramMaintenance_1 : ∃ (s : State) (ch : Nat),
    (s.chan ch).st = 1 ∧ (s.chan ch).scrubs (s.chan ch).scrubAt.1 = true ∧
      tget s.drc.errs (paOf ch (s.chan ch).scrubAt.1 (s.chan ch).scrubAt.2) [] = [] :=
  ⟨upC ch0, 0, by decide⟩

theorem witness_DramMaintenance_2 : ∃ (s : State) (ch : Nat),
    (s.chan ch).st = 1 ∧ (s.chan ch).scrubs (s.chan ch).scrubAt.1 = false :=
  ⟨upC { ch0 with migr := true, migRank := 0 }, 0, by decide⟩

theorem witness_DramMaintenance_3 : ∃ (s : State) (ch : Nat),
    (s.chan ch).st = 1 ∧ (s.chan ch).migr = true ∧ (s.chan ch).ptr.toNat < (s.chan ch).lines ∧
      tget s.drc.errs (paOf ch (s.chan ch).migRank (s.chan ch).ptr.toNat) [] = [] ∧ s.memOk :=
  ⟨upC { ch0 with migr := true, spare := 1, ptr := 0xFFFFFFF#32 }, 0, by repeat' (first | apply And.intro | decide | rfl)⟩

theorem witness_DramMaintenance_4 : ∃ (s : State) (ch : Nat),
    (s.chan ch).migr = true ∧ (s.chan ch).lines ≤ (s.chan ch).ptr.toNat :=
  ⟨upC { ch0 with migr := true, spare := 1, ptr := 0x10000000#32 }, 0, by decide⟩

theorem witness_DramMaintenance_5 : ∃ (s : State) (ch rank : Nat) (again : Bool),
    (s.chan ch).st = 1 ∧ rank < 4 ∧ tfind (s.chan ch).caparWin rank = none ∧ 2 ≤ s.pvA pCaparLimit :=
  ⟨upC ch0, 0, 3, true, by decide⟩

theorem witness_DramMaintenance_6 : ∃ (s : State) (ch rank k at_ : Nat),
    (s.chan ch).st = 1 ∧ rank < 4 ∧ tfind (s.chan ch).caparWin rank = some (k, at_) ∧ s.now - at_ ≤ 10000000 ∧
      s.pvA pCaparLimit ≤ k ∧ (s.chan ch).insvc.getLsbD rank = true ∧ (s.chan ch).migr = false ∧ (s.chan ch).spareOk = false :=
  ⟨(upC { ch0 with caparWin := [(0, (8, 0))] }).setPv pCaparLimit 8, 0, 0, 8, 0, by decide⟩

theorem witness_DramMaintenance_7 : ∃ (s : State) (ch rank k at_ : Nat),
    (s.chan ch).st = 1 ∧ rank < 4 ∧ tfind (s.chan ch).caparWin rank = some (k, at_) ∧ s.now - at_ ≤ 10000000 ∧
      s.pvA pCaparLimit ≤ k ∧ (s.chan ch).insvc.getLsbD rank = true ∧ (s.chan ch).migr = false ∧ (s.chan ch).spareOk = true :=
  ⟨(upC { ch0 with caparWin := [(0, (8, 0))], spareOk := true, spare := 1 }).setPv pCaparLimit 8, 0, 0, 8, 0, by decide⟩

theorem witness_DramMaintenance_8 : ∃ (s : State) (ch : Nat) (ok : Bool),
    s.trainTurn = some ch ∧ (s.chan ch).retryAt = none :=
  ⟨upC ch0, 0, false, by decide⟩

theorem witness_DramMaintenance_9 : ∃ (s : State) (ch : Nat),
    (s.chan ch).st = 1 ∧ (s.chan ch).retryAt.isSome = true :=
  ⟨upC { ch0 with retryAt := some 5, rtfail := 1 }, 0, by decide⟩

theorem witness_DramMaintenance_10 : ∃ (s : State) (ch : Nat),
    (s.chan ch).st = 1 ∧ (s.chan ch).retryAt.isSome = true ∧ (s.chan ch).rtfail ≠ 3 :=
  ⟨upC { ch0 with retryAt := some 5, rtfail := 2 }, 0, by decide⟩

theorem witness_DramMaintenance_11 : ∃ (s : State) (ch : Nat),
    (s.chan ch).st = 1 ∧ (s.chan ch).retryAt.isSome = true ∧ (s.chan ch).rtfail = 3 :=
  ⟨upC { ch0 with retryAt := some 5, rtfail := 3 }, 0, by decide⟩

theorem witness_DramMaintenance_13 : ∃ (s : State) (ch : Nat),
    (s.chan ch).st = 1 :=
  ⟨upC ch0, 0, by decide⟩

/-! OneDeviceCorrected -/

theorem witness_OneDeviceCorrected_1 : ∃ (e : Nat → Nat) (i v : Nat),
    i < 20 ∧ 0 < v ∧ v < 256 ∧ (∀ j, e j = if j = i then v else 0) :=
  ⟨fun j => if j = 19 then 255 else 0, 19, 255, by exact ⟨by decide, by decide, by decide, fun _ => rfl⟩⟩

/-! RowTable -/

theorem witness_RowTable_1 : ∃ (l : List (Nat × Nat)) (row n : Nat), l.find? (fun p => p.1 == row) = some (row, n) := ⟨[(7, 2), (9, 4)], 9, 4, by decide⟩

theorem witness_RowTable_2 : ∃ (l : List (Nat × Nat)) (row : Nat),
    l.find? (fun p => p.1 == row) = none ∧ l.length = 16 :=
  ⟨(List.range 16).map (fun i => (i, 3)), 99, by decide⟩

theorem witness_RowTable_3 : ∃ (l : List (Nat × Nat)) (row : Nat),
    l.find? (fun p => p.1 == row) = none ∧ l.length < 16 :=
  ⟨(List.range 15).map (fun i => (i, 3)), 99, by decide⟩

/-! StoreCommands -/

theorem witness_StoreCommands_1 : ∃ (s : State) (cv : Nat),
    160 ≤ cv ∧ cv < 256 :=
  ⟨up, 160, by decide⟩

theorem witness_StoreCommands_2 : ∃ (s : State) (cv : Nat),
    cv < 160 ∧ (s.fst.erasing = none ∨ s.cleanMode = false) :=
  ⟨up, 159, by decide⟩

theorem witness_StoreCommands_4 : ∃ (s : State) (k : Nat),
    s.fst.erasing = some k ∧ s.cleanMode = true ∧ flagSector k = false ∧ s.fst.cells.length < flagCells :=
  ⟨upT { erasing := some 20 }, 20, by decide⟩

theorem witness_StoreCommands_5 : ∃ (s : State),
    (s.fst.erasing = none ∨ s.cleanMode = false) :=
  ⟨up, by decide⟩

theorem witness_StoreCommands_6 : ∃ (s : State) (k e : Nat),
    s.fst.erasing = some e ∧ k ≠ e ∧ s.fst.susp = false ∧ (s.fst.resumed = false ∨ s.fst.erResume + 10000 ≤ s.now) :=
  ⟨upT { erasing := some 20 }, 21, 20, by decide⟩

theorem witness_StoreCommands_7 : ∃ (s : State) (k e : Nat),
    s.fst.erasing = some e ∧ (k = e ∨ s.fst.susp = false ∧ s.fst.resumed = true ∧ s.now < s.fst.erResume + 10000) :=
  ⟨upT { erasing := some 20 }, 20, 20, by decide⟩

theorem witness_StoreCommands_8 : ∃ (s : State) (k : Nat),
    (s.fst.erasing = none ∨ s.fst.susp = true ∧ s.fst.erasing ≠ some k) :=
  ⟨upT { erasing := some 20, susp := true }, 21, by decide⟩

theorem witness_StoreCommands_9 : ∃ (s : State) (k : Nat),
    s.fst.erasing = some k ∧ s.fst.susp = false ∧ s.storeUp = true ∧ s.waiters (.storeErase k) = [] ∧ s.fst.eraseQ = [] :=
  ⟨upT { erasing := some 20 }, 20, by decide⟩

theorem witness_StoreCommands_10 : ∃ (s : State) (k q : Nat) (r : List Nat),
    s.fst.erasing = some k ∧ s.fst.susp = false ∧ s.storeUp = true ∧ s.waiters (.storeErase k) = [] ∧ s.fst.eraseQ = q :: r ∧
      s.fst.cells.length < flagCells :=
  ⟨upT { erasing := some 20, eraseQ := [21] }, 20, 21, [], by decide⟩

theorem witness_StoreCommands_11 : ∃ (s : State),
    s.fst.susp = true :=
  ⟨upT { erasing := some 20, susp := true }, by decide⟩

theorem witness_StoreCommands_12 : ∃ (s : State) (cv k : Nat),
    cv < 160 ∧ s.fst.erasing = some k ∧ s.cleanMode = true ∧ flagSector k = false ∧ s.fst.cells.length < flagCells :=
  ⟨upT { erasing := some 20 }, 159, 20, by decide⟩

/-! LedgerCommands -/

theorem witness_LedgerCommands_1 : ∃ (s : State) (code : Nat) (arg : List Byte),
    code < 0xF000 ∧ s.led.frozen = false ∧ s.led.prog = none ∧ s.led.stage = [] ∧
      s.led.matchesHead { code := code, arg := arg } = false ∧ s.led.takes (ledClass code) = true ∧
      ledFree (ledClass code) = false ∧ s.ledTokens (ledClass code) ≠ 0 ∧ tget s.led.drops (ledClass code) 0 = 0 :=
  ⟨up, 0x1001, [1#8], by decide⟩

theorem witness_LedgerCommands_2 : ∃ (s : State) (code : Nat) (arg : List Byte),
    code < 0xF000 ∧ s.led.frozen = false ∧ s.led.prog = none ∧ s.led.stage = [] ∧
      s.led.matchesHead { code := code, arg := arg } = false ∧ s.led.takes (ledClass code) = true ∧
      ledFree (ledClass code) = false ∧ s.ledTokens (ledClass code) = 0 :=
  ⟨upE { tokens := [(ledClass 0x1001, 0)] }, 0x1001, [1#8], by decide⟩

theorem witness_LedgerCommands_3 : ∃ (s : State) (code : Nat) (arg : List Byte),
    code < 0xF000 ∧ s.led.frozen = false ∧ s.led.prog = none ∧ s.led.stage = [] ∧
      s.led.matchesHead { code := code, arg := arg } = true ∧ s.led.reps < 32 :=
  ⟨upE led31, 0x1001, [1#8], by decide⟩

theorem witness_LedgerCommands_4 : ∃ (s : State) (code : Nat) (arg : List Byte) (e : LedEv),
    code < 0xF000 ∧ s.led.frozen = false ∧ s.led.prog = some e ∧ s.led.stage = [] :=
  ⟨upE { prog := some ev0 }, 0xEFFF, [], ev0, by decide⟩

theorem witness_LedgerCommands_5 : ∃ (s : State) (e : LedEv),
    s.led.prog = some e ∧ s.led.stage = [] ∧ e.tally = 1 ∧ (s.led.matchesHead e && decide (s.led.reps < 32)) = false ∧
      s.led.head + 1 < 195840 :=
  ⟨upE { prog := some ev0 }, ev0, by decide⟩

theorem witness_LedgerCommands_6 : ∃ (s : State) (e : LedEv),
    s.led.prog = some e ∧ s.led.stage = [] ∧ e.tally = 1 ∧ s.led.matchesHead e = true ∧ s.led.reps < 32 :=
  ⟨upE { led31 with prog := some ev0 }, ev0, by decide⟩

theorem witness_LedgerCommands_7 : ∃ (s : State) (e : LedEv),
    s.led.prog = some e ∧ (s.led.matchesHead e && decide (s.led.reps < 32)) = false ∧ s.led.torn ≠ 2 :=
  ⟨upE { prog := some ev0, torn := 1 }, ev0, by decide⟩

theorem witness_LedgerCommands_8 : ∃ (s : State) (e : LedEv),
    s.led.prog = some e ∧ (s.led.matchesHead e && decide (s.led.reps < 32)) = false ∧ s.led.torn = 2 :=
  ⟨upE { prog := some ev0, torn := 2 }, ev0, by decide⟩

theorem witness_LedgerCommands_9 : ∃ (s : State) (f : Nat),
    f < 16 ∧ ledFree f = false ∧ s.ledTokens f < s.ledBurst f ∧ tget s.led.drops f 0 = 0 :=
  ⟨upE { tokens := [(1, 2)] }, 1, by decide⟩

theorem witness_LedgerCommands_10 : ∃ (s : State) (f : Nat) (p : LedEv),
    f < 16 ∧ ledFree f = false ∧ s.ledTokens f < s.ledBurst f ∧ tget s.led.drops f 0 ≠ 0 ∧ s.led.frozen = false ∧
      s.led.prog = some p :=
  ⟨upE { tokens := [(1, 2)], drops := [(1, 5)], prog := some ev0 }, 1, ev0, by decide⟩

/-! HeadUpdateQuietsRing -/

theorem witness_HeadUpdateQuietsRing_1 : ∃ (s : State) (g qid value : Nat) (q : Queue),
    s.reach g = true ∧ s.intakeMode = true ∧ s.q g qid = some q ∧ s.stalledOf (s.portOf g) = [] ∧
      headValid q (value % 65536) = true ∧ ({ q with head := value % 65536 } : Queue).unconsumed = 0 :=
  ⟨upQ { q0 with head := 0, tail := 0 }, 0, 0, 0x10000, { q0 with head := 0, tail := 0 }, by decide⟩

/-! FunctionNumbers -/

theorem witness_FunctionNumbers_1 : ∃ (s : State) (g : Nat),
    g < 1024 :=
  ⟨up, 1023, by decide⟩

theorem witness_FunctionNumbers_2 : ∃ (s : State) (p : Nat),
    p < s.nPf :=
  ⟨up, 7, by decide⟩

theorem witness_FunctionNumbers_3 : ∃ (s : State) (p k : Nat),
    p < s.nPf ∧ k < s.totalVfs p :=
  ⟨up, 7, 126, by decide⟩

theorem witness_FunctionNumbers_4 : ∃ (s : State) (g p : Nat),
    ((List.range s.nPf).map s.totalVfs).sum ≤ 1016 ∧ s.pfOf g = some p :=
  ⟨up, 1023, 7, by decide⟩

/-! ModeOrder -/

theorem witness_ModeOrder_1 : ∃ (s : State),
    s.mode.rescue = true :=
  ⟨{ up with mode := { rescue := true } }, by decide⟩

theorem witness_ModeOrder_2 : ∃ (s : State),
    s.mode.rescue = false ∧ s.mode.booting = true :=
  ⟨State.reset, by decide⟩

theorem witness_ModeOrder_3 : ∃ (s : State),
    s.mode.rescue = false ∧ s.mode.booting = false ∧ s.mode.dormant = true :=
  ⟨asleep, by decide⟩

theorem witness_ModeOrder_4 : ∃ (s : State),
    s.mode.rescue = false ∧ s.mode.booting = false ∧ s.mode.dormant = false ∧ s.mode.hold ≠ 0 :=
  ⟨{ up with mode := { booting := false, hold := 2 } }, by decide⟩

theorem witness_ModeOrder_5 : ∃ (s : State),
    s.mode.rescue = false ∧ s.mode.booting = false ∧ s.mode.dormant = false ∧ s.mode.hold = 0 :=
  ⟨up, by decide⟩

/-! StepsKeepMemory -/

theorem witness_StepsKeepMemory_1 : ∃ (s t : State),
    s.memOk ∧ step s = .next t :=
  ⟨up, { up with now := up.now + 1 }, by exact ⟨rfl, rfl⟩⟩

end Sys2Proof.Tests
end

section
/-! SUPPORT. Writes of BAR0 and BAR4 (00 R6, R8; 02 R44, R46, R47, R49): which update a write that is not held back and not
dropped by DORMANT comes to, and what recording a bad access does. -/

namespace Sys2Proof.Machine

/-! ### A posted write that takes effect -/

/-- With no write of its link group waiting, a posted write that meets no full task register takes effect. -/
theorem posted_of_noneStalled (s t : State) (g : Nat) (i : Instr) (h : s.stalledOf (s.portOf g) = []) :
    s.posted g i false t = t := by
  simp [State.posted, h]

/-- Outside DORMANT an access of a BAR wakes nothing and takes effect. -/
theorem barWake_of_awake (s t : State) (g : Nat) (h : s.modeOf ≠ 5) : s.barWake g t = t := by
  simp [State.barWake, h]

/-! ### Registers of BAR0 -/

theorem bar0Write_ctrl (s : State) (g v : Nat) :
    s.bar0Write g 0x18 v = s.modFn g (fun f => { f with ctrl := BitVec.ofNat 3 v }) := rfl

theorem bar0Write_err (s : State) (g v : Nat) :
    s.bar0Write g 0x200 v = s.modFn g (fun f => { f with err := f.err &&& ~~~(BitVec.ofNat 10 v) }) := rfl

/-- A word of the request buffer; one written while BUSY tears the request (02 R46). -/
theorem bar0Write_reqBuf (s : State) (g off v : Nat) (h1 : 0x1000 ≤ off) (h2 : off < 0x2000) :
    s.bar0Write g off v = s.modFn g (fun f => { f with
      reqBuf := memWrite f.reqBuf (off - 0x1000) (leBytes 4 v), torn := f.torn || f.mbBusy }) := by
  unfold State.bar0Write
  rw [if_neg (by omega), if_neg (by omega), if_neg (by omega), if_neg (by omega), if_neg (by omega), if_neg (by omega),
    if_pos ⟨h1, h2⟩]

/-! ### What REGISTER_WRITE comes to -/

theorem exec_registerWrite (s : State) (g bar off w v : Nat) :
    exec (.registerWrite g bar off w v) s = execRegisterWrite g bar off w v s := rfl

section
variable {s : State} {g : Nat} (hr : s.reach g = true) (hq : s.stalledOf (s.portOf g) = []) (hm : s.modeOf ≠ 5)
include hq

/-- A write of BAR0 or BAR4 waits for no task register (03 R84). -/
theorem exec_registerWrite_of_bar (bar off w v : Nat) (hb : bar = 0 ∨ bar = 4) :
    exec (.registerWrite g bar off w v) s = .next (s.barPost g bar off w v) := by
  rw [exec_registerWrite]
  obtain rfl | rfl := hb
  · exact congrArg _ (posted_of_noneStalled s _ g _ hq)
  · exact congrArg _ (posted_of_noneStalled s _ g _ hq)

include hr hm

theorem exec_registerWrite_bar0_word (off v : Nat) (hw : off % 4 = 0) :
    exec (.registerWrite g 0 off 4 v) s = .next (s.bar0Write g off (v % 2 ^ 32)) := by
  rw [exec_registerWrite_of_bar hq 0 off 4 v (.inl rfl)]
  simp [State.barPost, barWake_of_awake, wide, hr, hm, hw]

theorem exec_registerWrite_bar0_narrow (off w v : Nat) (hw : wide off w = false) :
    exec (.registerWrite g 0 off w v) s = .next (s.errAccess g 0 0 off) := by
  rw [exec_registerWrite_of_bar hq 0 off w v (.inl rfl)]
  simp [State.barPost, barWake_of_awake, hr, hm, hw]

/-- Without a debug authorisation every field of BAR4 is read-only (02 R49). -/
theorem exec_registerWrite_bar4 (off w v : Nat) (hp : s.isPf g = true) (hw : wide off w = true)
    (hd : s.fst.fuses.dbgAuth = false) : exec (.registerWrite g 4 off w v) s = .next (s.errAccess g 9 4 off) := by
  rw [exec_registerWrite_of_bar hq 4 off w v (.inr rfl)]
  simp [State.barPost, State.bar4Write, barWake_of_awake, hr, hm, hp, hw, hd]

end

/-! ### Sticky errors and the access they record -/

/-- From `s` to `t` every function but `g` stands, and `g` keeps its recorded access and loses no bit of FN_ERR: what a
sticky error and the message it fires leave (02 R44, R47, R51). -/
structure StickyAt (g : Nat) (s t : State) : Prop where
  others : ∀ g', g' ≠ g → t.fn g' = s.fn g'
  errOff : (t.fn g).errOff = (s.fn g).errOff
  errBar : (t.fn g).errBar = (s.fn g).errBar
  err : ∀ b, (s.fn g).err.getLsbD b = true → (t.fn g).err.getLsbD b = true

theorem stickyAt_refl (g : Nat) (s : State) : StickyAt g s s := ⟨fun _ _ => rfl, rfl, rfl, fun _ h => h⟩

theorem stickyAt_trans {g : Nat} {s t u : State} (h : StickyAt g s t) (k : StickyAt g t u) : StickyAt g s u :=
  ⟨fun g' e => (k.others g' e).trans (h.others g' e), k.errOff.trans h.errOff, k.errBar.trans h.errBar,
    fun b e => k.err b (h.err b e)⟩

theorem stickyAt_emit (g : Nat) (s : State) (o : Output) : StickyAt g s (s.emit o) :=
  ⟨fun _ _ => rfl, rfl, rfl, fun _ h => h⟩

theorem stickyAt_modVec (s : State) (g v : Nat) (h : Vec → Vec) : StickyAt g s (s.modFn g (fun f => f.modVec v h)) :=
  ⟨fun g' e => fn_modFn_other s g g' _ e, by rw [fn_modFn_same]; rfl, by rw [fn_modFn_same]; rfl,
    fun b e => by rw [fn_modFn_same]; exact e⟩

theorem stickyAt_orErr (s : State) (g : Nat) (m : BitVec 10) :
    StickyAt g s (s.modFn g (fun f => { f with err := f.err ||| m })) :=
  ⟨fun g' e => fn_modFn_other s g g' _ e, by rw [fn_modFn_same], by rw [fn_modFn_same],
    fun b e => by rw [fn_modFn_same, BitVec.getLsbD_or, e, Bool.true_or]⟩

theorem msixSend_stickyAt (s : State) (g v : Nat) : StickyAt g s (s.msixSend g v) := by
  unfold State.msixSend
  refine stickyAt_trans (t := if s.dmaOk g then s.emit _ else s) ?_ (stickyAt_modVec _ _ _ _)
  split
  · exact stickyAt_emit _ _ _
  · exact stickyAt_refl _ _

theorem msixCore_stickyAt (s : State) (g v : Nat) : StickyAt g s (s.msixCore g v) := by
  unfold State.msixCore
  dsimp only
  split
  · exact stickyAt_modVec _ _ _ _
  · split
    · exact stickyAt_modVec _ _ _ _
    · exact msixSend_stickyAt _ _ _

/-- A bit of FN_ERR that becomes 1 is set first; what follows is sticky. -/
theorem errSet_after_set (s : State) (g bit : Nat) (h : (s.fn g).err.getLsbD bit = false) :
    StickyAt g (s.modFn g (fun f => { f with err := f.err ||| (1#10 <<< bit) })) (s.errSet g bit) := by
  unfold State.errSet
  dsimp only
  rw [h, if_neg Bool.false_ne_true]
  split
  · refine stickyAt_trans ?_ (msixCore_stickyAt _ _ _)
    split
    · exact stickyAt_orErr _ _ _
    · exact stickyAt_refl _ _
  · exact stickyAt_refl _ _

theorem errSet_of_set (s : State) (g bit : Nat) (h : (s.fn g).err.getLsbD bit = true) : s.errSet g bit = s := by
  unfold State.errSet
  exact if_pos h

theorem errSet_stickyAt (s : State) (g bit : Nat) : StickyAt g s (s.errSet g bit) := by
  cases h : (s.fn g).err.getLsbD bit with
  | true => rw [errSet_of_set s g bit h]; exact stickyAt_refl _ _
  | false => exact stickyAt_trans (stickyAt_orErr _ _ _) (errSet_after_set s g bit h)

theorem errSet_getLsbD (s : State) (g bit : Nat) (hb : bit < 10) : ((s.errSet g bit).fn g).err.getLsbD bit = true := by
  cases h : (s.fn g).err.getLsbD bit with
  | true => rw [errSet_of_set s g bit h]; exact h
  | false =>
    refine (errSet_after_set s g bit h).err bit ?_
    rw [fn_modFn_same]
    simp [hb]

/-- A bad access sets its bit (02 R44, R47). -/
theorem errAccess_getLsbD (s : State) (g bit bar off : Nat) (hb : bit < 10) :
    ((s.errAccess g bit bar off).fn g).err.getLsbD bit = true := errSet_getLsbD _ g bit hb

/-- A bad access leaves every other function. -/
theorem errAccess_other (s : State) (g bit bar off g' : Nat) (h : g' ≠ g) : (s.errAccess g bit bar off).fn g' = s.fn g' := by
  unfold State.errAccess
  refine ((errSet_stickyAt _ g bit).others g' h).trans ?_
  split
  · exact fn_modFn_other s g g' _ h
  · rfl

/-- The first bad access is recorded (02 R47). -/
theorem errAccess_captures (s : State) (g bit bar off : Nat) (h : (s.fn g).err &&& 0x203#10 = 0) :
    ((s.errAccess g bit bar off).fn g).errOff = BitVec.ofNat 24 off ∧
      ((s.errAccess g bit bar off).fn g).errBar = BitVec.ofNat 3 bar := by
  unfold State.errAccess
  dsimp only
  rw [if_pos h, (errSet_stickyAt _ g bit).errOff, (errSet_stickyAt _ g bit).errBar, fn_modFn_same]
  exact ⟨rfl, rfl⟩

end Sys2Proof.Machine
end

section
/-! The statements about scope (00). -/

open Sys2Proof Sys2Proof.Machine

/-- Settles O11: each write comes to one update of its function, or to the record of a bad access, which keeps the rest. -/
theorem registerWrites : Obligations.RegisterWrites := by
  unfold Obligations.RegisterWrites
  refine ⟨?ctrl, ?err, ?reqBuf, ?narrow, ?readOnly⟩
  case ctrl =>
    intro s g v hr hq hm
    have low : BitVec.ofNat 3 (v % 2 ^ 32) = BitVec.ofNat 3 v := BitVec.eq_of_toNat_eq (by simp)
    rw [exec_registerWrite_bar0_word hr hq hm 0x18 v rfl, bar0Write_ctrl, low]
  case err =>
    intro s g v hr hq hm
    have low : BitVec.ofNat 10 (v % 2 ^ 32) = BitVec.ofNat 10 v := BitVec.eq_of_toNat_eq (by simp)
    rw [exec_registerWrite_bar0_word hr hq hm 0x200 v rfl, bar0Write_err, low]
  case reqBuf =>
    intro s g off v hr hq hm h1 h2 hw
    refine ⟨_, exec_registerWrite_bar0_word hr hq hm off v hw, ?_⟩
    rw [bar0Write_reqBuf s g off _ h1 h2]
    refine ⟨modFn_fns s g _, by rw [fn_modFn_same], fun a ha => ?_, fun g' e => fn_modFn_other s g g' _ e⟩
    rw [fn_modFn_same]
    exact memByte_memWrite_other _ _ a _ ha
  case narrow =>
    intro s g off w v hr hq hm hw
    obtain ⟨frame, self⟩ := errAccess_onlyIrq s g 0 0 off
    exact ⟨_, exec_registerWrite_bar0_narrow hr hq hm off w v hw, frame, self g, errAccess_getLsbD s g 0 0 off (by omega),
      errAccess_captures s g 0 0 off, errAccess_other s g 0 0 off⟩
  case readOnly =>
    intro s g off w v hr hq hp hm hw hd
    obtain ⟨frame, self⟩ := errAccess_onlyIrq s g 9 4 off
    exact ⟨_, exec_registerWrite_bar4 hr hq hm off w v hp hw hd, frame, self g, errAccess_getLsbD s g 9 4 off (by omega),
      errAccess_captures s g 9 4 off, errAccess_other s g 9 4 off⟩

end
